-- ==== Sys2Proof/Word.lean ====
section
/-! DEFINITION. The word types of the IZH620 model: registers and instruction words are 32 bits (03 R71, 04 R93),
bytes are the unit of memory, the time base has 64 bits (13 R361). -/
namespace Sys2Proof

/-- A register or instruction word (03 R71, 04 R93). -/
abbrev Word := BitVec 32

/-- The unit of memory. -/
abbrev Byte := BitVec 8

/-- A value of the 64-bit time base, in ticks of 5 ns (13 R361). -/
abbrev Stamp := BitVec 64

end Sys2Proof
end

