-- ==== Sys2Proof/Syntax.lean ====
section
/-! DEFINITION. The commands of the block, one constructor per row of spec/opcode_table.json, with their operands: what a
master sends, or what the outside world shows the device in that event. -/
namespace Sys2Proof

/-- The five OIS processors (04 R93): the application cores AC0 to AC3 and the safety processor. -/
inductive Proc where
  | ac (n : Fin 4)
  | safety
deriving DecidableEq, Repr

/-- The operand fields of a Format R word (04 R100) beside its opcode and function. -/
structure FmtR where
  rd : BitVec 4
  ra : BitVec 4
  rb : BitVec 4
  aux : BitVec 8
deriving DecidableEq, Repr

/-- The operand fields of a Format I word (04 R100). -/
structure FmtI where
  rd : BitVec 4
  ra : BitVec 4
  imm : BitVec 18
deriving DecidableEq, Repr

/-- The operand fields of a Format J word (04 R100). -/
structure FmtJ where
  sel : BitVec 5
  off : BitVec 21
deriving DecidableEq, Repr

/-- The operand fields of a Format X word (04 R100) beside its function. -/
structure FmtX where
  sd : BitVec 5
  sa : BitVec 5
  sb : BitVec 5
  sc : BitVec 5
deriving DecidableEq, Repr

/-- The operand fields of a Format L word (04 R100). -/
structure FmtL where
  count : BitVec 14
  len : BitVec 12
deriving DecidableEq, Repr

/-- The operand fields of an SES word (04 R121): its function bits imm18[17:16] belong to the mnemonic. -/
structure FmtS where
  rd : BitVec 4
  ra : BitVec 4
  imm : BitVec 16
deriving DecidableEq, Repr

/-- How a register is addressed in a write (03 R73): directly or through an alias. -/
inductive WriteKind where
  | direct | set | clr | tgl
deriving DecidableEq, Repr

/-- The size of an access in bits (03 R71). -/
inductive AccessSize where
  | b8 | b16 | b32
deriving DecidableEq, Repr

/-- An antifuse word that no longer reads as burned (19 R483): its 39 raw bits at normal and at strict margin. -/
structure WeakWord where
  word : BitVec 10
  normal : BitVec 39
  strict : BitVec 39
deriving DecidableEq, Repr

/-- What the power-on run shows (18 R472, R473): bit n of failed is step n + 1 of its steps 1 to 10; the PHYs and loop
ADCs that failed step 11; the run's time in 0.1 ms; and a hold-up capacitance below 470 uF. -/
structure PostEnv where
  failed : BitVec 10
  /-- outputs whose on-test did not pass (08 R251) -/
  onFail : BitVec 12
  phyFail : BitVec 4
  loopFail : BitVec 4
  time : BitVec 16
  capLow : Bool
deriving DecidableEq, Repr

/-- The conditions of 18 R471 at the planned start of a slice: VL, a rail or a junction temperature out of its range. -/
structure SliceEnv where
  vlBad : Bool
  railBad : Bool
  hot : Bool
deriving DecidableEq, Repr

/-- What a slice measured (18 R468, R475): for a sequence other than INCMP whether its step failed and whether the comparison before
the hand-back disagreed; the limiter current of an input in uA where the slice measured it (07 R219), and the item and values of its
result entry. -/
structure SliceResult where
  failed : Bool
  disagreed : Bool
  limiter : Option (BitVec 16)
  item : Byte
  meas : Word
  low : Word
  high : Word
deriving DecidableEq, Repr

/-- How one burned word came out (19 R489): bits that failed strict verify after 8 pulses, and those of them that read 1 at
normal margin all the same. -/
structure BurnFail where
  word : BitVec 10
  failed : BitVec 39
  normal : BitVec 39
deriving DecidableEq, Repr

/-- How the burns of a job went (19 R489): VL left 19.2 V to 30 V, the words burned before the job stopped (where it is
stopped), and the bits that failed. -/
structure BurnEnv where
  vlBad : Bool
  words : BitVec 11
  fails : List BurnFail
deriving DecidableEq, Repr

/-- How a frame of the ridge link arrived (21 R540, R541). -/
inductive LinkErr where
  | none | code | crc
deriving DecidableEq, Repr

/-- What the field die shows channel A at its strobe (07, 08): pads below -1 V, readback, mid-point and drop comparators of the outputs,
and the runtime's own CRC check (05 R137); and how many trimmed RC periods after channel B's previous strobe, or after the mode
decision before the first, this strobe reaches channel B (01 R24). Log entry 19, DESIGN CHOICE. -/
structure StrobeEnv where
  rev : BitVec 32
  rb : BitVec 12
  mid : BitVec 12
  bdrop : BitVec 12
  crcOk : Bool
  rc : BitVec 32
deriving DecidableEq, Repr

/-- What channel B senses at its strobe: as channel A, with the encoder front end's samples, the evaluation time and
REFCNT (06 R207, 01 R39). -/
structure StrobeEnvB where
  rev : BitVec 32
  rb : BitVec 12
  mid : BitVec 12
  bdrop : BitVec 12
  /-- levels of the 16 TIO pins at the front end's samples since the previous strobe at which any changed, oldest first (06 R189) -/
  encs : List (BitVec 16)
  evalT : BitVec 16
  refcnt : BitVec 32
deriving DecidableEq, Repr

/-- An access of the fabric window: an FWLD, or with `store` an FWST (04 R112). -/
structure WindowAccess where
  store : Bool
  f : FmtI
deriving DecidableEq, Repr

/-- A level at a pin and the consecutive samples for which it has held (13 R367, 15 R406). -/
structure HeldLevel where
  level : Bool
  held : BitVec 16
deriving DecidableEq, Repr

/-- Samples of an input's comparator and of the spare that serves it, one a microsecond each (07 R215, R221). -/
structure InSamples where
  own : List Bool
  spare : List Bool
deriving DecidableEq, Repr

/-- A frame on a ring port (11 R311): its bytes from the destination address to the end of the payload, whether its FCS
was right, and whether it ended as a fragment (R316). -/
structure RingFrame where
  bytes : List Byte
  fcsOk : Bool
  fragment : Bool
deriving DecidableEq, Repr

/-- What one loop channel's converters read at a DAC update (14 R391, R392): readback code, headroom and terminal
voltage in 10 mV, driver junction in degrees C, the driver's dissipation over 1 ms in mW, and in sink mode whether the
terminals stand below 0.5 V apart. -/
structure LoopSample where
  rb : BitVec 16
  head : BitVec 16
  vp : BitVec 16
  temp : BitVec 10
  pdiss : BitVec 16
  low : Bool
deriving DecidableEq, Repr

/-- What the patrol scrubber finds in a word (16 R427, R428). -/
inductive EccErr where
  | none | single | double
deriving DecidableEq, Repr

/-- One junction sensor over a window (17 R447, R459): highest and last sample and prediction in degrees C, signed. -/
structure SensorSample where
  peak : BitVec 10
  last : BitVec 10
  pred : BitVec 10
deriving DecidableEq, Repr

/-- Completed handshakes of a unit in a window, by class (17 R445). -/
structure HandSample where
  h0 : BitVec 32
  h1 : BitVec 32
  h2 : BitVec 32
  h3 : BitVec 32
deriving DecidableEq, Repr

/-- What is reported for the governor window that closes (17 R445-R447, R456): measured P_logic and D_field in mW, the completed
handshakes of operations below the commands, VL in 10 mV and the regulator current in mA, the eight sensors, and the ticks for which
each of the four cores ran. -/
structure GovEnv where
  pLogic : BitVec 16
  dField : BitVec 16
  /-- per unit, the completed handshakes of operations below the commands (17 R445) -/
  hidden : List HandSample
  vl : BitVec 16
  iin : BitVec 16
  sensors : List SensorSample
  ranFor : List (BitVec 18)
deriving DecidableEq, Repr

/-- Which grant ends (17 R449): a core's or a hardware job's. -/
inductive GrantRef where
  | core (k : Fin 4)
  | job (n : BitVec 16)
deriving DecidableEq, Repr

/-- The commands of the IZH620. The name of each in the opcode table is its entry in LAWS.json. -/
inductive Instr where
  /-- POWER_UP (02 R47: VL rises, logic rail up). -/
  | powerUp
  /-- LOGIC_RAIL_FAIL (02 R47: the logic rail fails). -/
  | logicRailFail
  /-- RST_N_LOW (23 R574, 02 R47, R50: RST_N has been low for 1 us or more). -/
  | rstNLow
  /-- RESET_RELEASE (02 R47: power valid and RST_N high for 1 ms; the ridge ID straps (21), whether the PLL has lock (13 R362) as
  then read, and the antifuse words that read differently since they were last sensed (19 R483)). -/
  | resetRelease (straps : BitVec 3) (pll : Bool) (weak : List WeakWord)
  /-- POWER_ON_RUN_COMPLETE (18 R473: the power-on run ends). -/
  | powerOnRunComplete (e : PostEnv)
  /-- MODE_DECISION (20 R505, 02 R47: the checks are complete and the mode that ends VERIFY is decided). -/
  | modeDecision
  /-- LOADER_RUN (06 R203: the lattice loader runs on the released parameter image of a slot). -/
  | loaderRun (slot : Bool)
  /-- VHOLD_CHARGED (22 R551: VHOLD has reached VL - 2 V). -/
  | vholdCharged
  /-- VHOLD_CHARGE_TIMEOUT (22 R551: 500 ms passed without VHOLD charged). -/
  | vholdChargeTimeout
  /-- HOLDUP_ENTRY (02 R46, R53: VL falls below 16.0 V). -/
  | holdupEntry
  /-- HOLDUP_FLUSH_COMPLETE (02 R53: the hold-up flush ends). -/
  | holdupFlushComplete
  /-- POWER_CYCLE_DETECT (02 R46, R50: VL has stayed below 10 V for 100 ms). -/
  | powerCycleDetect
  /-- VL_OVERVOLTAGE (01 R36: VL has been above 31.5 V for 1 ms (high), or is back below). -/
  | vlOvervoltage (high : Bool)
  /-- CORE_RAIL_FAULT (01 R36: VCA (or VCB) leaves its window, or is back inside). -/
  | coreRailFault (railB : Bool) (bad : Bool)
  /-- JUNCTION_OVERTEMP (01 R36: a junction sensor exceeds 130 C, or is back below). -/
  | junctionOvertemp (sensor : Fin 8) (hot : Bool)
  /-- VIO_FAULT (10 R290: VIO has been outside 3.0 V to 3.6 V for 1 ms, or is back inside). -/
  | vioFault (bad : Bool)
  /-- CYCLE_STROBE (01 R23, R26: WC0 fires; what the field die shows channel A at this strobe). -/
  | cycleStrobe (e : StrobeEnv)
  /-- CHANNEL_B_STROBE_LOCKED (01 R24: channel A's strobe lies inside channel B's window; what channel B senses). -/
  | channelBStrobeLocked (e : StrobeEnvB)
  /-- ACCEPTANCE_WINDOW_CLOSE (01 R24: channel B strobes at its window's close; what channel B senses). -/
  | acceptanceWindowClose (e : StrobeEnvB)
  /-- EARLY_STROBE_IGNORED (01 R24: channel A's strobe came before channel B's window opened). -/
  | earlyStrobeIgnored
  /-- COL_SLOT_END (01 R26, R29, 10 R292: the col slot ends; measured paces in 0.1 M/s, and whether a reaction line or mode line
  reads back different). -/
  | colSlotEnd (paceA : BitVec 16) (paceB : BitVec 16) (reactDiff : Bool) (modeDiff : Bool)
  /-- FAULT_RECEIPT (10 R288: a Fault code, or an invalid code (wiring), of source n has been held for 100 ns; detail names the item
  where the source's detector is outside the model's state). -/
  | faultReceipt (n : BitVec 8) (wiring : Bool) (detail : BitVec 16)
  /-- WIRING_FAULT (10 R288: an invalid code of source n has been held for 1 us). -/
  | wiringFault (n : BitVec 8) (detail : BitVec 16)
  /-- SOURCE_CLEAR (10 R297: the code of source n has returned to OK). -/
  | sourceClear (n : BitVec 8)
  /-- OUTPUTS_CONFIRMED_OFF (02 R49: mid-point and readback OFF and clamp sense INACTIVE on 3 samples for every output, in both
  channels). -/
  | outputsConfirmedOff
  /-- REACT_CONFIRM_TIMEOUT (02 R49: 50 ms passed without confirmation). -/
  | reactConfirmTimeout
  /-- QUIET_PERIOD_COMPLETE (10 R297: source n has read OK throughout its quiet period). -/
  | quietPeriodComplete (n : BitVec 8)
  /-- SOFTWARE_RESTART (02 R62: master m writes TARGET 0x1 to SYS.MODEREQ). -/
  | softwareRestart (m : Fin 10)
  /-- SERVICE_EXIT (02 R62: master m writes TARGET 0x2 to SYS.MODEREQ). -/
  | serviceExit (m : Fin 10)
  /-- SERVICE_REQUEST (02 R51: master m writes TARGET 0xA to SYS.MODEREQ). -/
  | serviceRequest (m : Fin 10)
  /-- TEST_RELEASE_START (02 R66: master m writes v, with START, to SYS.TESTREL). -/
  | testReleaseStart (m : Fin 10) (v : Word)
  /-- TEST_RELEASE_STOP (02 R66: master m writes v, with STOP, to SYS.TESTREL). -/
  | testReleaseStop (m : Fin 10) (v : Word)
  /-- TEST_RELEASE_EXPIRE (02 R54: the 60 s of the running test release are over). -/
  | testReleaseExpire
  /-- COMMIT (03 R78: master m writes SYS.COMMIT). -/
  | commit (m : Fin 10) (mask : Word)
  /-- COMMIT_APPLY (03 R78: every group of the commit in progress is held at its safe point). -/
  | commitApply
  /-- DISCARD (03 R80: master m writes SYS.DISCARD). -/
  | discard (m : Fin 10) (mask : Word)
  /-- SNAPSHOT_REQUEST (03 R87: master m writes SYS.SNAPREQ). -/
  | snapshotRequest (m : Fin 10) (v : Word)
  /-- SNAPSHOT (03 R87: the tick that takes the requested snapshot ends). -/
  | snapshot
  /-- TIME_BASE_LOW_READ (03 R86: master m reads TMR.TBL). -/
  | timeBaseLowRead (m : Fin 10)
  /-- REGISTER_WRITE (03 R69, R71: master m writes v to a register address, directly or through an alias, with an access of the
  given size). -/
  | registerWrite (m : Fin 10) (addr : Word) (v : Word) (size : AccessSize)
  /-- USRRAISE (10 R304: master m writes FLT.USRRAISE). -/
  | usrraise (m : Fin 10) (kind : WriteKind) (v : Word)
  /-- REVOKE_SET (10 R301: master m writes the SET alias of FLT.REVOKE). -/
  | revokeSet (m : Fin 10) (v : Word)
  /-- REVOKE_CLEAR (10 R301: master m writes the CLR alias of FLT.REVOKE). -/
  | revokeClear (m : Fin 10) (v : Word)
  /-- ADD (04 R105: rd := ra + rb). -/
  | add (p : Proc) (f : FmtR)
  /-- SUB (04 R105: rd := ra - rb). -/
  | sub (p : Proc) (f : FmtR)
  /-- AND (04 R105: rd := ra and rb). -/
  | and_ (p : Proc) (f : FmtR)
  /-- OR (04 R105: rd := ra or rb). -/
  | or_ (p : Proc) (f : FmtR)
  /-- XOR (04 R105: rd := ra xor rb). -/
  | xor_ (p : Proc) (f : FmtR)
  /-- SLL (04 R105: shift left by rb[4:0]). -/
  | sll (p : Proc) (f : FmtR)
  /-- SRL (04 R105: logical shift right by rb[4:0]). -/
  | srl (p : Proc) (f : FmtR)
  /-- SRA (04 R105: arithmetic shift right by rb[4:0]). -/
  | sra (p : Proc) (f : FmtR)
  /-- SLLI (04 R105: shift left by aux[4:0]). -/
  | slli (p : Proc) (f : FmtR)
  /-- SRLI (04 R105: logical shift right by aux[4:0]). -/
  | srli (p : Proc) (f : FmtR)
  /-- SRAI (04 R105: arithmetic shift right by aux[4:0]). -/
  | srai (p : Proc) (f : FmtR)
  /-- MUL (04 R105: low product). -/
  | mul (p : Proc) (f : FmtR)
  /-- MULH (04 R105: high signed product). -/
  | mulh (p : Proc) (f : FmtR)
  /-- MULHU (04 R105: high unsigned product). -/
  | mulhu (p : Proc) (f : FmtR)
  /-- CMP (04 R105: flags of ra - rb). -/
  | cmp (p : Proc) (f : FmtR)
  /-- TST (04 R105: flags of ra and rb). -/
  | tst (p : Proc) (f : FmtR)
  /-- MIN (04 R105: signed minimum). -/
  | min_ (p : Proc) (f : FmtR)
  /-- MAX (04 R105: signed maximum). -/
  | max_ (p : Proc) (f : FmtR)
  /-- MINU (04 R105: unsigned minimum). -/
  | minu (p : Proc) (f : FmtR)
  /-- MAXU (04 R105: unsigned maximum). -/
  | maxu (p : Proc) (f : FmtR)
  /-- DIVC_SIGNED_QUOTIENT (04 R106). -/
  | divcSq (p : Proc) (f : FmtR)
  /-- DIVC_UNSIGNED_QUOTIENT (04 R106). -/
  | divcUq (p : Proc) (f : FmtR)
  /-- DIVC_SIGNED_REMAINDER (04 R106). -/
  | divcSr (p : Proc) (f : FmtR)
  /-- DIVC_UNSIGNED_REMAINDER (04 R106). -/
  | divcUr (p : Proc) (f : FmtR)
  /-- DIV_SIGNED_QUOTIENT (04 R106). -/
  | divSq (p : Proc) (f : FmtR)
  /-- DIV_UNSIGNED_QUOTIENT (04 R106). -/
  | divUq (p : Proc) (f : FmtR)
  /-- DIV_SIGNED_REMAINDER (04 R106). -/
  | divSr (p : Proc) (f : FmtR)
  /-- DIV_UNSIGNED_REMAINDER (04 R106). -/
  | divUr (p : Proc) (f : FmtR)
  /-- ADDI (04 R107). -/
  | addi (p : Proc) (f : FmtI)
  /-- ANDI (04 R107). -/
  | andi (p : Proc) (f : FmtI)
  /-- ORI (04 R107). -/
  | ori (p : Proc) (f : FmtI)
  /-- XORI (04 R107). -/
  | xori (p : Proc) (f : FmtI)
  /-- CMPI (04 R107). -/
  | cmpi (p : Proc) (f : FmtI)
  /-- LUI (04 R107). -/
  | lui (p : Proc) (f : FmtI)
  /-- DWMK (04 R108). -/
  | dwmk (p : Proc) (f : FmtR)
  /-- DWADD (04 R108). -/
  | dwadd (p : Proc) (f : FmtR)
  /-- DWSUB (04 R108). -/
  | dwsub (p : Proc) (f : FmtR)
  /-- DWLO (04 R108). -/
  | dwlo (p : Proc) (f : FmtR)
  /-- LDW (04 R109). -/
  | ldw (p : Proc) (f : FmtI)
  /-- LDH (04 R109). -/
  | ldh (p : Proc) (f : FmtI)
  /-- LDHU (04 R109). -/
  | ldhu (p : Proc) (f : FmtI)
  /-- LDB (04 R109). -/
  | ldb (p : Proc) (f : FmtI)
  /-- LDBU (04 R109). -/
  | ldbu (p : Proc) (f : FmtI)
  /-- STW (04 R109). -/
  | stw (p : Proc) (f : FmtI)
  /-- STH (04 R109). -/
  | sth (p : Proc) (f : FmtI)
  /-- STB (04 R109). -/
  | stb (p : Proc) (f : FmtI)
  /-- IOLD (04 R111). -/
  | iold (p : Proc) (f : FmtI)
  /-- IOST (04 R111). -/
  | iost (p : Proc) (f : FmtI)
  /-- REC_DONE (05 R154, R159: the runtime ends its epilogue (or its handler, R166) by writing REC_DONE). -/
  | recDone
  /-- CYCSET (05 R140, R156, R157: the runtime writes CYCSET). -/
  | cycset (code : BitVec 32)
  /-- RESTORE (05 R146: the runtime writes RESTORE in an entry cycle). -/
  | restore
  /-- RESTORE_COMPLETE (05 R146: the restore engine ends its copy). -/
  | restoreComplete
  /-- FLTA (05 R164: the runtime writes FLTA). -/
  | flta (v : BitVec 6)
  /-- FWLD (04 R112). -/
  | fwld (p : Proc) (f : FmtI)
  /-- FWST (04 R112). -/
  | fwst (p : Proc) (f : FmtI)
  /-- FABRIC_WINDOW_TIMEOUT (04 R112: the window access of this FWLD or FWST has had no response for 500 ns). -/
  | fabricWindowTimeout (x : WindowAccess)
  /-- AMOSWAP (04 R113). -/
  | amoswap (p : Proc) (f : FmtR)
  /-- AMOADD (04 R113). -/
  | amoadd (p : Proc) (f : FmtR)
  /-- AMOCAS (04 R113). -/
  | amocas (p : Proc) (f : FmtR)
  /-- B (04 R114). -/
  | br (p : Proc) (f : FmtJ)
  /-- BL (04 R115). -/
  | bl (p : Proc) (f : FmtJ)
  /-- CALL (04 R115). -/
  | call (p : Proc) (f : FmtJ)
  /-- JR (04 R115). -/
  | jr (p : Proc) (f : FmtR) (fn : BitVec 6)
  /-- JLR (04 R115). -/
  | jlr (p : Proc) (f : FmtR) (fn : BitVec 6)
  /-- BSBT (04 R115). -/
  | bsbt (p : Proc) (f : FmtJ)
  /-- BSBF (04 R115). -/
  | bsbf (p : Proc) (f : FmtJ)
  /-- LOOP (04 R116). -/
  | loop (p : Proc) (f : FmtL)
  /-- SMOV (04 R118, 05 R142). -/
  | smov (p : Proc) (f : FmtX)
  /-- SNOT (04 R118, 05 R142). -/
  | snot (p : Proc) (f : FmtX)
  /-- SAND (04 R118, 05 R143). -/
  | sand (p : Proc) (f : FmtX)
  /-- SOR (04 R118, 05 R143). -/
  | sor (p : Proc) (f : FmtX)
  /-- SXOR (04 R118, 05 R143). -/
  | sxor (p : Proc) (f : FmtX)
  /-- SAND3 (04 R118, 05 R144). -/
  | sand3 (p : Proc) (f : FmtX)
  /-- SOR3 (04 R118, 05 R144). -/
  | sor3 (p : Proc) (f : FmtX)
  /-- SSEL (04 R118, 05 R144). -/
  | ssel (p : Proc) (f : FmtX)
  /-- SCONST (04 R118, 05 R118). -/
  | sconst (p : Proc) (f : FmtX)
  /-- SVALID (04 R118, 05 R142). -/
  | svalid (p : Proc) (f : FmtX)
  /-- SBTOG (04 R118, 05 R118). -/
  | sbtog (p : Proc) (f : FmtX)
  /-- SCMP (04 R119). -/
  | scmp (p : Proc) (f : FmtX) (fn : BitVec 6)
  /-- SBIN (04 R120). -/
  | sbin (p : Proc) (f : FmtX)
  /-- SBOUT (04 R120). -/
  | sbout (p : Proc) (f : FmtX)
  /-- SSEND (04 R121). -/
  | ssend (p : Proc) (f : FmtS)
  /-- SRECV (04 R121). -/
  | srecv (p : Proc) (f : FmtS)
  /-- NOP (04 R123). -/
  | nop (p : Proc) (f : FmtR)
  /-- TRAP (04 R123). -/
  | trap (p : Proc) (f : FmtR)
  /-- RFE (04 R123). -/
  | rfe (p : Proc) (f : FmtR)
  /-- RET (04 R123). -/
  | ret (p : Proc) (f : FmtR)
  /-- MFST (04 R123). -/
  | mfst (p : Proc) (f : FmtR)
  /-- MTST (04 R123). -/
  | mtst (p : Proc) (f : FmtR)
  /-- MFSR (04 R123). -/
  | mfsr (p : Proc) (f : FmtR)
  /-- MTSR (04 R123). -/
  | mtsr (p : Proc) (f : FmtR)
  /-- FENCE (04 R123). -/
  | fence (p : Proc) (f : FmtR)
  /-- WFI (04 R123). -/
  | wfi (p : Proc) (f : FmtR)
  /-- BRK (04 R125). -/
  | brk (p : Proc) (f : FmtR)
  /-- CYCEND (04 R124). -/
  | cycend (p : Proc) (f : FmtR)
  /-- TNEW (04 R133, R134). -/
  | tnew (p : Proc) (f : FmtR)
  /-- TRUN (04 R133, R134). -/
  | trun (p : Proc) (f : FmtR)
  /-- TYIELD (04 R133, R134). -/
  | tyield (p : Proc) (f : FmtR)
  /-- TWAITQ (04 R133, R134). -/
  | twaitq (p : Proc) (f : FmtR)
  /-- TEXIT (04 R133, R134). -/
  | texit (p : Proc) (f : FmtR)
  /-- TKILL (04 R133, R134). -/
  | tkill (p : Proc) (f : FmtR)
  /-- TGET (04 R133, R134). -/
  | tget (p : Proc) (f : FmtR)
  /-- TSET (04 R133, R134). -/
  | tset (p : Proc) (f : FmtR)
  /-- TSELF (04 R133, R134). -/
  | tself (p : Proc) (f : FmtR)
  /-- TASK_WAKE (04 R133: the queue that context k waits on is not empty). -/
  | taskWake (k : Fin 64)
  /-- INTERRUPT (04 R127: core takes its pending interrupt n). -/
  | interrupt (core : Fin 4) (n : BitVec 6)
  /-- IMPRECISE_BUS (04 R110: the response to a posted store of core arrives with ERROR). -/
  | impreciseBus (core : Fin 4)
  /-- BREAKPOINT_HIT (21 R537: a breakpoint slot of p matches the address of the next instruction). -/
  | breakpointHit (p : Proc) (slot : Fin 4)
  /-- INPUT_FILTER_CHANGE (07 R220, R221: samples of one comparator output that take its filter to a change). -/
  | inputFilterChange (n : Fin 32) (chB : Bool) (samples : InSamples)
  /-- TEST_PULSE_START (07 R230). -/
  | testPulseStart (k : Fin 8)
  /-- TEST_PULSE_END (07 R230: which inputs read OFF on 5 consecutive samples inside the check window of each channel, which show a
  foreign pulse, and whether each channel's readback saw the pin low). -/
  | testPulseEnd (k : Fin 8) (seenA : BitVec 32) (seenB : BitVec 32) (foreignA : BitVec 32) (foreignB : BitVec 32) (tpA : Bool) (tpB : Bool)
  /-- TEST_PULSE_MASK_CLOSE (07 R230). -/
  | testPulseMaskClose (k : Fin 8)
  /-- TP_OVERLOAD_TRIP (07 R234). -/
  | tpOverloadTrip (k : Fin 8)
  /-- TP_OVERLOAD_RETRY (07 R234). -/
  | tpOverloadRetry (k : Fin 8)
  /-- TP_OVERLOAD_CLEAR (07 R234). -/
  | tpOverloadClear (k : Fin 8)
  /-- OFF_TEST_START (08 R248, R249). -/
  | offTestStart (k : Fin 12)
  /-- OFF_TEST_PASS (08 R249, R258: which other outputs' readbacks fell during the test). -/
  | offTestPass (fell : BitVec 12)
  /-- OFF_TEST_TIMEOUT (08 R249, R258: which other readbacks fell, and whether the mid-point stayed ON). -/
  | offTestTimeout (fell : BitVec 12) (midOn : Bool)
  /-- ON_TEST_START (08 R251, R252). -/
  | onTestStart (k : Fin 12)
  /-- ON_TEST_PASS (08 R252, R258: which other outputs' readbacks rose during the test). -/
  | onTestPass (rose : BitVec 12)
  /-- ON_TEST_TIMEOUT (08 R252, R258). -/
  | onTestTimeout (rose : BitVec 12)
  /-- OUTPUT_OVERLOAD_TRIP (08 R255: trip by current or limit time, or by temperature). -/
  | outputOverloadTrip (k : Fin 12) (temp : Bool)
  /-- OUTPUT_OVERLOAD_CLEAR (08 R255: off for 100 ms and below 140 C). -/
  | outputOverloadClear (k : Fin 12)
  /-- GROUP_CURRENT_TRIP (08 R259). -/
  | groupCurrentTrip (grpB : Bool)
  /-- GROUP_CURRENT_CLEAR (08 R259). -/
  | groupCurrentClear (grpB : Bool)
  /-- GROUP_SUPPLY_CHANGE (08 R259: the group supply falls below 17.5 V (low) or rises above 18.5 V). -/
  | groupSupplyChange (grpB : Bool) (low : Bool)
  /-- ENCODER_RATE_INTERVAL (09 R592: an 8 us interval of the encoder ends; the levels of the 16 TIO pins at the front end's samples
  in it, that before its begin first). -/
  | encoderRateInterval (axis : Fin 4) (enc : Fin 2) (lv : List (BitVec 16))
  /-- RING_FRAME_RECEIVE (11 R314, R315: a frame arrives on a port of a ring). -/
  | ringFrameReceive (ring2 : Bool) (portB : Bool) (f : RingFrame)
  /-- RING_TRANSMIT (11 R317: an egress port, idle after its frame, sends the first waiting frame). -/
  | ringTransmit (ring2 : Bool) (portB : Bool)
  /-- RING_CHECK_SEND (11 R319: 500 us have passed since the manager's last check frame). -/
  | ringCheckSend (ring2 : Bool)
  /-- RING_CHECK_WINDOW (11 R319: a window of 500 us ends). -/
  | ringCheckWindow (ring2 : Bool)
  /-- PORT_LINK_CHANGE (11 R319, R324, R331: a port loses or regains link). -/
  | portLinkChange (ring2 : Bool) (portB : Bool) (up : Bool)
  /-- TSINFO_POP (11 R332: master m reads NET.TSINFO). -/
  | tsinfoPop (m : Fin 10)
  /-- TC_COUNT_EDGE (13 R364, R367: the levels of the channel's INA and INB at an edge of one of them). -/
  | tcCountEdge (n : Fin 16) (a : HeldLevel) (b : HeldLevel)
  /-- TC_COMPARE_MATCH (13 R368: the channel's next count step makes the counter equal to CMP0 (or CMP1)). -/
  | tcCompareMatch (n : Fin 16) (k1 : Bool)
  /-- TC_WRAP (13 R365: the channel's next count step wraps or turns at the top). -/
  | tcWrap (n : Fin 16)
  /-- TC_CAPTURE (13 R374: an edge of the capture input that CEDGE may select; the consecutive samples for which the new level has
  held). -/
  | tcCapture (n : Fin 16) (rise : Bool) (held : BitVec 6)
  /-- CAPTURE_SPILL (13 R375: a capture entry moves to the spill queue). -/
  | captureSpill (n : Fin 16)
  /-- CAPTURE_POP (13 R375: master m reads TCn_CAPPOP). -/
  | capturePop (m : Fin 10) (n : Fin 16)
  /-- WC_FIRE (13 R376: the channel's next value equals the time base). -/
  | wcFire (w : Fin 4)
  /-- PLL_LOCK_LOST (13 R363). -/
  | pllLockLost
  /-- PLL_LOCK_RESTORED (13 R362, R363: lock has held for 1 ms). -/
  | pllLockRestored
  /-- LOOP_DAC_UPDATE (14 R390-R392: a DAC update with what the four channels' converters read, and whether VLOOP is below 11.0 V). -/
  | loopDacUpdate (s0 : LoopSample) (s1 : LoopSample) (s2 : LoopSample) (s3 : LoopSample) (vlLow : Bool)
  /-- LOOP_BACKFEED (14 R394). -/
  | loopBackfeed (n : Fin 4)
  /-- LOOP_BACKFEED_CLEAR (14 R394: no condition for 100 ms). -/
  | loopBackfeedClear (n : Fin 4)
  /-- LOOP_MODE_SWITCH_END (14 R389: the 1 ms of high impedance is over). -/
  | loopModeSwitchEnd (n : Fin 4)
  /-- TRANSMIT_DATA (14 R398: master m writes LPn_TXD). -/
  | transmitData (m : Fin 10) (n : Fin 4) (v : Word)
  /-- FSK_TX_START (14 R398: master m writes LPn_TXCMD with START). -/
  | fskTxStart (m : Fin 10) (n : Fin 4) (v : Word)
  /-- FSK_ABORT (14 R398: master m writes LPn_TXCMD with ABORT). -/
  | fskAbort (m : Fin 10) (n : Fin 4) (v : Word)
  /-- FSK_TX_BEGIN (14 R398: the mark tone of a pending message starts). -/
  | fskTxBegin (n : Fin 4)
  /-- FSK_TX_BYTE (14 R397, R398: one byte has been sent). -/
  | fskTxByte (n : Fin 4)
  /-- FSK_TX_END (14 R398: the carrier ends after the trailer, or after an abort). -/
  | fskTxEnd (n : Fin 4)
  /-- FSK_CARRIER_DETECT (14 R396). -/
  | fskCarrierDetect (n : Fin 4) (up : Bool)
  /-- FSK_RX_BYTE (14 R397, R399: the data bits, the parity bit and the stop bit as sampled; a byte without parity has none). -/
  | fskRxByte (n : Fin 4) (data : Byte) (parity : Bool) (stop : Bool)
  /-- RXD_POP (14 R403: master m reads LPn_RXD). -/
  | rxdPop (m : Fin 10) (n : Fin 4)
  /-- GIO_INPUT_CHANGE (15 R406, R410: the level that the pin shows, with samples of 1 us). -/
  | gioInputChange (n : Fin 16) (x : HeldLevel)
  /-- GIO_CURRENT_LIMIT_TRIP (15 R407: the limit of GIO pin n, or of claimed TP pin n, has been engaged for 1 ms). -/
  | gioCurrentLimitTrip (tp : Bool) (n : Fin 16)
  /-- GIO_DRIVER_RESTORE (15 R407: 100 ms after the trip). -/
  | gioDriverRestore (tp : Bool) (n : Fin 16)
  /-- GIO_READBACK_MISMATCH (15 R407: the readback has disagreed for 2 ms, or agrees again). -/
  | gioReadbackMismatch (n : Fin 16) (bad : Bool)
  /-- GIO_OVERTEMP (15 R407: above 165 C, or below 140 C). -/
  | gioOvertemp (n : Fin 16) (hot : Bool)
  /-- VG_LOW (15 R407: VG falls below 17.5 V or rises above 18.5 V). -/
  | vgLow (low : Bool)
  /-- WDKICK (15 R408: master m writes GIO.WDKICK). -/
  | wdkick (m : Fin 10) (v : Word)
  /-- GIO_WATCHDOG_EXPIRE (15 R408: the open window ends without a kick). -/
  | gioWatchdogExpire
  /-- GIO_WATCHDOG_CLEAR (15 R409: master m writes 1 to GIO.STAT.WDEXP). -/
  | gioWatchdogClear (m : Fin 10)
  /-- QUEUE_RESERVE (16 R420: master m reads PRODq). -/
  | queueReserve (m : Fin 10) (q : Fin 128)
  /-- QUEUE_PUBLISH (16 R420: master m writes PUSHq). -/
  | queuePublish (m : Fin 10) (q : Fin 128) (addr : Word)
  /-- QUEUE_TAKE (16 R421: master m reads CONSq). -/
  | queueTake (m : Fin 10) (q : Fin 128)
  /-- QUEUE_RELEASE (16 R421: master m writes POPq). -/
  | queueRelease (m : Fin 10) (q : Fin 128) (addr : Word)
  /-- FABRIC_TIMEOUT (16 R417: a tag of master m has had no response for 100 us; the unit that did not answer). -/
  | fabricTimeout (m : Fin 10) (unit : BitVec 16)
  /-- PATROL_SCRUB_READ (16 R428: the scrubber reads its next word and finds an error or none). -/
  | patrolScrubRead (err : EccErr)
  /-- RECORDER_DRAIN (16 R432: the recorder pops Q96-Q99 and writes its staging buffer). -/
  | recorderDrain
  /-- GOVERNOR_WINDOW (17 R444-R452: a window boundary; what the field die and the sensors reported over the window that closes). -/
  | governorWindow (e : GovEnv)
  /-- RESERVE_RELEASE (17 R448: 0.5 ms into the window). -/
  | reserveRelease
  /-- GRANT_END (17 R449: a grant ends with its measured energy in nJ). -/
  | grantEnd (who : GrantRef) (energy : BitVec 32)
  /-- HOT_ENTRY (17 R451: a sensor sample at or above TLIM + 5 C). -/
  | hotEntry (sensor : Fin 8) (temp : BitVec 10)
  /-- SELF_TEST_SLICE (18 R464, R465: the slice window of a cycle opens; the conditions of R471 as then measured). -/
  | selfTestSlice (e : SliceEnv)
  /-- SLICE_END (18 R468: the running slice ends, with what it measured). -/
  | sliceEnd (r : SliceResult)
  /-- DEBT_EXPIRE (18 R463: the debt of sequence n reaches 1.0). -/
  | debtExpire (n : Fin 11)
  /-- PROG (19 R490, R497: master m writes OP 0x1 to OTP.JOBCMD). -/
  | otpProg (m : Fin 10) (word : BitVec 10) (key : BitVec 8)
  /-- FINAL (19 R492, R497: master m writes OP 0x2 to OTP.JOBCMD). -/
  | otpFinal (m : Fin 10) (region : BitVec 4) (key : BitVec 8)
  /-- STRENGTHEN (19 R493, R497: master m writes OP 0x3 to OTP.JOBCMD). -/
  | otpStrengthen (m : Fin 10) (word : BitVec 10) (repair : Bool) (key : BitVec 8)
  /-- OTP_JOB_END (19 R489: the running OTP job ends; how its burns went). -/
  | otpJobEnd (e : BurnEnv)
  /-- QUOTE (20 R509, R522: master m writes OP 0x1 to TRU.JOBCMD). -/
  | truQuote (m : Fin 10) (key : BitVec 8)
  /-- QUOTE_QUEUE_REQUEST (20 R509: the trust engine takes the oldest entry of Q124). -/
  | quoteQueueRequest
  /-- AUTH (20 R513, R522: master m writes OP 0x2 to TRU.JOBCMD). -/
  | truAuth (m : Fin 10) (key : BitVec 8)
  /-- LCADV (20 R517, R522: master m writes OP 0x3 to TRU.JOBCMD). -/
  | truLcadv (m : Fin 10) (target : BitVec 4) (key : BitVec 8)
  /-- NVWIPE (20 R522, 16 R435: master m writes OP 0x4 to TRU.JOBCMD). -/
  | truNvwipe (m : Fin 10) (key : BitVec 8)
  /-- DEAUTH (20 R515, R522: master m writes OP 0x5 to TRU.JOBCMD). -/
  | truDeauth (m : Fin 10) (key : BitVec 8)
  /-- UPBEGIN (22 R559: master m writes OP 0x8 to TRU.JOBCMD). -/
  | truUpbegin (m : Fin 10) (kind : BitVec 4) (key : BitVec 8)
  /-- UPDATA (22 R559: master m writes OP 0x9 to TRU.JOBCMD). -/
  | truUpdata (m : Fin 10) (kind : BitVec 4) (key : BitVec 8)
  /-- UPACT (22 R559: master m writes OP 0xA to TRU.JOBCMD). -/
  | truUpact (m : Fin 10) (kind : BitVec 4) (key : BitVec 8)
  /-- CONFIRM (22 R563, R564: master m writes OP 0xB to TRU.JOBCMD). -/
  | truConfirm (m : Fin 10) (key : BitVec 8)
  /-- TRU_JOB_END (21 R530: the running TRU job ends; how its burns went, and whether an NV write of it failed). -/
  | truJobEnd (e : BurnEnv) (nvFail : Bool)
  /-- CHALLENGE (20 R512: master m reads TRU.CHAL). -/
  | challenge (m : Fin 10)
  /-- CAIRN_EXTEND (20 R507: master m writes TRU.EXTCMD). -/
  | cairnExtend (m : Fin 10) (v : Word)
  /-- EXTEND_COMPLETE (20 R507: the extend in progress ends). -/
  | extendComplete
  /-- ANTI_ROLLBACK_ADVANCE (20 R502: the pending advance burns the tally; how its burns went). -/
  | antiRollbackAdvance (e : BurnEnv)
  /-- AUTHORISATION_EXPIRE (20 R515: the pending authorisation's duration ends). -/
  | authorisationExpire
  /-- HOST_WRITE (21 R525: a WRITE transaction; each word with whether the buffer was full as it arrived). -/
  | hostWrite (addr : Word) (words : List (Word × Bool))
  /-- HOST_READ (21 R526: ADDR and COUNT of a READ transaction have arrived). -/
  | hostRead (addr : Word) (count : BitVec 8)
  /-- HOST_READ_START_BYTE (21 R526: every word of the READ in progress is fetched). -/
  | hostReadStartByte
  /-- HOST_STATUS (21 R524: a STATUS transaction). -/
  | hostStatus
  /-- HOST_PROTOCOL_ERROR (21 R527: a protocol error on the host port). -/
  | hostProtocolError
  /-- FULLTEST (18 R474, 21 R532: master m writes OP 0x1 to HST.JOBCMD). -/
  | hstFulltest (m : Fin 10) (key : BitVec 8)
  /-- RECSEARCH (21 R532: master m writes OP 0x2 to HST.JOBCMD). -/
  | hstRecsearch (m : Fin 10) (key : BitVec 8)
  /-- ABORT (21 R532: master m writes OP 0xF to HST.JOBCMD). -/
  | hstAbort (m : Fin 10) (key : BitVec 8)
  /-- HST_JOB_END (21 R530, 18 R474: the running HST job ends; bit n of failed is step n + 1 of the full run, bit 11 its working
  memory test). -/
  | hstJobEnd (failed : BitVec 12)
  /-- JOBACK (21 R531: master m writes HST.JOBACK). -/
  | joback (m : Fin 10) (v : Word)
  /-- IDENT (21 R535). -/
  | dbgIdent (operand : Word) (crc : BitVec 8)
  /-- SELECT (21 R535). -/
  | dbgSelect (operand : Word) (crc : BitVec 8)
  /-- HALT (21 R535, R537). -/
  | dbgHalt (operand : Word) (crc : BitVec 8)
  /-- RESUME (21 R535). -/
  | dbgResume (operand : Word) (crc : BitVec 8)
  /-- STEP (21 R535, R537: the instruction itself is the next command of its processor). -/
  | dbgStep (operand : Word) (crc : BitVec 8)
  /-- ARG (21 R535). -/
  | dbgArg (operand : Word) (crc : BitVec 8)
  /-- RDREG (21 R535). -/
  | dbgRdreg (operand : Word) (crc : BitVec 8)
  /-- WRREG (21 R535). -/
  | dbgWrreg (operand : Word) (crc : BitVec 8)
  /-- ADDR (21 R535). -/
  | dbgAddr (operand : Word) (crc : BitVec 8)
  /-- RDMEM (21 R535). -/
  | dbgRdmem (operand : Word) (crc : BitVec 8)
  /-- WRMEM (21 R535). -/
  | dbgWrmem (operand : Word) (crc : BitVec 8)
  /-- BPSET (21 R535). -/
  | dbgBpset (operand : Word) (crc : BitVec 8)
  /-- BPCLR (21 R535). -/
  | dbgBpclr (operand : Word) (crc : BitVec 8)
  /-- DEBUG_PORT_RESET (21 R533: fifty DCK cycles with DIO high). -/
  | debugPortReset
  /-- STOP (21 R542, R543: a STOP frame arrives on the LU side, or on the LD side (ld)). -/
  | ridgeStop (ld : Bool) (err : LinkErr) (orig : Fin 8) (lines : BitVec 16) (refresh : Byte)
  /-- RIDGE_STOP_SEND (21 R543: the device sends its STOP frame on both sides). -/
  | ridgeStopSend
  /-- RIDGE_ORIGIN_TIMEOUT (21 R544: an origin has sent no valid STOP frame for 60 us). -/
  | ridgeOriginTimeout (orig : Fin 8)
  /-- RIDGE_SIDE_DOWN (21 R542: a side has had no valid STOP frame for 60 us). -/
  | ridgeSideDown (ld : Bool)
  /-- TIME (21 R545: an exchange of TIME frames ends, with its four stamps). -/
  | ridgeTime (ld : Bool) (err : LinkErr) (orig : Fin 8) (t1 : Stamp) (t2 : Stamp) (t3 : Stamp) (t4 : Stamp)
  /-- RIDGE_ALIGNMENT_TIMEOUT (21 R545: no exchange completed for 5 ms, or the start found no aligned neighbour for its first step
  while aligned devices exist). -/
  | ridgeAlignmentTimeout (missedStep : Bool)
  /-- MREQ (21 R546: a remote memory request of one word for this device arrives). -/
  | ridgeMreq (ld : Bool) (err : LinkErr) (orig : Fin 8) (write : Bool) (tag : BitVec 32) (offset : BitVec 28) (v : Word)
  /-- MRSP (21 R546: a remote memory response for this device arrives). -/
  | ridgeMrsp (ld : Bool) (err : LinkErr) (orig : Fin 8) (tag : BitVec 32) (ok : Bool) (v : Word)
  /-- RIDGE_REQUEST_TIMEOUT (21 R546: a request has had no response 50 us after it left). -/
  | ridgeRequestTimeout (dest : Fin 8) (tag : BitVec 32)
  /-- QMSG (21 R547: a QMSG frame for this device arrives). -/
  | ridgeQmsg (ld : Bool) (err : LinkErr) (orig : Fin 8) (entry : List Byte)
  /-- RIDGE_QMSG_SEND (21 R547: the ridge link takes the oldest entry of Q88 + q). -/
  | ridgeQmsgSend (q : Fin 4)
  /-- POWER_VALID (02 R46, R47: VL is valid again in HOLDUP with the flush ended). -/
  | powerValid
  /-- NETWORK_DMA_WRITE_FAILURE (11 R331: a frame arrives whose receive entry the network DMA cannot write). -/
  | netDmaWriteFailure (ring2 : Bool) (portB : Bool) (f : RingFrame)
  /-- TIO_DRIVER_OVERTEMP (23 R576: a TIO driver is above 165 C, or is back below 140 C). -/
  | tioDriverOvertemp (n : Fin 16) (hot : Bool)
deriving DecidableEq, Repr

end Sys2Proof
end

