-- ==== Sys2Proof/Decode.lean ====
section
/-! DEFINITION. The commands of this block have no encoding: spec/opcode_table.json gives no row any bits, so no word spells
a command. (The instruction words of the OIS processors, which their EVAL register shows, are built from a command's
fields in Machine/Operands.lean.) -/
namespace Sys2Proof

/-- The command that the table's bits spell: none, for every word, as the table gives no row bits. -/
def decodeTableWord (_nbits _w : Nat) : Option Instr := none

end Sys2Proof
end

