-- ==== Sys2Proof/Config.lean ====
section
/-! DEFINITION. What the spec leaves open, and the fixed functions it names without writing them out. Every constant here is
opaque: nothing can be proved of its value, so a theorem about the model holds whatever it is. -/
namespace Sys2Proof.Config

/-- A word whose value the spec does not state; its argument is the state's counter of free values (log entry 1, DESIGN CHOICE). -/
opaque freeWord : Nat → Word

/-- SHA3-512 (FIPS 202; 20 R501-R508), of bytes; bit 8i of the result is bit 0 of digest byte i (log entry 3, DESIGN CHOICE). -/
opaque sha3_512 : List Byte → BitVec 512

/-- ML-DSA-87 verification with an empty context (FIPS 204; 20 R501): public key, message, signature (log entry 3, DESIGN CHOICE). -/
opaque mldsaVerify : List Byte → List Byte → List Byte → Bool

/-- ML-DSA-87 signature of 4627 bytes with the key generated from a seed, hedged by 32 random bytes (20 R508, R511). -/
opaque mldsaSign : BitVec 256 → BitVec 256 → List Byte → BitVec 37016

/-- ML-DSA-87 public key of 2592 bytes of the key generated from a seed (20 R508). -/
opaque mldsaPublic : BitVec 256 → BitVec 20736

/-- 32 bytes of the trust engine's entropy source, after conditioning; drawn anew for each argument (20 R511, R512). -/
opaque entropy : Nat → BitVec 256

/-- The 7 SEC-DED check bits of 32 data bits of an OTP ECC word (19 R480; the code's matrix is not in the spec). -/
opaque eccCheck : Word → BitVec 7

/-- The derivation of the MAC address from OTP words 129 and 130 (11 R332; not in the spec). -/
opaque macAddress : Word → Word → BitVec 48

/-- The address in the runtime at which the user program's call returns (05 R139, R159; the runtime is Berelm's).
Log entry 13, DESIGN CHOICE. -/
opaque runtimeReturn : Word

/-- Slots the runtime's prologue completes before it calls the program (05 R153 SLOTCNT), in the n-th such call. -/
opaque prologueSlots : Nat → Nat

/-- Length of the firmware image in bytes, from its first 64 bytes (22: the firmware's layout is Berelm's). -/
opaque firmwareLen : List Byte → Nat

/-- Byte of the safety runtime's code, by firmware slot and code TCM address (05 R138; the code is Berelm's). -/
opaque runtimeByte : Nat → Nat → Byte

/-- Byte of code TCM after the full run has destroyed its contents (18 R474). -/
opaque tcmByte : Nat → Byte

/-- Energy coefficient in pJ of a unit for handshake class H0 to H3, from words 0 to 127 of the MFG region (17 R445, 19 R479; the
region's layout is not in the spec). -/
opaque handCoef : List Word → Nat → Nat → Nat

/-- Static power of a unit in nW, from the same words (17 R445). -/
opaque staticPower : List Word → Nat → Nat

/-- The estimate of a hardware job in nJ, by the job's number (17 R449 "the unit's figure"; not in the spec): 0 a self-test slice, 1
the recorder's flush, 2 network transmit DMA, 3 ridge-link bulk transfer, 4 a quote, 5 another trust-engine job, 6 the patrol scrub.
-/
opaque jobCost : Nat → Nat

/-- Whether the square wave of STAT0 and STAT1 is high from even multiples of 500 ms of the time base, or from odd ones (23 R575
gives its edges only). Log entry 136, DESIGN CHOICE. -/
opaque statEven : Bool

end Sys2Proof.Config
end

