-- ==== Sys2Proof/Machine/Bits.lean ====
section
/-! DEFINITION. Bit fields of words, as the register tables of the spec name them ([msb:lsb], 00 R10), the saturating
counters of the register tables, and the two cyclic redundancy checks the spec spells out. -/
namespace Sys2Proof.Machine

/-- The `len` bits of `w` from bit `lo` up, as a number (00 R10: bit 0 is the least significant). -/
def fld {n : Nat} (w : BitVec n) (lo len : Nat) : Nat := (w.toNat >>> lo) % 2 ^ len

/-- Bit `i` of `w`. -/
def bit {n : Nat} (w : BitVec n) (i : Nat) : Bool := w.toNat.testBit i

/-- The bits [lo + len - 1 : lo] of a word, all set. -/
def maskOf (n lo len : Nat) : BitVec n := BitVec.ofNat n ((2 ^ len - 1) <<< lo)

/-- `w` with its `len` bits from `lo` up replaced by the low bits of `v`. -/
def putFld {n : Nat} (w : BitVec n) (lo len v : Nat) : BitVec n :=
  (w &&& ~~~ maskOf n lo len) ||| BitVec.ofNat n ((v % 2 ^ len) <<< lo)

/-- `w` with bit `i` set to `b`. -/
def putBit {n : Nat} (w : BitVec n) (i : Nat) (b : Bool) : BitVec n := putFld w i 1 b.toNat

/-- A word with only bit `i` set. -/
def bitAt (n i : Nat) : BitVec n := BitVec.ofNat n (1 <<< i)

/-- One bit as a word, at its place. -/
def flag (i : Nat) (b : Bool) : Word := if b then bitAt 32 i else 0

/-- A number placed at bit `lo` of a word, cut to `len` bits. Log entry 100, DEDUCED. -/
def at_ (lo len v : Nat) : Word := BitVec.ofNat 32 ((v % 2 ^ len) <<< lo)

/-- A number as a word. -/
def w32 (n : Nat) : Word := BitVec.ofNat 32 n

/-- A counter of the register tables that saturates at `top`. -/
def satInc (top n : Nat) : Nat := if n < top then n + 1 else n

/-- The number of ones in the low `k` bits of `n`. -/
def popCount : Nat → Nat → Nat
  | 0, _ => 0
  | k + 1, n => (n % 2) + popCount k (n / 2)

/-- The lowest index below `k`, counted from `i`, that satisfies `p`. -/
def firstIdx (p : Nat → Bool) : Nat → Nat → Option Nat
  | 0, _ => none
  | k + 1, i => if p i then some i else firstIdx p k (i + 1)

/-- The indexes `i, i + 1, ...` (`k` of them) in rising order. -/
def upFrom : Nat → Nat → List Nat
  | 0, _ => []
  | k + 1, i => i :: upFrom k (i + 1)

/-- A word whose bit `i` is `p i`, for `i` below `k`. -/
def ofBits (n : Nat) (p : Nat → Bool) : Nat → Nat
  | 0 => 0
  | k + 1 => ofBits n p k ||| (if p k then 1 <<< k else 0)

/-- The word of the bits `p 0` to `p (k - 1)`. -/
def wordOf (k : Nat) (p : Nat → Bool) : Word := BitVec.ofNat 32 (ofBits 32 p k)

/-- The four bytes of a word, lowest address first (04 R109: the device is little-endian). -/
def bytesOfWord (w : Word) : List Byte :=
  [BitVec.ofNat 8 (fld w 0 8), BitVec.ofNat 8 (fld w 8 8), BitVec.ofNat 8 (fld w 16 8), BitVec.ofNat 8 (fld w 24 8)]

/-- The number that bytes spell, lowest address first. -/
def natOfBytes : List Byte → Nat
  | [] => 0
  | b :: bs => b.toNat + 256 * natOfBytes bs

/-- `k` bytes of a number, lowest first. -/
def bytesOfNat : Nat → Nat → List Byte
  | 0, _ => []
  | k + 1, n => BitVec.ofNat 8 n :: bytesOfNat k (n / 256)

/-- One bit of a most-significant-bit-first CRC of `width` bits with the given polynomial. -/
def crcBit (width poly : Nat) (c : Nat) (b : Bool) : Nat :=
  let top := (c.testBit (width - 1)) != b
  let c' := (c * 2) % 2 ^ width
  if top then c' ^^^ poly else c'

/-- The bits of a byte, most significant first, fed to the CRC. -/
def crcByte (width poly c : Nat) (x : Byte) : Nat :=
  [7, 6, 5, 4, 3, 2, 1, 0].foldl (fun c i => crcBit width poly c (bit x i)) c

/-- A CRC over bytes. -/
def crcBytes (width poly : Nat) : Nat → List Byte → Nat
  | c, [] => c
  | c, x :: xs => crcBytes width poly (crcByte width poly c x) xs

end Sys2Proof.Machine
end

