-- ==== Sys2Proof/Machine/Tab.lean ====
section
/-! DEFINITION. Sparse tables: a list of (index, value) pairs in rising order of index, in which no entry equals the
table's default. They hold the numbered resources of the device (pins, channels, queues, cells) and its memories. -/
namespace Sys2Proof.Machine

/-- Numbered things, of which only those that differ from the default are listed. -/
abbrev Tab (α : Type) := List (Nat × α)

/-- The entry of index `k`, the default where it is not listed. Log entry 40, DESIGN CHOICE. -/
def look {α : Type} (d : α) : Tab α → Nat → α
  | [], _ => d
  | (j, a) :: t, k => if k = j then a else if k < j then d else look d t k

/-- The table without its leading entries of index `k` or below. -/
def dropTo {α : Type} (k : Nat) : Tab α → Tab α
  | [] => []
  | (j, a) :: t => if j ≤ k then dropTo k t else (j, a) :: t

/-- The table with entry `k` set to `a`; setting the default removes the entry. -/
def put {α : Type} [DecidableEq α] (d : α) : Tab α → Nat → α → Tab α
  | [], k, a => if a = d then [] else [(k, a)]
  | (j, b) :: t, k, a =>
    if j < k then (j, b) :: put d t k a
    else if j = k then (if a = d then dropTo k t else (k, a) :: dropTo k t)
    else if a = d then (j, b) :: t
    else (k, a) :: (j, b) :: t

/-- The canonical form: indexes strictly rising, no entry equal to the default. -/
def tabWf {α : Type} [DecidableEq α] (d : α) : Tab α → Bool
  | [] => true
  | [(_, a)] => decide (a ≠ d)
  | (j, a) :: (k, b) :: t => decide (a ≠ d) && decide (j < k) && tabWf d ((k, b) :: t)

end Sys2Proof.Machine
end

