-- ==== Sys2Proof/Machine/State.lean ====
section
/-! DEFINITION. The state of the block: every register, counter, buffer, mode and line the spec gives the IZH620, as plain
data, the queue of waiting commands, and the state right after reset. Reset values are those of the chapters' tables; a
register that `regs` does not list reads its reset value (Machine/Ops.lean, `regReset`). -/
namespace Sys2Proof.Machine

/-! ### 02, 01, 03: device modes, the cycle and the col, register conventions -/

/-- The twelve device modes, in the order of their codes (02 R44). -/
inductive Mode where
  | off | reset | start | verify | idle | commission | run | react | quiet | lockout | service | holdup
deriving DecidableEq, Repr

/-- The mode controller (02 R43-R67). -/
structure ModeSt where
  mode : Mode := .reset
  prev : Mode := .off
  cause : Nat := 0
  /-- the lockout latch on the field die (R50) -/
  latch : Bool := false
  lcause : Nat := 0
  /-- RUN or COMMISSION, the mode from which the device last entered REACT other than from QUIET (R47) -/
  returnMode : Mode := .run
  /-- SYS.MODESTAT (R63): 0 none, 1 PENDING, 2 DONE, 3 REFUSED -/
  reqState : Nat := 0
  reqRefuse : Nat := 0
  /-- entry counters since the last power cycle (R65) -/
  reacts : Nat := 0
  locks : Nat := 0
  holds : Nat := 0
  restarts : Nat := 0
  /-- test release (R54, R66, R67): running zone and the time base at which its 60 s end -/
  trel : Option (Nat × Nat) := none
  trelZone : Nat := 0
  trelRefuse : Nat := 0
  trelStart : Option Nat := none
  trelStop : Bool := false
  /-- a channel has seen an invalid mode code (R43, 10 R296) -/
  badModeA : Bool := false
  badModeB : Bool := false
  /-- a C3 fault was received in START or VERIFY (R47, 10 R296) -/
  startC3 : Bool := false
  /-- the decision that ends VERIFY, waiting for VHOLD (22 R551): target mode and cause -/
  decision : Option (Mode × Nat) := none
  vholdCharged : Bool := false
  /-- power valid as the mode controller sees it (R46), and whether the hold-up flush has ended (R53) -/
  powerValid : Bool := false
  flushed : Bool := false
  /-- T_cyc code in use and whether a committed configuration fixes it (01 R22, R40) -/
  tcyc : Nat := 0
  tcycValid : Bool := false
  /-- number of entries to RUN since reset, modulo 256: EPOCH (12 R342) -/
  epoch : BitVec 8 := 0
  /-- time base at the last entry to RUN and to QUIET (10 R297) -/
  runAt : Nat := 0
  quietAt : Nat := 0
  /-- SERVICE was entered from LOCKOUT (R50) -/
  svcFromLock : Bool := false
  /-- entry address of the accepted application image (04 R98) -/
  appEntry : Option Word := none
  /-- the loader's and the safety runtime's results are in (22) -/
  firmwareOk : Bool := false
  pairOk : Bool := false
  /-- the loader has run on the released parameter image (06 R203) -/
  loaderRan : Bool := false
  /-- commissioning is confirmed and takes effect at the end of the col slot (22 R564) -/
  confirmDue : Bool := false
deriving DecidableEq, Repr

/-- Register conventions (03): pending writes, commits, latches. The SYS registers that software reads as they stand are
in the register file. -/
structure ConvSt where
  /-- pending values of RWC registers by address (R77, R78); `none` for no pending write -/
  shadow : Tab (Option Word) := []
  /-- writes held back until the apply of the commit in progress (R79), oldest first -/
  heldBack : List (Nat × Word) := []
  /-- SYS.COMMITSTAT (R90): state code, mask, count -/
  cstate : Nat := 0
  cmask : Nat := 0
  ccount : BitVec 16 := 0
  /-- groups of the commit in progress that are held at their safe point (R77, R78) -/
  held : Nat := 0
  /-- addresses of write-once registers that have been written since reset (R84) -/
  locked : List Nat := []
  /-- the time-base high latch of each fabric master (R86) -/
  tbLatch : Tab (Option Word) := []
  /-- a snapshot request waits for the next tick (R87) -/
  snapBusy : Bool := false
  snapSeq : BitVec 16 := 0
deriving DecidableEq, Repr

/-! ### 04, 05: the OIS processors -/

/-- What a processor is doing between two instructions (04 R98, R110, R123, R124, R125, R129). -/
inductive RunSt where
  /-- held by the device mode or not yet released (R98) -/
  | held
  /-- executing -/
  | running
  /-- halted by the debugger (R125, 21 R537), and what the processor was doing -/
  | halted (was : RunSt)
  /-- stopped by a double fault until the next reset (R129) -/
  | stopped
  /-- CYCEND: waits for the next strobe (R124) -/
  | waitStrobe
  /-- WFI: waits for an interrupt (R123) -/
  | waitInt
  /-- FENCE: waits for the responses of posted stores (R123) -/
  | waitFence
  /-- an IOLD that does not complete yet (05 R153, R155): destination register and address -/
  | waitRead (rd : Nat) (addr : Nat)
  /-- a load or a fetch from ridge remote memory that waits for its MRSP frame (21 R546): destination register, and 8 times the
  request's tag plus the load's code, 5 for a fetch -/
  | waitRemote (rd : Nat) (shape : Nat)
  /-- no context to run (R131, R136) -/
  | idle
deriving DecidableEq, Repr

/-- One entry of the loop stack (04 R116, R117): the body's first and last addresses, the remaining count and the loop
level, which is the pair of st.RDEPTH and st.EXC at which the LOOP executed. -/
structure LoopEnt where
  first : Word
  last : Word
  left : Nat
  depth : Nat
  exc : Bool
deriving DecidableEq, Repr

/-- The flags and control bits of st that are not computed from the stacks (04 R94). -/
structure StBits where
  z : Bool := false
  n : Bool := false
  c : Bool := false
  v : Bool := false
  mode : BitVec 2
  ie : Bool := false
  exc : Bool := false
deriving DecidableEq, Repr

/-- The architectural registers of one OIS processor (04 R93, R94, R130). -/
structure Cpu where
  /-- g1 to g15 by number; g0 is never listed (R93) -/
  g : Tab Word := []
  /-- sb0 to sb31, safety processor only (R93) -/
  sb : Tab (BitVec 2) := []
  pc : Word := 0
  st : StBits
  /-- return stack, last pushed first (R93) -/
  rets : List Word := []
  /-- loop stack, innermost first (R93) -/
  loops : List LoopEnt := []
  epc : Word := 0
  est : Word := 0
  ecause : Word := 0
  eval : Word := 0
  vbase : Word := 0
  scratch : Word := 0
  /-- RTEND and whether it has been written since reset (R123, R130) -/
  rtend : Word := 0
  rtendSet : Bool := false
  /-- the running task context; none before the first dispatch (R133) -/
  task : Option Nat := none
  run : RunSt := .held
  /-- posted stores whose response, other than OK, has not arrived yet: its status and the address, oldest first (R110); each holds a
  tag of the core (16 R415) -/
  posted : List (Nat × Word) := []
  /-- such responses that have arrived and wait for the instruction boundary, oldest first (R128) -/
  due : List (Nat × Word) := []
  /-- the instruction word that a fetch from another device has brought (R128; 21 R546) -/
  ifetch : Option Word := none
  /-- TKILL of the running context waits for the end of the instruction in progress (R135) -/
  killDue : Bool := false
  /-- pending interrupts, bit n for number n (R126, R127) -/
  irq : BitVec 64 := 0
  /-- a release of the core has happened since reset (R98) -/
  started : Bool := false
  /-- a debug STEP is in progress: the processor halts again after its next instruction (21 R537) -/
  stepping : Bool := false
  /-- an interrupt was taken while the core had no context to run; it stops again at RFE (17 R450) -/
  parked : Bool := false
  /-- the address at which a breakpoint has halted the processor, or the debugger has let it go on: its next instruction executes (21
  R537) -/
  past : Option Word := none
deriving DecidableEq, Repr

/-- An application core right after reset (R93, R94). -/
def Cpu.resetAc : Cpu := { st := { mode := 1 } }

/-- The safety processor right after reset (R93, R94). -/
def Cpu.resetSafety : Cpu := { st := { mode := 2 } }

/-- The five states of a task context (04 R131). -/
inductive TaskSt where
  | free | held | ready | running | waiting
deriving DecidableEq, Repr

/-- One of the 64 task contexts (04, R131, R132). -/
structure Ctx where
  state : TaskSt := .free
  g : Tab Word := []
  pc : Word := 0
  st : StBits := { mode := 0 }
  rets : List Word := []
  loops : List LoopEnt := []
  cls : BitVec 3 := 3
  energy : BitVec 2 := 0
  affin : BitVec 4 := 15
  /-- the queue a WAITING context waits on (R133) -/
  waitQ : Nat := 0
  /-- the core whose ready queue or run slot holds the context -/
  core : Nat := 0
deriving DecidableEq, Repr

/-- How far the safety runtime has come in the present cycle (05 R159). -/
inductive APhase where
  /-- waiting in CYCEND, or not started -/
  | idle
  /-- prologue: strobe seen, verdict awaited -/
  | prologue
  /-- the user program runs or has returned; the epilogue is due -/
  | program
  /-- an entry cycle (R146): the restore stands in place of the program -/
  | entry
  /-- no program call in this cycle (R166, no program image): an all-off record is due -/
  | allOff
  /-- the record is published -/
  | done
deriving DecidableEq, Repr

/-- Channel A beside its processor's registers: private memories, safety I/O image, mailbox, runtime (05). -/
structure ChanA where
  /-- code TCM and data TCM by private address (R591, R137) -/
  tcm : Tab Byte := []
  /-- safety I/O image words by offset (R148, R151) -/
  io : Tab Word := []
  /-- mailbox record words: REC_IN, REC_ZONE, REC_DMD, REC_TAG, REC_CAN (R153) -/
  recIn : Word := 0
  recZone : Word := 0
  recDmd : Word := 0
  recTag : Word := 0
  recCan : Word := 0
  /-- REC_DONE has been written in this cycle (R154) -/
  published : Bool := false
  verdict : Word := 0
  vtags : Word := 0
  vcans : Word := 0
  /-- no col slot is awaited: the slot of the previous cycle has ended since the last strobe (R155) -/
  verdictUp : Bool := true
  /-- SLOTCNT is the sum of the runtime's slots before the call (a free value) and the slots counted since -/
  slotBase : Nat := 0
  slots : Nat := 0
  pace : Word := 0
  cycset : BitVec 3 := 0
  cycsetLock : Bool := false
  flta : BitVec 6 := 0
  restoring : Bool := false
  /-- the last restore has ended (R153 RSTSTAT.DONE) -/
  restoreDone : Bool := false
  /-- the restore of the present entry cycle has ended (R146) -/
  restored : Bool := false
  loadRt : Bool := false
  loadProg : Bool := false
  /-- the full run has destroyed the contents of code TCM (18 R474) -/
  tcmLost : Bool := false
  /-- SESFS, bit s for session s (R153) -/
  sesfs : BitVec 512 := 0
  phase : APhase := .idle
  /-- the mode code latched at the last strobe, none before the first (R146) -/
  seenMode : Option (BitVec 4) := none
  /-- the test release latched at the last strobe (R146) -/
  seenTrel : Option Nat := none
  /-- EPOCH latched at the last strobe, which the copies of the cycle carry (12 R342) -/
  epoch : BitVec 8 := 0
  /-- the present cycle is an entry cycle -/
  entryNow : Bool := false
  /-- MENTRY is due at the next program call (R148) -/
  mentryDue : Bool := false
  /-- the program is not called before the next entry cycle (R166) -/
  suspended : Bool := false
  /-- the verdict check of R160 is skipped in this cycle -/
  skipCheck : Bool := false
  /-- the runtime CRC agrees with its state words (R137) -/
  crcOk : Bool := true
  /-- runtime integrity or verdict failure found in this cycle's prologue, due in FLTA (R164) -/
  dueFlt : BitVec 6 := 0
  /-- transmit payloads set by SSEND in this cycle, by session (04 R121) -/
  sent : Tab (List Byte) := []
  /-- count of channel A's own cycles since the last entry to RUN (R151 CYCLE) -/
  cycle : Word := 0
  /-- consecutive missing records (R168) -/
  misses : Nat := 0
deriving DecidableEq, Repr

/-! ### 16: queues, memories, recorder -/

/-- The state of one ring slot of a queue (16 R420, R421, R422); master codes as in R414. -/
inductive SlotSt where
  | reserved (m : Nat)
  | published
  | taken (m : Nat)
  | released
  /-- a reservation voided by a revocation (R422) -/
  | void
deriving DecidableEq, Repr

/-- One used slot of a queue's ring: its index in the ring and its state. -/
structure Slot where
  idx : Nat
  st : SlotSt
deriving DecidableEq, Repr

/-- What the queue engine keeps of one queue beside its descriptor registers (16 R418-R423). -/
structure Queue where
  /-- used slots, oldest first -/
  slots : List Slot := []
  /-- ring index of the next slot to reserve -/
  next : Nat := 0
  /-- DESCq_OWN.NOOWN (R438) -/
  noOwn : Bool := false
deriving DecidableEq, Repr

/-- An entry of the recorder's staging buffer (16 R432, R433): a fault log entry or a Q96-Q99 entry. -/
structure Staged where
  time : Nat
  type : Byte
  len : Byte
  body : List Byte
  fromCollector : Bool
deriving DecidableEq, Repr

/-- Memories and the recorder (16 R426-R435). -/
structure MemSt where
  /-- working memory, NV store and queue SRAM by application address -/
  cells : Tab Byte := []
  /-- aligned 8-byte words (by address) that read uncorrectable (R427, R431, R423) -/
  bad : List Nat := []
  /-- aligned 8-byte words that hold a single-bit error (R427, R431) -/
  soft : List Nat := []
  /-- aligned 8-byte words of the NV store whose writes fail their three attempts (R431) -/
  stuck : List Nat := []
  stage : List Staged := []
  /-- an NV wipe is in progress or due (R435, STAT.WIPEACT) -/
  wipe : Bool := false
  /-- the recorder's position as the device records hold it: ring index and SEQ of the next record at the last save (R434) -/
  recPos : Nat := 0
  recSeq : Word := 0
  /-- address of the next word the patrol scrubber reads (R428) -/
  scrubAt : Nat := 0
deriving DecidableEq, Repr

/-! ### 17: the budget governor -/

/-- Who asks for or holds a grant (17 R448-R450). -/
inductive Worker where
  /-- a core that runs a context -/
  | core (k : Nat)
  /-- a hardware job of a class, with its number -/
  | job (n : Nat)
deriving DecidableEq, Repr

/-- The worker is a core. -/
def Worker.isCore : Worker → Bool
  | .core _ => true
  | .job _ => false

/-- A grant in force: its holder, class, the pool it was drawn from and its estimated cost in nJ (17 R449). -/
structure Grant where
  who : Worker
  cls : Nat
  fromRes : Bool
  cost : Int
  forced : Bool
  /-- the holder has given the grant up; its energy is still to be settled -/
  ended : Bool := false
deriving DecidableEq, Repr

/-- A denied request that waits (17 R450). -/
structure Ask where
  who : Worker
  cls : Nat
  cost : Int
deriving DecidableEq, Repr

/-- Completed handshakes of a clockless unit in the present window, by class (17 R445). -/
structure Hand where
  h0 : Nat := 0
  h1 : Nat := 0
  h2 : Nat := 0
  h3 : Nat := 0
deriving DecidableEq, Repr

/-- The governor's own state beside its registers (17 R445-R452). Energies are in nJ. -/
structure Gov where
  /-- number of the present window: its boundary in whole milliseconds of the time base (R444) -/
  opened : Nat := 0
  /-- handshake counts of the units in the present window (R445) -/
  hand : Tab Hand := []
  /-- instructions that each core completed under grant in the present window (R456) -/
  instrs : Tab Nat := []
  /-- energy settled in the instant of a boundary whose window has not opened yet, for the shared budget and for the reserve (R12,
  R444) -/
  carry : Int := 0
  carryRes : Int := 0
  left : Int := 0
  res : Int := 0
  /-- p_eff of the present window in mW (R448), and HOT (R451) -/
  peff : Int := 0
  hot : Bool := false
  grants : List Grant := []
  waiting : List Ask := []
  /-- consecutive windows above CAP + 0.2 W and at or below CAP (R452) -/
  overRun : Nat := 0
  underRun : Nat := 0
  /-- per sensor: consecutive windows away from the prediction (R447) -/
  diffRun : Tab Nat := []
  /-- consecutive windows without a sensor condition (R447) -/
  okRun : Nat := 0
  /-- F148 has been raised and not yet ended (R447) -/
  sensErr : Bool := false
  /-- a request was denied in the present and in the last window (STAT.DENIED) -/
  denied : Bool := false
  deniedLast : Bool := false
  /-- a forced slice ran in the present and in the last window (DEBT.FORCED) -/
  forced : Bool := false
  forcedLast : Bool := false
deriving DecidableEq, Repr

/-! ### 06: the logic lattice -/

/-- States of the two-channel pair machine (06 R180). -/
inductive PairPh where
  | safe | opening | closing | on
  /-- FLT latched -/
  | flt
deriving DecidableEq, Repr

/-- The pair machine: its state and the cycles since its window opened (06 R176, R180). -/
structure PairSt where
  ph : PairPh := .safe
  age : Nat := 0
deriving DecidableEq, Repr

/-- States of a guard lock (06 R184). -/
inductive LockPh where
  | locked | unlocking | unlocked | locking | fault
deriving DecidableEq, Repr

/-- States of a two-hand control (06 R185). -/
inductive HandPh where
  | ready | one | active | blocked
deriving DecidableEq, Repr

/-- States of a muting cell (06 R187). -/
inductive MutePh where
  | idle | arming | muted | ending | fault
deriving DecidableEq, Repr

/-- The working state that bank 1 keeps of one cell, by cell type; `init` is the initial state of every type (06 R177). -/
inductive CellSt where
  | init
  /-- input pair, OSSD pair, emergency stop (R180-R182) -/
  | pair (p : PairSt)
  /-- guard switch: pair machine and start-test stage 0 START_TEST, 1 seen SAFE, 2 done (R183) -/
  | guard (p : PairSt) (stage : Nat)
  | lock (ph : LockPh) (age : Nat)
  /-- two-hand: state, leading hand, cycles since the window opened, cycles each hand has been transitional (R185) -/
  | hands (ph : HandPh) (lead : Bool) (age : Nat) (tr0 tr1 : Option Nat) (flt : Bool)
  /-- enabling device: pair machine and PANIC (R186) -/
  | enable (p : PairSt) (panic : Bool)
  /-- muting: state, leading pair is B, first sensor was the pair's second-named, age (R187) -/
  | mute (ph : MutePh) (leadB : Bool) (second : Bool) (age : Nat)
  /-- mode selector: pattern, cycles since it appeared, confirmed position, FLT (R188) -/
  | select (pat : Nat) (age : Nat) (conf : Option Nat) (flt : Bool)
  /-- speed monitor: FLT, DIR, cycles of standstill so far, last speed (R189) -/
  | speed (flt dir : Bool) (still : Option Nat) (delta : Int)
  /-- ramp monitor with a ramp running: v0, cycles since its start, TOFF, VIOL (R190) -/
  | ramp (v0 : Nat) (k : Nat) (toff viol : Bool)
  /-- RS state of a logic cell (R191) -/
  | rs (q : Bool)
  /-- timer: i0 in the last cycle, cycles since the delay began (R192) -/
  | timer (last : Bool) (age : Option Nat)
  /-- reset/restart: last BUTTON and COND, cycles since the press, COND held, STUCK (R193) -/
  | reset (btn cond : Bool) (age : Option Nat) (ok stuck : Bool)
  /-- contactor feedback: last DMD, cycles since the window opened, FLT, last FB (R194) -/
  | edm (dmd : Bool) (age : Option Nat) (flt fb : Bool)
  /-- output and zone driver: zone state code and demands before the guards (R195) -/
  | drive (zone : BitVec 2) (dmd : BitVec 12)
deriving DecidableEq, Repr

/-- One channel's record for the col (01 R31, R35), session payloads apart. -/
structure Record where
  img : BitVec 32 := 0
  zone : BitVec 32 := 0
  dmd : BitVec 12 := 0
  tag : BitVec 16 := 0
  can : BitVec 16 := 0
deriving DecidableEq, Repr

/-- Channel B: the lattice with its two banks, latched image and record (06). -/
structure Lattice where
  /-- bank 0: the parameter image by offset (R169) -/
  bank0 : Tab Byte := []
  /-- an accepted image is loaded (R203) -/
  loaded : Bool := false
  /-- bank 1: cell working state by cell number (R169) -/
  cells : Tab CellSt := []
  /-- outputs of the cells in the present cycle, two bits per output; all false by default (R178) -/
  outs : Tab (BitVec 8) := []
  /-- FLT outputs as built in the present cycle, by cell number (R179) -/
  flts : BitVec 256 := 0
  /-- FLT outputs at the last output point (SIO.CELLCOND) -/
  cond : BitVec 256 := 0
  /-- channel B is locked to channel A's strobe (01 R24), and the cycles in which it was not (R40 LOSTCNT) -/
  locked : Bool := false
  lostCnt : Nat := 0
  /-- N, the cycle in nominal RC periods, and the acceptance window [lo, hi) in trimmed RC periods from channel B's previous
  strobe, or from the mode decision before the first (01 R24) -/
  rcN : Nat := 0
  winLo : Nat := 0
  winHi : Nat := 0
  /-- cycles of channel B since the last entry to RUN -/
  cycle : BitVec 32 := 0
  /-- latched input image IN, INOK, OUTOK (R171) -/
  inp : BitVec 32 := 0
  inok : BitVec 32 := 0
  outok : BitVec 12 := 0
  /-- mode code, MTEST and test release zone latched at the last strobe -/
  mode : BitVec 4 := 0
  trel : Option Nat := none
  epoch : BitVec 8 := 0
  seen : Bool := false
  entryNow : Bool := false
  mentry : Bool := false
  mentryDue : Bool := false
  /-- demands at the previous output point (SOPREV, R171) -/
  sopPrev : BitVec 12 := 0
  /-- record built in the present cycle, held until the output point (R174) -/
  rec_ : Option Record := none
  /-- background ICRC: offset of the next byte and running value (R205) -/
  scanAt : Nat := 0
  scanCrc : Nat := 0xFFFFFFFF
  /-- trimmed RC periods of the last evaluation (EVALT) -/
  evalT : BitVec 16 := 0
  /-- trimmed RC periods between the last two channel A strobes (REFCNT, 01 R39) -/
  refcnt : BitVec 32 := 0
  /-- ZONE_STOP lines as read at the last evaluation (09 R276, R286) -/
  zstop : BitVec 16 := 0
  /-- overrate seen by the encoder front end of a cell since the last strobe (09 R592) -/
  overrate : BitVec 256 := 0
  /-- levels of the TIO pins at the encoder front end's last sample; none before the first (R189) -/
  encLv : Option (BitVec 16) := none
deriving DecidableEq, Repr

/-- The col (01 R26-R35). -/
structure ColSt where
  /-- disagreement counts of input bits, zones, outputs and sessions (R31) -/
  missIn : Tab Nat := []
  missZn : Tab Nat := []
  missDm : Tab Nat := []
  missSs : Tab Nat := []
  /-- a session payload differed in the present col slot (R41) -/
  ssDiff : Bool := false
  /-- records as they stood at the output points, awaiting the col slot (R26) -/
  recA : Option Record := none
  recB : Option Record := none
  /-- an output point has passed and its col slot has not ended -/
  slotOpen : Bool := false
  /-- an output point of channel A, of channel B, has passed and no verdict has followed (R35) -/
  openA : Bool := false
  openB : Bool := false
  /-- a record of channel A, of channel B, was due at that output point (R27) -/
  dueA : Bool := false
  dueB : Bool := false
  /-- channel A has strobed since channel B's last strobe (R24) -/
  aSeen : Bool := false
  /-- that strobe still stands as a phase hint: channel B has not ignored it; the trimmed RC periods after channel B's previous strobe
  at which it arrived (R23, R24) -/
  hint : Option (BitVec 32) := none
  /-- time base at channel A's last strobe -/
  strobeAt : Nat := 0
  /-- count of the cycle whose output point has passed last (SIO.CYCNT, R39) -/
  cnt : Word := 0
  /-- channel B's verdict checker failed at the last verdict (R35) -/
  badVerdictB : Bool := false
  /-- differences of the reaction lines and mode lines in the last col slot (10 R292) -/
  reactDiff : Bool := false
  modeDiff : Bool := false
deriving DecidableEq, Repr

/-! ### 10: the fault collector -/

/-- The code a source's pair of wires shows (10 R288). -/
inductive Rail where
  | ok | fault | wiring
deriving DecidableEq, Repr

/-- The recovery state of a source (10 R297). -/
inductive SrcSt where
  | ok | fault | wiring | clearing
deriving DecidableEq, Repr

/-- One fault source (10 R288-R299). -/
structure Src where
  rail : Rail := .ok
  st : SrcSt := .ok
  /-- time base of the last change to OK (R297) -/
  clearAt : Nat := 0
  /-- the source caused or joined the REACT being recovered (R296, R298) -/
  causing : Bool := false
  /-- its occurrence exceeded the recovery limit in this REACT (R299) -/
  exceeded : Bool := false
  /-- its ZONE_STOP lines are asserted (R295) -/
  zline : Bool := false
  /-- quiet in the present QUIET (R297) -/
  quiet : Bool := false
  /-- effective class and DETAIL of the present raise (R288, R291, R302) -/
  cls : Nat := 0
  detail : BitVec 16 := 0
deriving DecidableEq, Repr

/-- The reaction matrix entry that a project gives a source (10 R293, R307). -/
structure MatEnt where
  cls : Nat
  irq : Bool := false
  zstop : Bool := false
  dsto : Bool := false
  zmask : BitVec 16 := 0
deriving DecidableEq, Repr

/-- A fault that a detector shows on its pair and whose receipt is due (10 R288): source, DETAIL, and the time base at which the
pair took its code. -/
structure Raised where
  src : Nat
  detail : BitVec 16
  time : Nat
deriving DecidableEq, Repr

/-- The fault collector (10). -/
structure FltSt where
  srcs : Tab Src := []
  /-- entries given by the reaction table; a source without one has the default of R290 -/
  matrix : Tab (Option MatEnt) := []
  /-- faults that detectors have raised and whose receipt is due, oldest first (R288) -/
  raised : List Raised := []
  /-- quiet period in ms, C2 limit, window in minutes (R297, R299) -/
  q : Nat := 1000
  limit : Nat := 3
  win : Nat := 60
  /-- FLT.STAT.FIRST and whether a receipt since the last entry to RUN has set it (R306) -/
  first : Nat := 0
  firstSet : Bool := false
  /-- occurrence time stamps by source, newest first; cleared only by a power cycle (R299) -/
  stamps : Tab (List Nat) := []
  /-- totals per class since the last power cycle (R300) -/
  c0 : Nat := 0
  c1 : Nat := 0
  c2 : Nat := 0
  c3 : Nat := 0
  logged : BitVec 16 := 0
  lost : Nat := 0
  revoked : BitVec 10 := 0
deriving DecidableEq, Repr

/-! ### 07: safety inputs and test pulses -/

/-- One filter of R221: its output and the two counts. -/
structure Filt where
  out : Bool := false
  acc : Nat := 0
  run : Nat := 0
deriving DecidableEq, Repr

/-- What one channel knows of one safety input (07 R221, R225, R230, R231). -/
structure InChan where
  filt : Filt := {}
  mask : Bool := false
  pmiss : Bool := false
  forn : Bool := false
  cmp : Bool := false
  /-- confirmed pulses in a row (R231) and the frame of the last foreign pulse plus one (R230) -/
  conf : Nat := 0
  fornFrame : Nat := 0
deriving DecidableEq, Repr

/-- One safety input (07). -/
structure InSt where
  a : InChan := {}
  b : InChan := {}
  cmps : Bool := false
  ilim : Bool := false
  /-- the rotation round of the last limiter measurement, and whether that was out of range (R219) -/
  ilimAt : Option (BitVec 16) := none
  ilimBad : Bool := false
  /-- the R214 lines show a wiring fault -/
  wiring : Bool := false
  rev : Bool := false
  pmCnt : Nat := 0
deriving DecidableEq, Repr

/-- One test-pulse source (07 R228-R234). -/
structure TpSt where
  pulsing : Bool := false
  /-- the check windows of the channels for the source are open (R230) -/
  winA : Bool := false
  winB : Bool := false
  high : Bool := false
  ovl : Bool := false
  stuck : Bool := false
  pulses : BitVec 16 := 0
  /-- the overload's retry: low for 1 s, or high again and watched (R234) -/
  retryLow : Bool := false
deriving DecidableEq, Repr

/-- Where the rotating spare stands in the sequence of R215 and R218. -/
inductive SparePh where
  /-- under its own isolated test -/
  | own
  /-- to be connected at the next strobe of the served channel -/
  | connect
  /-- shadowing; comparisons made so far -/
  | shadow (made : Nat)
  /-- standing in while the comparator is under test -/
  | standIn
  /-- the comparator is to be reconnected at the next strobe -/
  | reconnect
  /-- comparing before the hand-back; comparisons made so far -/
  | handBack (made : Nat)
deriving DecidableEq, Repr

/-- Inputs, test-pulse sources and the rotating spare (07). -/
structure InputsSt where
  ins : Tab InSt := []
  tps : Tab TpSt := []
  /-- pulse cycle counts of the two channels (R228) -/
  pcntA : Nat := 0
  pcntB : Nat := 0
  /-- the rotating spare: input, served channel B, phase, consecutive disagreements, completed rounds (R215, R240) -/
  spareIn : Nat := 0
  spareB : Bool := false
  sparePh : SparePh := .own
  spareBad : Nat := 0
  /-- the spare's filter in the bank of the served channel (R215) -/
  spareFilt : Filt := {}
  /-- rising switch point that the present isolated test has measured, in mV (R217) -/
  riseMv : Int := 0
  rounds : BitVec 16 := 0
  /-- images latched at the last strobes (R225, R239) -/
  ina : BitVec 32 := 0
  inb : BitVec 32 := 0
  inoka : BitVec 32 := 0
  inokb : BitVec 32 := 0
deriving DecidableEq, Repr

/-! ### 08: safety outputs -/

/-- The test running on an output (08 R249, R252); `chB` is true when channel B commands it. -/
inductive OutTest where
  | none
  | off (chB : Bool)
  | on (chB : Bool)
deriving DecidableEq, Repr

/-- One safety output (08). -/
structure OutSt where
  swA : Bool := false
  swB : Bool := false
  /-- demands of the two channels at their last output points -/
  dmdA : Bool := false
  dmdB : Bool := false
  /-- time base at the last change of either switch (R247) -/
  chg : Nat := 0
  /-- flag bits and counters in the layout of SIO.OUTDIAGk (R264), TEST apart -/
  diag : Word := 0
  /-- the last compared strobe of channel A and of channel B was a mismatch (R247) -/
  mismA : Bool := false
  mismB : Bool := false
  /-- flags of OUTDIAG that a second mismatch sets at the end of the col slot (R247) -/
  due : BitVec 16 := 0
  /-- time base at which ONFAIL was set (R260) -/
  onfailAt : Nat := 0
  test : OutTest := .none
  /-- the tested channel has demanded off at an output point within the running off-test (R250) -/
  stayOff : Bool := false
  /-- a failed off-test keeps the tested switch open (R249) -/
  holdA : Bool := false
  holdB : Bool := false
deriving DecidableEq, Repr

/-- The safety output unit (08). -/
structure OutputsSt where
  outs : Tab OutSt := []
  /-- sensed readback and mid-point of channels A and B at the last strobes (R263) -/
  rbA : BitVec 12 := 0
  rbB : BitVec 12 := 0
  midA : BitVec 12 := 0
  midB : BitVec 12 := 0
  /-- VFLOW and GOVC of groups A and B (R259) -/
  vfLowA : Bool := false
  vfLowB : Bool := false
  govcA : Bool := false
  govcB : Bool := false
  /-- group supply below 17.5 V and not yet above 18.5 V since -/
  supLowA : Bool := false
  supLowB : Bool := false
  /-- the rails VCA and VCB of the switch drivers are out of their windows (R243) -/
  railOutA : Bool := false
  railOutB : Bool := false
deriving DecidableEq, Repr

/-! ### 09, 05 R152: axes as channel A reads them -/

/-- What the timer island keeps for one encoder of an axis (09 R271, 13 R377): count at the last strobe, direction change
and error in the present cycle. -/
structure AxisSt where
  bound : Bool := false
  tc : Nat := 0
  count : Word := 0
  dirChg : Bool := false
  err : Bool := false
  /-- count steps in the present 8 us interval (R592) -/
  steps : Nat := 0
  /-- AXCAP +0x8 at the last strobe, for SIO.AXSPD -/
  delta : Word := 0
deriving DecidableEq, Repr

/-! ### 12: sessions -/

/-- Underlying states of a receive session (12 R344, R360). -/
inductive SesPh where
  | new | live | held | expired
deriving DecidableEq, Repr

/-- A received copy: FS, EPOCH, SEQ and its 16 payload bytes (12 R340, R348). -/
structure Copy where
  fs : Bool := false
  epoch : BitVec 8 := 0
  seq : BitVec 32 := 0
  payload : List Byte := []
deriving DecidableEq, Repr

/-- One channel's receive state of a session (12 R343, R344). -/
structure SesChan where
  ph : SesPh := .new
  last : BitVec 32 := 0
  ep : BitVec 8 := 0
  cand : Option Copy := none
  use : Copy := {}
  /-- the copy in use arrived in this cycle -/
  fresh : Bool := false
  miss : Nat := 0
  wdx : BitVec 32 := 0
  /-- live to its channel in this cycle, and the payload delivered -/
  live : Bool := false
  deliv : List Byte := []
deriving DecidableEq, Repr

/-- What a channel's record carries of a session for the col (12 R345): underlying state, SEQ in use, freshness, payload. -/
structure SesRec where
  ph : SesPh := .new
  seq : BitVec 32 := 0
  fresh : Bool := false
  payload : List Byte := []
deriving DecidableEq, Repr

/-- One session: configuration of both halves and the state of both channels (12 R337, R200, R342-R350). -/
structure Ses where
  /-- channel A's half: configured, TX, HSF, RING, FSV, ADDR, SEED1, WDOG, K, PX or HPER (R337) -/
  cfgA : Bool := false
  tx : Bool := false
  hsf : Bool := false
  ring2 : Bool := false
  fsv : BitVec 16 := 0
  addr : Word := 0
  seed1 : Word := 0
  wdog : Nat := 0
  k : Nat := 0
  px : Nat := 0
  a : SesChan := {}
  b : SesChan := {}
  /-- forced by the col; channel A's and channel B's application of it (R346) -/
  forced : Bool := false
  forcedA : Bool := false
  forcedB : Bool := false
  /-- single-path count, cycles toward clearing, time base of the last paired strobe (R345) -/
  sp : Nat := 0
  clearRun : Nat := 0
  pairedAt : Option Nat := none
  /-- the session is in the condition of F096, F097, F098 (R355) -/
  f96 : Bool := false
  f97 : Bool := false
  f98 : Bool := false
  /-- transmit: last SEQ sent, channel B's own HSF count, copies standing for the col (R342, R349) -/
  sentSeq : BitVec 32 := 0
  hsfSeq : BitVec 16 := 0
  hsfSeqB : BitVec 16 := 0
  txA : Copy := {}
  txB : Copy := {}
  /-- the payload that channel B has built in the present cycle (06 R201, R206) -/
  nextB : List Byte := []
  /-- an HSF frame is assembled and waits for channel B's check (R349) -/
  hsfDue : Bool := false
  /-- records of the two channels as they stood at the last output points (R345) -/
  ra : SesRec := {}
  rb : SesRec := {}
  /-- channel A has accepted a new epoch since the last col slot (R354) -/
  newEp : Bool := false
  /-- VSTAT and the sequence as mirrored at the last col slot (R357) -/
  vstatM : Word := 0
  seqM : BitVec 32 := 0
deriving DecidableEq, Repr

/-- The session engine beside its registers (12). -/
structure SesSt where
  tab : Tab Ses := []
  /-- SEL of each fabric master (R357) -/
  sel : Tab Word := []
  /-- high halves latched for the application cores, SEQ and WDX (R357) -/
  seqLatch : Tab (Option Word) := []
  wdxLatch : Tab (Option Word) := []
  /-- mirrors at the col slot: LIVE and FORCE (R356, R357) -/
  liveM : BitVec 512 := 0
  forceM : BitVec 512 := 0
  /-- cycles since the end of VERIFY, for HPER (R349) -/
  cyc : Nat := 0
deriving DecidableEq, Repr

/-! ### 11: rings -/

/-- A frame that waits at an egress port with its priority of 11 R317 (1 to 4). -/
structure OutFrame where
  prio : Nat
  bytes : List Byte
  badFcs : Bool
  /-- the transmit queue of a frame that came from one (R317) -/
  qno : Nat := 0
  /-- report the transmit time stamp with this tag (R329) -/
  ts : Option Byte := none
deriving DecidableEq, Repr

/-- One ring port (11). -/
structure PortSt where
  link : Bool := false
  /-- a manager's check frame has arrived in the present window; consecutive windows with and without (R319) -/
  seen : Bool := false
  hits : Nat := 0
  misses : Nat := 0
  /-- time base of the link losses within the last second (R331) -/
  losses : List Nat := []
  /-- the port has had link since VERIFY (R319) -/
  hadLink : Bool := false
  out : List OutFrame := []
deriving DecidableEq, Repr

/-- One ring (11). -/
structure RingSt where
  a : PortSt := {}
  b : PortSt := {}
  whole : Bool := false
  mgrFwd : Bool := false
  mgrDup : Bool := false
  phyErr : Bool := false
  rseq : BitVec 16 := 0
  /-- consecutive windows with WHOLE set (R320) -/
  wholeRun : Nat := 0
  /-- source addresses of the check frames that have arrived in the present window (R320) -/
  mgrs : List (List Byte) := []
deriving DecidableEq, Repr

/-- A transmit time stamp in the TSINFO FIFO (11 R330, R332). -/
structure TsEnt where
  tag : Byte
  portB : Bool
  ring2 : Bool
  stamp : Nat
deriving DecidableEq, Repr

/-- The ring network unit beside its registers (11). -/
structure NetSt where
  r1 : RingSt := {}
  r2 : RingSt := {}
  ts : List TsEnt := []
  tsLost : Bool := false
deriving DecidableEq, Repr

/-! ### 13: timers -/

/-- One capture (13 R374). -/
structure Cap where
  stamp : Nat
  cnt : Word
  rise : Bool
deriving DecidableEq, Repr

/-- One TC channel beside its registers (13 R364-R375). -/
structure TcSt where
  cnt : Word := 0
  /-- prescaler phase: ticks since the last count step -/
  phase : Nat := 0
  down : Bool := false
  /-- PERIOD in effect (R372) -/
  period : Word := 0
  /-- the next count step ends the skipped period (R372 NOW, R373) -/
  skip : Bool := false
  a : Bool := false
  b : Bool := false
  caps : List Cap := []
  /-- time base of the last count step -/
  stepAt : Nat := 0
  /-- reserved code, missing input or SWITCHBACK with PERIOD 0: stopped (R364, R365, R383) -/
  stopped : Bool := false
deriving DecidableEq, Repr

/-- One WC channel beside its registers (13 R376). -/
structure WcSt where
  nextV : Nat := 0
  /-- a next value has been loaded and no one-shot firing has used it up -/
  armed : Bool := false
deriving DecidableEq, Repr

/-- The timer island beside its registers (13). -/
structure TmrSt where
  /-- the 64-bit time base (R361, R362) -/
  tb : BitVec 64 := 0
  /-- ticks counted since the last power cycle, through resets (10 R299; log entry 5, DESIGN CHOICE) -/
  age : Nat := 0
  lock : Bool := false
  tcs : Tab TcSt := []
  wcs : Tab WcSt := []
  /-- cycle length of WC0 in ticks, 0 before CYCSET (05 R157) -/
  cycLen : Nat := 0
  /-- levels that the owners of the TIO pins give them (R370) -/
  pins : BitVec 16 := 0
  /-- TIO drivers switched off by temperature (23 R576) -/
  hot : BitVec 16 := 0
  axes : Tab AxisSt := []
deriving DecidableEq, Repr

/-! ### 14: loops -/

/-- An entry of the FSK receive FIFO (14 R399, R403). -/
structure RxEnt where
  data : Byte
  perr : Bool
  ferr : Bool
  gap : Bool
deriving DecidableEq, Repr

/-- Where a transmission stands (14 R398). -/
inductive TxPh where
  | idle
  /-- START given, carrier detect awaited -/
  | pending
  /-- mark tone or byte in progress -/
  | sending (b : Option Byte)
  /-- FIFO found empty, trailer running -/
  | trailer
  /-- aborted; the carrier ends at the next zero crossing -/
  | aborted
deriving DecidableEq, Repr

/-- One loop channel beside its registers (14). -/
structure LpSt where
  itgt : BitVec 16 := 0
  hiz : Bool := true
  rb : BitVec 16 := 0
  /-- the last 250 readbacks, newest first (R391) -/
  samples : List (BitVec 16) := []
  head : BitVec 16 := 0
  vp : BitVec 16 := 0
  temp : BitVec 10 := 0
  pdiss : BitVec 16 := 0
  /-- live conditions COMPLY, LOWI, OPEN, BACKFEED, LTEMP (R392) -/
  live : BitVec 5 := 0
  complyRun : Nat := 0
  lowRun : Nat := 0
  openRun : Nat := 0
  /-- updates left in the blanking after a change of ITGT (R392) -/
  blank : Nat := 0
  /-- the 1 ms of high impedance after a MODE change runs (R389) -/
  switching : Bool := false
  tx : List Byte := []
  rx : List RxEnt := []
  ph : TxPh := .idle
  cd : Bool := false
  /-- the next received byte is the first after carrier detect rose (R399) -/
  gap : Bool := false
  /-- the bits of the byte being sent, first bit first (R397) -/
  line : List Bool := []
  /-- the receiver is muted until this time base (R399) -/
  muteTo : Nat := 0
deriving DecidableEq, Repr

/-- The loop unit beside its registers (14). -/
structure LoopSt where
  lps : Tab LpSt := []
  vlLow : Bool := false
deriving DecidableEq, Repr

/-! ### 15: GIO -/

/-- The GIO bank beside its registers (15). -/
structure GioSt where
  /-- filtered levels at the pins (R406) -/
  lv : BitVec 16 := 0
  /-- drivers off after a current-limit trip, pins and TP pins (R407) -/
  trip : BitVec 16 := 0
  tpTrip : BitVec 8 := 0
  hot : BitVec 16 := 0
  mism : BitVec 16 := 0
  /-- time base of the last trip, by pin, TP pins from 16 on (R407) -/
  tripAt : Tab Nat := []
  /-- VG below 17.5 V and not yet above 18.5 V since -/
  vgLow : Bool := false
  wdexp : Bool := false
  /-- time base at which the watchdog window opened; none while the watchdog does not run (R408) -/
  wdAt : Option Nat := none
deriving DecidableEq, Repr

/-! ### 18: self-test -/

/-- One sliced sequence (18 R461-R463, R479). -/
structure SeqSt where
  /-- next step of the pass in progress -/
  step : Nat := 0
  /-- a failed step that runs again at the next slice, with its item (R462) -/
  retry : Option (Nat × Byte) := none
  /-- items whose failure is confirmed (R462) -/
  confirmed : List Nat := []
  failed : Bool := false
  overdue : Bool := false
  passes : Nat := 0
  /-- time base at the last completion (R463) -/
  doneAt : Nat := 0
deriving DecidableEq, Repr

/-- The self-test controller beside its registers (18). -/
structure BstSt where
  seqs : Tab SeqSt := []
  /-- the sequence whose slice runs -/
  active : Option Nat := none
  /-- a slice has started in the present cycle (R464) -/
  used : Bool := false
  /-- the last due slice was deferred: F146 (R471) -/
  deferred : Bool := false
  fullRun : Bool := false
deriving DecidableEq, Repr

/-! ### 19: OTP -/

/-- A running OTP job (19 R489): its operation, argument, REPAIR and JOBDATA, whether R489 has stopped it, and whether a reset
has ended it, so that it only leaves what was burned. -/
structure OtpJob where
  op : Nat
  arg : Nat
  repair : Bool
  data : Word := 0
  stopped : Bool := false
  lost : Bool := false
deriving DecidableEq, Repr

/-- The OTP block beside its registers (19). The array survives every reset. Log entry 12, DESIGN CHOICE. -/
structure OtpSt where
  /-- the 39 raw bits of each word, data in [31:0] and check bits in [38:32], at normal and at strict margin (R483) -/
  normal : Tab (BitVec 39) := []
  strict : Tab (BitVec 39) := []
  /-- value of each word after correction and repair at the last sensing (R496) -/
  vals : Tab Word := []
  /-- marginal and uncorrectable words at the last sensing, lowest first -/
  marg : List Nat := []
  ue : List Nat := []
  /-- region states by index of R481 (R486, R498) -/
  rst : Tab (BitVec 2) := []
  sensed : Bool := false
  job : Option OtpJob := none
deriving DecidableEq, Repr

/-! ### 20, 22: the trust engine, updates -/

/-- A pending authorisation (20 R513-R515): kind, scope and the time base at which it expires. -/
structure Auth where
  kind : Nat
  scope : BitVec 4
  expires : Nat
deriving DecidableEq, Repr

/-- A running TRU job: operation, argument, whether a mode change has stopped it, and whether a reset has ended it. -/
structure TruJob where
  op : Nat
  arg : Nat
  stopped : Bool := false
  lost : Bool := false
deriving DecidableEq, Repr

/-- The states of an image slot in the update journal (22 R561). -/
inductive SlotImg where
  | empty | writing | valid
deriving DecidableEq, Repr

/-- The update journal of one kind (22 R557, R558). -/
structure JrnKind where
  first1 : Bool := false
  slot0 : SlotImg := .empty
  slot1 : SlotImg := .empty
  /-- the standby slot is slot 1 (R557) -/
  standby1 : Bool := false
deriving DecidableEq, Repr

/-- The update journal and the open update (22 R558-R561). The journal is in the device records and survives reset.
Log entry 103, DEDUCED. -/
structure UpdSt where
  fw : JrnKind := {}
  app : JrnKind := {}
  prog : JrnKind := {}
  actSeq : Word := 0
  /-- kind and write position of the open update -/
  opened : Option (Nat × Nat) := none
  /-- the next commissioning record slot (R565) -/
  nextRec : Nat := 0
deriving DecidableEq, Repr

/-- The trust engine beside its registers (20). -/
structure TruSt where
  cairns : Tab (BitVec 512) := []
  /-- the device key's seed, present from its generation on (R508) -/
  key : Option (BitVec 256) := none
  measOk : Bool := false
  /-- the extend in progress: cairn and value (R507) -/
  ext : Option (Nat × BitVec 512) := none
  /-- ARB of the running firmware (R519), a pending advance (R502) -/
  arb : Nat := 0
  advPend : Bool := false
  /-- the present challenge (R512) -/
  chal : Option (BitVec 256) := none
  auth : Option Auth := none
  job : Option TruJob := none
  /-- the wipe-pending mark in the device records (R518) -/
  wipePend : Bool := false
  /-- measurements of the images accepted at the last start, by KIND (R501) -/
  meas : Tab (BitVec 512) := []
  /-- F162 stands -/
  fault : Bool := false
  /-- slot of the accepted image by KIND: firmware 1, application 2, program and parameter 3 (R501) -/
  slots : Tab (Option Nat) := []
deriving DecidableEq, Repr

/-! ### 21: host port, debug port, ridge link -/

/-- A running HST job (21 R532): its operation, and for RECSEARCH the next record to examine, counted from the oldest, and the
matches found. -/
structure HstJob where
  op : Nat
  pos : Nat := 0
  found : Nat := 0
deriving DecidableEq, Repr

/-- A READ of the host port that waits for another device (21 R526, R546): its next address and index, the words still to be
fetched, the tag of the request in flight, and what it has so far: words, worst status, index of the first word that was not OK. -/
structure HostFetch where
  addr : Word
  idx : Nat := 0
  left : Nat
  tag : Option (BitVec 32) := none
  words : List Word := []
  worst : Nat := 0
  first : Nat := 0
deriving DecidableEq, Repr

/-- The host port beside its registers (21 R523-R532). -/
structure HostSt where
  /-- words of WRITEs that wait in the buffer for a request to another device, oldest first (R525, R546) -/
  wbuf : List (Word × Word) := []
  /-- a READ whose words are not all fetched (R526, R546) -/
  fetch : Option HostFetch := none
  /-- words fetched, worst status and index of the first failed word of a READ whose start byte has not been sent -/
  read : Option (List Word × Nat × Nat) := none
  job : Option HstJob := none
  /-- results posted since the start of the last job (R531) -/
  posted : Nat := 0
deriving DecidableEq, Repr

/-- The debug port (21 R533-R537). -/
structure DbgSt where
  sel : Option Nat := none
  arg : Word := 0
  addr : Word := 0
  /-- the last reply: STATUS and DATA -/
  status : Byte := 0
  data : Word := 0
  /-- FAB of the next reply, from the last WRMEM -/
  fab : Nat := 0
  /-- the tag of the request of an RDMEM that waits for another device, and its answer once it has come: status and word (R535,
  R546) -/
  asked : Option (BitVec 32) := none
  got : Option (Nat × Word) := none
  /-- breakpoints by 4 * processor + slot -/
  bps : Tab (Option Word) := []
deriving DecidableEq, Repr

/-- A request to another device that awaits its response (21 R546): destination, tag, the master that made it (0 to 3 a core, 5 the
host port, 6 the debug port, 15 none any more), its address, and whether it reads. -/
structure Remote where
  dest : Nat
  tag : BitVec 32
  core : Nat
  addr : Word
  isLoad : Bool
deriving DecidableEq, Repr

/-- A frame that the ridge link sends (21 R541): on the LD side or the LU side, its type, ORIG, DEST, TAG and payload. -/
structure RidgeFrame where
  ld : Bool
  type : Nat
  orig : Nat
  dest : Nat
  tag : BitVec 32
  payload : List Byte
deriving DecidableEq, Repr

/-- One side of the ridge link (21 R542): consecutive valid STOP frames, up, link errors stamped within the last ms. -/
structure SideSt where
  run : Nat := 0
  up : Bool := false
  errs : List Nat := []
deriving DecidableEq, Repr

/-- The ridge link beside its registers (21 R539-R547). -/
structure LnkSt where
  id : Nat := 0
  /-- the switch sets have opened: the PLL has locked since the reset (R542) -/
  opened : Bool := false
  lu : SideSt := {}
  ld : SideSt := {}
  /-- bit d: device d has been heard in the last 60 us (R542) -/
  present : BitVec 8 := 0
  /-- lines each origin last sent; an origin not heard in time counts as all lines (R543, R544) -/
  lines : Tab (BitVec 16) := []
  /-- an origin's lines are as it sent them (R544) -/
  fresh : BitVec 8 := 0
  refresh : Byte := 0
  /-- alignment (R545) -/
  reference : Bool := false
  aligned : Bool := false
  goodRun : Nat := 0
  badRun : Nat := 0
  stepped : Bool := false
  theta : BitVec 16 := 0
  trim : BitVec 16 := 0
  /-- requests of this device awaiting a response, oldest first -/
  remote : List Remote := []
  nextTag : BitVec 32 := 0
  /-- the frames sent by the last command that sent any, in order of sending -/
  sent : List RidgeFrame := []
  /-- F176 stands, F177 stands -/
  err : Bool := false
  lost : Bool := false
  /-- bit d: device d was last heard on the LD side (R546, R547: where its frames go) -/
  sideLd : BitVec 8 := 0
  /-- RIMPORT and RORIG of the reaction table (R544); before a table is taken every origin counts as awaited (R549 STOPRX) -/
  rimport : BitVec 16 := 0
  rorig : BitVec 8 := 0xFF
deriving DecidableEq, Repr

/-! ### The whole -/

/-- The answer of the last access a command made for a master: status (03 R72) and data. The model's own observation of
an answer. Log entry 2, DESIGN CHOICE. -/
structure Resp where
  status : Nat := 0
  data : List Word := []
deriving DecidableEq, Repr

/-- The state of the device. -/
structure State where
  /-- commands that wait, first in first out -/
  pending : List Instr := []
  /-- selects the next free value; the model's own field (log entry 1, DESIGN CHOICE) -/
  fresh : Nat := 0
  resp : Resp := {}
  /-- registers by absolute address; an unlisted register reads 0 -/
  regs : Tab Word := []
  md : ModeSt := {}
  col : ColSt := {}
  conv : ConvSt := {}
  flt : FltSt := {}
  sp : Cpu := Cpu.resetSafety
  ac0 : Cpu := Cpu.resetAc
  ac1 : Cpu := Cpu.resetAc
  ac2 : Cpu := Cpu.resetAc
  ac3 : Cpu := Cpu.resetAc
  ctxs : Tab Ctx := []
  /-- ready contexts of queue Q64 + 4k + (c - 1), oldest first (04 R136) -/
  ready : Tab (List Nat) := []
  chA : ChanA := {}
  lat : Lattice := {}
  inputs : InputsSt := {}
  outputs : OutputsSt := {}
  ses : SesSt := {}
  net : NetSt := {}
  tmr : TmrSt := {}
  loop : LoopSt := {}
  gio : GioSt := {}
  queues : Tab Queue := []
  mem : MemSt := {}
  gov : Gov := {}
  bst : BstSt := {}
  otp : OtpSt := {}
  tru : TruSt := {}
  upd : UpdSt := {}
  host : HostSt := {}
  dbg : DbgSt := {}
  lnk : LnkSt := {}
deriving DecidableEq, Repr

/-- The faults of the model. No command raises one: the spec answers every access and every command (03 R72, 10). Safe. -/
inductive Fault where
  /-- raised by no command; kept so that the type is not empty -/
  | unreachable
deriving DecidableEq, Repr

/-- The refusals of the model. -/
inductive Refusal where
  /-- the command has no meaning yet; raised by an arm of exec only. Safe. -/
  | notModelled (mnemonic : String)
deriving DecidableEq, Repr

/-- The device right after its first reset: mode RESET with cause 0x00 (02 R60, R61), every register at its reset value,
memories with nothing listed, no command waiting. Log entry 11, DESIGN CHOICE. -/
def State.reset : State := {}

end Sys2Proof.Machine
end

