-- ==== Sys2Proof/Machine/Ops.lean ====
section
/-! DEFINITION. The operations that every part of the device uses: the register file with its reset values, the time base,
free values, the bytes of the application memories, the processors by name and the record of a command's answer. -/
namespace Sys2Proof.Machine

/-! ### Register blocks (03 R68) -/

abbrev sysB : Nat := 0x30000000
abbrev fltB : Nat := 0x30010000
abbrev govB : Nat := 0x30020000
abbrev tmrB : Nat := 0x30030000
abbrev loopB : Nat := 0x30040000
abbrev gioB : Nat := 0x30050000
abbrev netB : Nat := 0x30060000
abbrev sesB : Nat := 0x30070000
abbrev queB : Nat := 0x30080000
abbrev bstB : Nat := 0x30090000
abbrev otpB : Nat := 0x300A0000
abbrev truB : Nat := 0x300B0000
abbrev lnkB : Nat := 0x300C0000
abbrev hstB : Nat := 0x300D0000
abbrev sioB : Nat := 0x300E0000
abbrev memB : Nat := 0x300F0000

/-- Descriptor of a queue at reset (16 R418): ring base, log2 of the entry size, depth, drain class, owner, push and pop
masks. -/
structure QDesc where
  base : Nat
  esz : Nat
  depth : Nat
  dclass : Nat
  owner : Nat
  push : Nat
  pop : Nat
deriving DecidableEq, Repr

/-- Queues of one row of 16 R418, packed from `base` on. -/
def QDesc.row (base first esz depth dclass owner push pop q : Nat) : QDesc :=
  { base := base + (q - first) * (depth * 2 ^ esz), esz := esz, depth := depth, dclass := dclass, owner := owner,
    push := push, pop := pop }

/-- K-mode cores, the host port and the debug port (16 R418 "Software access"), as a mask of master codes. -/
abbrev softMask : Nat := 0x06F

/-- The descriptors of 16 R418. Log entry 65, DEDUCED. -/
def qReset (q : Nat) : QDesc :=
  if q < 32 then QDesc.row 0x20000000 0 11 8 3 0x10 0 softMask q
  else if q < 48 then QDesc.row 0x20080000 32 11 4 1 0x10 softMask 0 q
  else if q < 64 then QDesc.row 0x200A0000 48 3 64 2 0x11 0 softMask q
  else if q < 80 then QDesc.row 0x200A2000 64 3 64 2 0x12 0 0 q
  else if q < 88 then QDesc.row 0x200A4000 80 6 16 4 0x1F 0 0 q
  else if q < 92 then QDesc.row 0x200A6000 88 8 16 1 0x07 softMask 0 q
  else if q < 96 then QDesc.row 0x200AA000 92 8 16 3 0x07 0 softMask q
  else if q < 100 then QDesc.row 0x200AE000 96 6 64 0 0x14 0x01F 0 q
  else if q < 102 then QDesc.row 0x200B2000 100 4 256 0 0x13 0 softMask q
  else if q < 104 then QDesc.row 0x200B4000 102 5 64 4 0x15 0 softMask q
  else if q < 108 then QDesc.row 0x200B5000 104 6 16 4 0x09 softMask 0 q
  else if q < 124 then QDesc.row 0x200B6000 108 4 64 4 0x16 0 softMask q
  else if q < 125 then QDesc.row 0x200BA000 124 6 16 4 0x09 softMask 0 q
  else if q < 126 then QDesc.row 0x200BA000 124 6 16 4 0x09 0 softMask q
  else QDesc.row 0x200BA800 126 6 16 4 0x1F 0 0 q

/-- Reset value of a descriptor register (16 R418, R436-R438). -/
def qRegReset (o : Nat) : Word :=
  let d := qReset (o / 16)
  if o % 16 = 0 then w32 d.base
  else if o % 16 = 4 then at_ 0 4 d.esz ||| at_ 8 16 (d.depth - 1) ||| at_ 24 3 d.dclass ||| flag 31 true
  else if o % 16 = 8 then at_ 0 5 d.owner
  else at_ 0 10 d.push ||| at_ 16 10 d.pop

/-- Reset value of a stored register, by absolute address; 0 for every register whose table gives 0. -/
def regReset (a : Nat) : Word :=
  if a < govB then 0
  else if a = govB + 0x04 then 0x2328
  else if a = govB + 0x08 then 0x73
  else if a = govB + 0x0C then 0x3C
  else if a = govB + 0x10 then 0x32
  else if a = govB + 0x14 then 0x382A1C0E
  else if a = govB + 0x18 then 0x64
  else if a = govB + 0x30 then 0x1000
  else if a = loopB + 0x108 ∨ a = loopB + 0x148 ∨ a = loopB + 0x188 ∨ a = loopB + 0x1C8 then 0x12
  else if a = netB then 0x003F88B5
  else if a = netB + 4 ∨ a = netB + 8 then 1
  else if queB + 0x1000 ≤ a ∧ a < queB + 0x1800 then qRegReset (a - (queB + 0x1000))
  else if a = bstB + 4 then 0x2710
  else if a = hstB + 0x30 then 0xF
  else 0

namespace State

/-- The stored word of a register. -/
def reg (s : State) (a : Nat) : Word := look (regReset a) s.regs a

/-- A register's stored word replaced. -/
def setReg (s : State) (a : Nat) (v : Word) : State := { s with regs := put (regReset a) s.regs a v }

/-- Bits set by hardware in a status register. -/
def setBits (s : State) (a : Nat) (v : Word) : State := s.setReg a (s.reg a ||| v)

/-- Bits cleared by hardware. -/
def clrBits (s : State) (a : Nat) (v : Word) : State := s.setReg a (s.reg a &&& ~~~v)

/-- A wrapping counter register counts once. -/
def countUp (s : State) (a : Nat) : State := s.setReg a (s.reg a + 1)

/-- The saturating counter in a field of a register counts once. -/
def satUp (s : State) (a lo len : Nat) : State :=
  s.setReg a (putFld (s.reg a) lo len (satInc (2 ^ len - 1) (fld (s.reg a) lo len)))

/-- The time base as a number (13 R361). -/
def now (s : State) : Nat := s.tmr.tb.toNat

/-- The answer of a command's access. -/
def answer (s : State) (status : Nat) (data : List Word) : State := { s with resp := { status := status, data := data } }

/-- A free value is used up. -/
def drawn (s : State) : State := { s with fresh := s.fresh + 1 }

/-- The registers of a processor. -/
def cpu (s : State) : Proc → Cpu
  | .safety => s.sp
  | .ac 0 => s.ac0
  | .ac 1 => s.ac1
  | .ac 2 => s.ac2
  | .ac 3 => s.ac3

/-- The registers of a processor replaced. -/
def setCpu (s : State) (p : Proc) (c : Cpu) : State :=
  match p with
  | .safety => { s with sp := c }
  | .ac 0 => { s with ac0 := c }
  | .ac 1 => { s with ac1 := c }
  | .ac 2 => { s with ac2 := c }
  | .ac 3 => { s with ac3 := c }

/-- A change to one application core, by number below 4. -/
def onCore (s : State) (k : Nat) (f : Cpu → Cpu) : State :=
  match k with
  | 0 => { s with ac0 := f s.ac0 }
  | 1 => { s with ac1 := f s.ac1 }
  | 2 => { s with ac2 := f s.ac2 }
  | 3 => { s with ac3 := f s.ac3 }
  | _ => s

/-- An application core, by number. -/
def core (s : State) (k : Nat) : Cpu :=
  match k with
  | 0 => s.ac0
  | 1 => s.ac1
  | 2 => s.ac2
  | _ => s.ac3

/-- The byte at an application memory address, as its cell holds it. -/
def byte (s : State) (a : Nat) : Byte := look 0 s.mem.cells a

/-- `k` bytes from an address up. -/
def bytes (s : State) (a k : Nat) : List Byte := (upFrom k a).map s.byte

/-- A byte stored. -/
def setByte (s : State) (a : Nat) (b : Byte) : State := { s with mem := { s.mem with cells := put 0 s.mem.cells a b } }

/-- Bytes stored from an address up. -/
def setBytes (s : State) (a : Nat) : List Byte → State
  | [] => s
  | b :: bs => (s.setByte a b).setBytes (a + 1) bs

/-- Bytes written from an address up by a path of the device's own: a word that is replaced whole holds no error any more (16 R427).
-/
def overwrite (s : State) (a : Nat) (bs : List Byte) : State :=
  let part := fun (w : Nat) => decide (w < a) || decide (a + bs.length < w + 8)
  let t := s.setBytes a bs
  { t with mem := { t.mem with bad := t.mem.bad.filter part, soft := t.mem.soft.filter part } }

/-- The number of `k` bytes at an address, little-endian. -/
def num (s : State) (a k : Nat) : Nat := natOfBytes (s.bytes a k)

/-- Completed handshakes of a unit (17 R445): units 0 to 9 are the fabric masters by their code, 10 the lattice, 11 the queue engine,
12 the memories. Log entry 120, DESIGN CHOICE. -/
def handshake (s : State) (u : Nat) (d : Hand) : State :=
  let h := look {} s.gov.hand u
  let n := { h0 := h.h0 + d.h0, h1 := h.h1 + d.h1, h2 := h.h2 + d.h2, h3 := h.h3 + d.h3 }
  { s with gov := { s.gov with hand := put {} s.gov.hand u n } }

end State

/-- The canonical form of a memory: addresses strictly rising, and no byte listed that an unlisted one reads as. -/
def Memory.wf (cells : Tab Byte) : Bool := tabWf 0 cells

/-- Cells in [lo, hi) read 0 again. -/
def wipeCells (lo hi : Nat) (t : Tab Byte) : Tab Byte := t.filter (fun e => e.1 < lo || hi ≤ e.1)

/-- The fabric statuses (03 R72). -/
abbrev stOk : Nat := 0
abbrev stIgnored : Nat := 1
abbrev stError : Nat := 2
abbrev stDecode : Nat := 3

/-- The parameters of the CRC-32 of 06 R202 over bytes. -/
def crc32 (bs : List Byte) : Nat := (crcBytes 32 0xF4ACFB13 0xFFFFFFFF bs) ^^^ 0xFFFFFFFF

/-- SHA3-512 as 64 bytes, first byte first. -/
def shaBytes (bs : List Byte) : List Byte := bytesOfNat 64 (Config.sha3_512 bs).toNat

/-- A safety input (07). -/
def State.inp (s : State) (n : Nat) : InSt := look {} s.inputs.ins n
def State.setInp (s : State) (n : Nat) (v : InSt) : State := { s with inputs := { s.inputs with ins := put {} s.inputs.ins n v } }

/-- A master's port is revoked (10 R301). -/
def State.revoked (s : State) (m : Nat) : Bool := bit s.flt.revoked m

/-- Elements of a list that a rising-order insertion puts in place, without repeats. -/
def insNat (n : Nat) : List Nat → List Nat
  | [] => [n]
  | m :: ms => if n < m then n :: m :: ms else if n = m then m :: ms else m :: insNat n ms

end Sys2Proof.Machine
end

