-- ==== Sys2Proof/Machine/Operands.lean ====
section
/-! DEFINITION. The operand forms of the Orouth instruction set (04 R93, R94, R100): general and safe-boolean registers, the
status word, immediates, dual words, and the instruction words that EVAL shows. -/
namespace Sys2Proof.Machine

/-- A general register read: g0 reads 0 (04 R93). -/
def Cpu.r (c : Cpu) (i : Nat) : Word := if i = 0 then 0 else look 0 c.g i

/-- A general register written: writes of g0 are discarded (04 R93). -/
def Cpu.w (c : Cpu) (i : Nat) (v : Word) : Cpu := if i = 0 then c else { c with g := put 0 c.g i v }

/-- A safe-boolean register (04 R93). -/
def Cpu.b (c : Cpu) (i : Nat) : BitVec 2 := look 0 c.sb i

def Cpu.setB (c : Cpu) (i : Nat) (v : BitVec 2) : Cpu := { c with sb := put 0 c.sb i v }

/-- The status word (04 R94). -/
def Cpu.stWord (c : Cpu) : Word :=
  flag 0 c.st.z ||| flag 1 c.st.n ||| flag 2 c.st.c ||| flag 3 c.st.v ||| at_ 4 2 c.st.mode.toNat ||| flag 6 c.st.ie
    ||| flag 7 c.st.exc ||| at_ 8 4 c.rets.length ||| at_ 12 3 c.loops.length

/-- The stored status bits that a status word spells. -/
def StBits.ofWord (w : Word) : StBits :=
  { z := bit w 0, n := bit w 1, c := bit w 2, v := bit w 3, mode := BitVec.ofNat 2 (fld w 4 2), ie := bit w 6, exc := bit w 7 }

namespace State

/-- A general register of a processor. -/
def gr (s : State) (p : Proc) (i : BitVec 4) : Word := (s.cpu p).r i.toNat

/-- A general register of a processor written. -/
def setGr (s : State) (p : Proc) (i : BitVec 4) (v : Word) : State := s.setCpu p ((s.cpu p).w i.toNat v)

/-- A safe boolean of the safety processor. -/
def sbr (s : State) (i : BitVec 5) : BitVec 2 := s.sp.b i.toNat

def setSbr (s : State) (i : BitVec 5) (v : BitVec 2) : State := { s with sp := s.sp.setB i.toNat v }

end State

/-- sext(imm18) and zext(imm18) (04 R107). -/
def sext18 (v : BitVec 18) : Word := v.signExtend 32
def zext18 (v : BitVec 18) : Word := v.setWidth 32

/-! ### Instruction words (04 R100) -/

def wordR (op fn : Nat) (f : FmtR) : Word :=
  at_ 26 6 op ||| at_ 22 4 f.rd.toNat ||| at_ 18 4 f.ra.toNat ||| at_ 14 4 f.rb.toNat ||| at_ 8 6 fn ||| at_ 0 8 f.aux.toNat

def wordI (op : Nat) (f : FmtI) : Word :=
  at_ 26 6 op ||| at_ 22 4 f.rd.toNat ||| at_ 18 4 f.ra.toNat ||| at_ 0 18 f.imm.toNat

def wordJ (op : Nat) (f : FmtJ) : Word := at_ 26 6 op ||| at_ 21 5 f.sel.toNat ||| at_ 0 21 f.off.toNat

def wordX (op fn : Nat) (f : FmtX) : Word :=
  at_ 26 6 op ||| at_ 21 5 f.sd.toNat ||| at_ 16 5 f.sa.toNat ||| at_ 11 5 f.sb.toNat ||| at_ 6 5 f.sc.toNat ||| at_ 0 6 fn

def wordL (op : Nat) (f : FmtL) : Word := at_ 26 6 op ||| at_ 12 14 f.count.toNat ||| at_ 0 12 f.len.toNat

def wordS (fn : Nat) (f : FmtS) : Word :=
  at_ 26 6 0x2B ||| at_ 22 4 f.rd.toNat ||| at_ 18 4 f.ra.toNat ||| at_ 16 2 fn ||| at_ 0 16 f.imm.toNat

/-- The op and fn of a word are assigned (04 R101, R103); every other word, the all-zero one among them, is reserved. -/
def opAssigned (w : Word) : Bool :=
  let fn := fld w 8 6
  match fld w 26 6 with
  | 0x01 => decide (fn < 0x14)
  | 0x02 | 0x03 | 0x0A => decide (fn < 4)
  | 0x1C => decide (fn < 3)
  | 0x28 => decide (fld w 0 6 < 0xB)
  | 0x29 => decide (fld w 0 6 < 6)
  | 0x2A => decide (fld w 0 6 < 2)
  | 0x2B => decide (fld w 16 2 < 2)
  | 0x3E => decide (fn < 9)
  | 0x3F => decide (fn < 0xC)
  | op => decide (4 ≤ op ∧ op < 0xA) || decide (0x10 ≤ op ∧ op < 0x1C) || decide (0x20 ≤ op ∧ op < 0x28)

/-! ### Dual words and safe booleans (04 R108, 05 R142-R144) -/

/-- The dual word of a 16-bit value. -/
def dual (v : BitVec 16) : Word := v.setWidth 32 ||| ((~~~v).setWidth 32 <<< 16)

/-- The 16-bit value of a dual word, none for an invalid one. -/
def dualVal (w : Word) : Option (BitVec 16) :=
  let v := w.setWidth 16
  if w = dual v then some v else none

/-- The dual word of a number, invalid outside -32768 to 32767 (04 R108). -/
def dualOfInt (x : Int) : Word := if -32768 ≤ x ∧ x ≤ 32767 then dual (BitVec.ofInt 16 x) else 0

/-- The safe boolean of a truth value. -/
def sbOf (b : Bool) : BitVec 2 := if b then 2 else 1

/-- The truth value of a safe boolean, none for the invalid codes. -/
def sbVal (v : BitVec 2) : Option Bool := if v = 2 then some true else if v = 1 then some false else none

/-- A safe-boolean result: invalid when an operand is. -/
def sbRes : Option Bool → BitVec 2
  | some b => sbOf b
  | none => 0

end Sys2Proof.Machine
end

