-- ==== Sys2Proof/Machine/Flags.lean ====
section
/-! DEFINITION. The flag computations of the Orouth instruction set (04 R105, R106, R114). -/
namespace Sys2Proof.Machine

/-- The flags of the compare a - b (04 R105): C is 1 when no borrow occurred, V is the signed overflow. -/
def cmpFlags (st : StBits) (a b : Word) : StBits :=
  let d := a - b
  { st with z := d == 0, n := d.msb, c := decide (b.toNat ≤ a.toNat), v := decide (a.toInt - b.toInt ≠ d.toInt) }

/-- The flags of TST (04 R105). -/
def tstFlags (st : StBits) (a b : Word) : StBits :=
  let d := a &&& b
  { st with z := d == 0, n := d.msb, c := false, v := false }

/-- The branch condition sel[3:0] (04 R114); the reserved code never reaches it. -/
def condHolds (st : StBits) (sel : Nat) : Bool :=
  match sel with
  | 0 => st.z
  | 1 => !st.z
  | 2 => st.n != st.v
  | 3 => st.n == st.v
  | 4 => st.z || st.n != st.v
  | 5 => !st.z && st.n == st.v
  | 6 => !st.c
  | 7 => st.c
  | 8 => !st.c || st.z
  | 9 => st.c && !st.z
  | 10 => st.v
  | 11 => !st.v
  | 12 => st.n
  | 13 => !st.n
  | _ => true

namespace State

/-- The status bits of a processor replaced. -/
def setSt (s : State) (p : Proc) (st : StBits) : State := s.setCpu p { s.cpu p with st := st }

/-- Z alone written, by AMOCAS, SRECV and the task instructions (04 R113, R121, R133). -/
def setZ (s : State) (p : Proc) (b : Bool) : State := s.setSt p { (s.cpu p).st with z := b }

end State

end Sys2Proof.Machine
end

