-- ==== Sys2Proof/Machine/Source.lean ====
section
/-! DEFINITION. The fault sources (10 R288-R291): their default classes and floors, and what a detector does on its pair of
wires. The receipt of a code is a command of its own (FAULT_RECEIPT). -/
namespace Sys2Proof.Machine

/-- Default class and floor of a source (10 R290); none for a reserved number (R289). -/
def srcDefault (n : Nat) : Option (Nat × Nat) :=
  if n ≤ 12 then some (if n = 0 ∨ n = 3 ∨ (4 ≤ n ∧ n ≤ 8) then (2, 2) else (3, 3))
  else if n < 16 then none
  else if n ≤ 20 then some (if n = 16 ∨ n = 20 then (2, 2) else (3, 3))
  else if n < 24 then none
  else if n ≤ 25 then some (3, 3)
  else if n = 26 then some (0, 0)
  else if n < 32 then none
  else if n ≤ 35 then some (1, 1)
  else if n ≤ 39 then some (3, 3)
  else if n = 40 then some (1, 1)
  else if n = 41 then some (0, 0)
  else if n < 48 then none
  else if n ≤ 59 then some (3, 2)
  else if n ≤ 71 then some (3, 3)
  else if n ≤ 73 then some (2, 2)
  else if n ≤ 77 then some (1, 1)
  else if n < 80 then none
  else if n = 80 ∨ n = 83 ∨ n = 84 then some (2, 2)
  else if n ≤ 82 then some (3, 3)
  else if n = 85 then some (1, 1)
  else if n < 96 then none
  else if n ≤ 97 then some (1, 0)
  else if n = 98 then some (2, 2)
  else if n ≤ 101 then some (0, 0)
  else if n = 102 then some (1, 1)
  else if n < 112 then none
  else if n = 112 then some (1, 0)
  else if n = 113 then some (2, 2)
  else if n ≤ 119 then some (1, 0)
  else if n < 128 then none
  else if n ≤ 132 then some (1, 0)
  else if n = 133 then some (1, 1)
  else if n = 134 then some (0, 0)
  else if n = 135 then some (2, 2)
  else if n ≤ 137 then some (1, 1)
  else if n = 138 then some (0, 0)
  else if n < 144 then none
  else if n = 144 then some (2, 2)
  else if n = 145 then some (3, 3)
  else if n = 146 then some (0, 0)
  else if n = 147 then some (1, 0)
  else if n = 148 then some (2, 2)
  else if n < 160 then none
  else if n = 160 then some (0, 0)
  else if n ≤ 162 then some (1, 1)
  else if n ≤ 164 then some (0, 0)
  else if n < 176 then none
  else if n = 176 then some (1, 1)
  else if n = 177 then some (2, 2)
  else if n ≤ 179 then some (0, 0)
  else if n < 224 then none
  else if n ≤ 239 then some (0, 0)
  else if n ≤ 241 then some (3, 3)
  else none

/-- The source revokes a fabric master (10 R290, "Revokes"). -/
def srcRevokes (n : Nat) : Bool :=
  n == 101 || (decide (128 ≤ n) && decide (n ≤ 133)) || n == 162 || n == 176 || n == 179

/-- The master a source revokes (10 R290): F132 and F133 name it in DETAIL; the safety processor window is revoked by no
source but may be named by F132 and F133. -/
def srcMaster (n : Nat) (detail : BitVec 16) : Option Nat :=
  if n = 101 then some 8
  else if 128 ≤ n ∧ n ≤ 131 then some (n - 128)
  else if n = 132 ∨ n = 133 then (if detail.toNat < 10 then some detail.toNat else none)
  else if n = 162 then some 9
  else if n = 176 then some 7
  else if n = 179 then some 5
  else none

namespace State

def src (s : State) (n : Nat) : Src := look {} s.flt.srcs n

def setSrc (s : State) (n : Nat) (v : Src) : State := { s with flt := { s.flt with srcs := put {} s.flt.srcs n v } }

/-- A detector drives its source to Fault and names the item (10 R288, R291). A pair that shows Fault already, and a reserved
number (R289), stay as they are. -/
def drive (s : State) (n : Nat) (detail : BitVec 16) : State :=
  if (srcDefault n).isNone then s
  else if (s.src n).rail ≠ .ok then s
  else
    let s := s.setSrc n { s.src n with rail := .fault }
    { s with flt := { s.flt with raised := s.flt.raised ++ [{ src := n, detail := detail, time := s.now }] } }

/-- A further item of a source whose pair may show Fault already (10 R291, for F026): each item gives its own entry. -/
def driveItem (s : State) (n : Nat) (detail : BitVec 16) : State :=
  if (srcDefault n).isNone then s
  else
    let s := s.setSrc n { s.src n with rail := .fault }
    { s with flt := { s.flt with raised := s.flt.raised ++ [{ src := n, detail := detail, time := s.now }] } }

/-- A detector drives its source when a condition holds. -/
def driveIf (s : State) (c : Bool) (n : Nat) (detail : BitVec 16) : State := if c then s.drive n detail else s

end State

/-- A 16-bit DETAIL. -/
def det (n : Nat) : BitVec 16 := BitVec.ofNat 16 n

end Sys2Proof.Machine
end

