-- ==== Sys2Proof/Machine/Entry.lean ====
section
/-! DEFINITION. How control goes on at an OIS processor (04 R116, R117, R127, R129; 21 R537): loop completion, branches, exception
entry, double faults, and the end of a debug step. -/
namespace Sys2Proof.Machine

/-- An exception cause with its DETAIL and EVAL (04 R126). -/
structure Exc where
  code : Nat
  detail : Nat := 0
  eval : Word := 0
deriving DecidableEq, Repr

/-! ### Loops -/

/-- The loop level of R117 is the present one. -/
def LoopEnt.level (e : LoopEnt) (c : Cpu) : Bool := e.depth == c.rets.length && e.exc == c.st.exc

/-- Loop completion at the address `last`, about to continue at `next` (04 R116): every entry of the present level whose body ends
there is asked, the innermost first; one with repetitions left sends control back, one without is popped. Answers where
execution continues, the remaining loop stack, and the loop-backs (each costs one slot). -/
def loopNext (c : Cpu) (last next : Word) : List LoopEnt → Word × List LoopEnt × Nat
  | [] => (next, [], 0)
  | e :: es =>
    if e.level c && e.last == last then
      if 1 < e.left then (e.first, { e with left := e.left - 1 } :: es, 1) else loopNext c last next es
    else
      let r := loopNext c last next es
      (r.1, e :: r.2.1, r.2.2)

/-- An address lies in a loop's body. -/
def LoopEnt.holds (e : LoopEnt) (t : Word) : Bool := decide (e.first.toNat ≤ t.toNat) && decide (t.toNat ≤ e.last.toNat)

/-- A branch or jump at the loop level ends every loop of that level whose body does not hold its target (04 R117). -/
def exitLoops (c : Cpu) (t : Word) (es : List LoopEnt) : List LoopEnt := es.filter (fun e => !(e.level c && !e.holds t))

namespace State

/-- The grant of a core is given up; its energy is settled by GRANT_END (17 R449). -/
def endGrant (s : State) (w : Worker) : State :=
  { s with gov := { s.gov with grants := s.gov.grants.map (fun (g : Grant) => if g.who = w then { g with ended := true } else g) } }

/-- Slots of the safety processor counted since the strobe (05 R153 SLOTCNT). -/
def addSlots (s : State) (p : Proc) (k : Nat) : State :=
  match p with
  | .safety => { s with chA := { s.chA with slots := s.chA.slots + k } }
  | .ac _ => s

/-- A core that runs a context under grant: a grant in force or just given up, and no handler of an idle core (17 R450, R456). -/
def granted (s : State) (k : Nat) : Bool :=
  s.gov.grants.any (fun g => g.who == .core k && g.cls != 0) && !(s.core k).parked

/-- An instruction that an application core completes under grant is counted (17 R456). -/
def tally (s : State) (p : Proc) : State :=
  { s with gov := { s.gov with instrs :=
    match p with
    | .safety => s.gov.instrs
    | .ac k => if s.granted k then put 0 s.gov.instrs k (look 0 s.gov.instrs k + 1) else s.gov.instrs } }

/-- A completed instruction: its slots, and the handshakes of its fetch and of its operation (17 R445; log entry 120, DESIGN
CHOICE). -/
def ran (s : State) (p : Proc) (cost : Nat) : State :=
  ((s.addSlots p cost).handshake (match p with | .safety => 4 | .ac k => k.val) { h0 := 1, h1 := 1 }).tally p

/-- The instruction at pc has finished and control continues after `last` (04 R116). -/
def flowOn (s : State) (p : Proc) (last : Word) : State :=
  let c := s.cpu p
  let r := loopNext c last (last + 4) c.loops
  (s.setCpu p { c with pc := r.1, loops := r.2.1 }).addSlots p r.2.2

/-- A branch or jump to t (04 R117). -/
def flowTo (s : State) (p : Proc) (t : Word) : State :=
  let c := s.cpu p
  s.setCpu p { c with pc := t, loops := exitLoops c t c.loops }

/-! ### Exceptions -/

/-- Exception entry (04 R127): pc and st saved, the cause and value written, EXC 1, IE 0 and, on an application core, K-mode;
at the vector. -/
def enterExc (s : State) (p : Proc) (e : Exc) (imp : Bool) (epc : Word) : State :=
  let c := s.cpu p
  let c := { c with epc := epc, est := c.stWord, eval := e.eval, run := .running, ifetch := none
                    ecause := at_ 0 8 e.code ||| flag 8 imp ||| at_ 16 16 e.detail }
  match p with
  | .safety => s.setCpu p { c with pc := 0x80, st := { c.st with exc := true, ie := false } }
  | .ac _ =>
    s.setCpu p { c with pc := c.vbase + (if e.code = 0x10 then 0x100 else 0)
                        st := { c.st with exc := true, ie := false, mode := 1 } }

/-- A synchronous exception (04 R127); while EXC is 1 it is a double fault, which stops the processor, and a core raises its
core fault (04 R129, 10 R290). -/
def raiseExc (s : State) (p : Proc) (e : Exc) : State :=
  let c := s.cpu p
  if c.st.exc then
    let s := s.setCpu p { c with run := .stopped }
    match p with
    | .safety => s
    | .ac k => (s.endGrant (.core k.val)).drive (128 + k.val) 0
  else s.enterExc p e false (if e.code = 8 then c.pc + 4 else c.pc)

/-- After its instruction a stepped processor halts again (21 R537); an access in progress completes first. -/
def settleStep (s : State) (p : Proc) : State :=
  let c := s.cpu p
  if !c.stepping then s
  else
    match c.run with
    | .waitRead _ _ | .waitRemote _ _ | .waitFence => s
    | .stopped => s.setCpu p { c with stepping := false }
    | r => { (s.setCpu p { c with stepping := false, run := .halted r }) with dbg := { s.dbg with data := c.pc } }

end State

end Sys2Proof.Machine
end

