-- ==== Sys2Proof/Machine/Queue.lean ====
section
/-! DEFINITION. The queue engine (16 R418-R425): reserve, publish, take and release by software, push and pop by the
hardware unit that owns a queue, and the effect of a revocation on the queues. -/
namespace Sys2Proof.Machine

namespace State

/-- What the engine keeps of queue q. -/
def queue (s : State) (q : Nat) : Queue := look {} s.queues q

def setQueue (s : State) (q : Nat) (v : Queue) : State := { s with queues := put {} s.queues q v }

/-- Active descriptor fields of queue q (16 R436-R438). -/
def qBase (s : State) (q : Nat) : Nat := (s.reg (queB + 0x1000 + 16 * q)).toNat
def qEsz (s : State) (q : Nat) : Nat := 2 ^ fld (s.reg (queB + 0x1004 + 16 * q)) 0 4
def qDepth (s : State) (q : Nat) : Nat := fld (s.reg (queB + 0x1004 + 16 * q)) 8 16 + 1
def qEn (s : State) (q : Nat) : Bool := bit (s.reg (queB + 0x1004 + 16 * q)) 31
def qOwner (s : State) (q : Nat) : Nat := fld (s.reg (queB + 0x1008 + 16 * q)) 0 5
def qPushM (s : State) (q : Nat) : Nat := fld (s.reg (queB + 0x100C + 16 * q)) 0 10
def qPopM (s : State) (q : Nat) : Nat := fld (s.reg (queB + 0x100C + 16 * q)) 16 10

/-- The address of ring slot i of queue q. -/
def qSlotAddr (s : State) (q i : Nat) : Nat := s.qBase q + i * s.qEsz q

end State

/-- The slot can be freed once every older one is free (16 R421, R422). -/
def SlotSt.gone : SlotSt → Bool
  | .released | .void => true
  | _ => false

/-- Free the oldest slots that are released or void (16 R421). -/
def Queue.trim (v : Queue) : Queue := { v with slots := v.slots.dropWhile (fun e => e.st.gone) }

/-- The ring has no free slot (16 R439). -/
def State.qFull (s : State) (q : Nat) : Bool :=
  decide (s.qDepth q ≤ (if 64 ≤ q ∧ q < 80 then (look [] s.ready q).length else (s.queue q).slots.length))

/-- The queue has an owner (16 R420, R422). -/
def State.qOwned (s : State) (q : Nat) : Bool := decide (s.qOwner q ≠ 0x1F) && !(s.queue q).noOwn

/-- The oldest slot that no consumer has taken, when it is published (16 R420, R421). -/
def Queue.front : List Slot → Option Slot
  | [] => none
  | e :: es =>
    match e.st with
    | .taken _ | .released | .void => Queue.front es
    | .published => some e
    | .reserved _ => none

/-- The first slot with ring index i changed. -/
def Queue.mark (i : Nat) (t : SlotSt) : List Slot → List Slot
  | [] => []
  | e :: es => if e.idx = i then { e with st := t } :: es else e :: Queue.mark i t es

/-- A published entry not yet taken is visible to a consumer (16 R421). -/
def State.qAvail (s : State) (q : Nat) : Bool := (Queue.front (s.queue q).slots).isSome

/-- Reservation of the next free slot for a master: the value PRODq answers (16 R420). -/
def State.qReserve (s : State) (q m : Nat) : State × Word :=
  let v := s.queue q
  if s.qFull q || !s.qEn q || !s.qOwned q || !(s.qPushM q).testBit m then (s, 0)
  else
    (s.setQueue q { v with slots := v.slots ++ [{ idx := v.next, st := .reserved m }],
                           next := (v.next + 1) % s.qDepth q },
     w32 (s.qSlotAddr q v.next) ||| 1)

/-- The index of the slot of queue q at an address that is in state t. -/
def State.qFind (s : State) (q : Nat) (a : Nat) (t : SlotSt) : Option Nat :=
  match (s.queue q).slots.find? (fun e => s.qSlotAddr q e.idx == a && e.st == t) with
  | some e => some e.idx
  | none => none

/-- Publication of a slot the master has reserved (16 R420). -/
def State.qPublish (s : State) (q m : Nat) (a : Word) : State × Nat :=
  match s.qFind q a.toNat (.reserved m) with
  | none => (s, stIgnored)
  | some i => let v := s.queue q; (s.setQueue q { v with slots := Queue.mark i .published v.slots }, stOk)

/-- The oldest published entry taken by a master: the value CONSq answers (16 R421). -/
def State.qTake (s : State) (q m : Nat) : State × Word :=
  let v := s.queue q
  match Queue.front v.slots with
  | none => (s, 0)
  | some e =>
    if (s.qPopM q).testBit m then
      (s.setQueue q { v with slots := Queue.mark e.idx (.taken m) v.slots }, w32 (s.qSlotAddr q e.idx) ||| 1)
    else (s, 0)

/-- Release of an entry the master has taken (16 R421). -/
def State.qRelease (s : State) (q m : Nat) (a : Word) : State × Nat :=
  match s.qFind q a.toNat (.taken m) with
  | none => (s, stIgnored)
  | some i =>
    let v := s.queue q
    (s.setQueue q (Queue.trim { v with slots := Queue.mark i .released v.slots }), stOk)

/-- The bytes of one queue entry, padded with zeros to the entry size. -/
def padTo (n : Nat) (bs : List Byte) : List Byte := bs.take n ++ List.replicate (n - bs.length) 0

/-- The oldest entry of a queue is discarded, whatever has become of it (12 R354). -/
def State.qDrop (s : State) (q : Nat) : State := s.setQueue q (Queue.trim { s.queue q with slots := (s.queue q).slots.tail })

/-- A slot after the revocation of master m (16 R422). -/
def Slot.revoke (m : Nat) (e : Slot) : Slot :=
  match e.st with
  | .reserved k => if k = m then { e with st := .void } else e
  | .taken k => if k = m then { e with st := .released } else e
  | _ => e

/-- The effect of the revocation of master m on the queues: its reservations void, its takes released, the queues it owns
without an owner (10 R301, 16 R422). -/
def State.qRevoke (s : State) (m : Nat) : State :=
  (upFrom 128 0).foldl (fun s q =>
    let v := s.queue q
    s.setQueue q (Queue.trim { v with slots := v.slots.map (Slot.revoke m), noOwn := v.noOwn || (s.qOwner q == m) })) s

/-- A hardware owner's queues return to it when its port reopens (10 R301). -/
def State.qReopen (s : State) (m : Nat) : State :=
  (upFrom 128 0).foldl (fun s q =>
    if s.qOwner q = m ∧ (q < 80 ∨ (88 ≤ q ∧ q < 126)) then s.setQueue q { s.queue q with noOwn := false } else s) s

/-- A queue is one that a hardware unit owns for good (16 R418, R419). -/
def qHardware (q : Nat) : Bool := decide (q < 80) || (decide (88 ≤ q) && decide (q < 126))

/-- The published count of QSTq (16 R439): entries published and not yet released. -/
def State.qCount (s : State) (q : Nat) : Nat :=
  if 64 ≤ q ∧ q < 80 then (look [] s.ready q).length
  else ((s.queue q).slots.filter (fun e => match e.st with | .published | .taken _ => true | _ => false)).length

/-- QSTq (16 R439). Log entry 66, DEDUCED. -/
def State.qStat (s : State) (q : Nat) : Word :=
  at_ 0 16 (min (s.qCount q) 65535) ||| flag 16 (s.qFull q) ||| flag 17 (s.qCount q == 0)
    ||| flag 18 ((s.queue q).slots.any (fun e => match e.st with | .reserved _ => true | _ => false))

/-- Bit q of the NEMPTY words (16 R436): a published entry not yet taken. -/
def State.qNonEmpty (s : State) (q : Nat) : Bool :=
  if 64 ≤ q ∧ q < 80 then !(look [] s.ready q).isEmpty
  else (s.queue q).slots.any (fun e => e.st == .published)

end Sys2Proof.Machine
end

