-- ==== Sys2Proof/Machine/Memory.lean ====
section
/-! DEFINITION. The memories behind the fabric (16 R426-R435): error-correcting working memory and queue SRAM, the
non-volatile store with its protected regions, the recorder ring and its staging buffer, and the wipes. -/
namespace Sys2Proof.Machine

abbrev nvBase : Nat := 0x10000000
abbrev recRing : Nat := 0x14000000
abbrev recCount : Nat := 0x100000

/-- The aligned 8-byte word an address lies in (16 R426). -/
def wordAt (a : Nat) : Nat := a - a % 8

/-- The memory an address lies in (03 R68). -/
inductive Region where
  | work | nv | sram | regs | remote | none
deriving DecidableEq, Repr

/-- The application address map (03 R68). -/
def regionOf (a : Nat) : Region :=
  if a < 0x10000000 then .work
  else if a < 0x18000000 then .nv
  else if 0x20000000 ≤ a ∧ a < 0x20100000 then .sram
  else if 0x30000000 ≤ a ∧ a < 0x30100000 then .regs
  else if 0x80000000 ≤ a ∧ a < 0x100000000 then .remote
  else .none

/-- Masters that may write an NV offset by a fabric access (16 R429, R430); `kcore` for a core in K mode. The trust engine
and the recorder write by their own paths. -/
def nvWriter (off m : Nat) : Bool :=
  if 0x3400000 ≤ off ∧ off < 0x4000000 then (decide (m < 4) || m == 5)
  else if off < 0x3400000 then m == 9
  else false

namespace State

/-- MEM.STAT bits (16 R441). -/
def memStat (s : State) (b : Nat) : State := s.setBits memB (flag b true)

/-- A word is removed from the words that hold a single-bit error. -/
def unsoft (s : State) (w : Nat) : State := { s with mem := { s.mem with soft := s.mem.soft.filter (· ≠ w) } }

/-- A word is removed from the uncorrectable words. -/
def unbad (s : State) (w : Nat) : State := { s with mem := { s.mem with bad := s.mem.bad.filter (· ≠ w) } }

/-- What a read of a word does by its error-correcting code: correction with its count and F134 (16 R427, R431), or ERROR
with its record, F133 naming the master or F136 (16 R423, R427, R431). Answers whether the data are good. -/
def eccRead (s : State) (a m : Nat) : State × Bool :=
  let w := wordAt a
  match regionOf a with
  | .work =>
    if s.mem.bad.contains w then
      ((((s.satUp (memB + 8) 0 32).setReg (memB + 0xC) (w32 w)).memStat 1).drive 133 (det m), false)
    else if s.mem.soft.contains w then
      ((((s.unsoft w).satUp (memB + 4) 0 32).memStat 0).drive 134 0, true)
    else (s, true)
  | .nv =>
    if s.mem.bad.contains w then (s.memStat 2, false)
    else if s.mem.soft.contains w then ((s.unsoft w).satUp (memB + 0x20) 0 16, true)
    else (s, true)
  | .sram =>
    if s.mem.bad.contains w then ((s.setBits queB (flag 2 true)).drive 136 0, false)
    else if s.mem.soft.contains w then (s.unsoft w, true)
    else (s, true)
  | _ => (s, true)

/-- What a write of k bytes does by the code of its word: a full 8-byte write replaces it; a shorter one is a
read-modify-write, refused with ERROR on an uncorrectable word (16 R426, R427). -/
def eccWrite (s : State) (a k m : Nat) : State × Bool :=
  if k = 8 ∧ a % 8 = 0 then ((s.unbad a).unsoft a, true) else s.eccRead a m

/-- An NV write is verified by reading it back; a word that fails three times is answered ERROR (16 R431). -/
def nvWrite (s : State) (a : Nat) (bs : List Byte) : State × Bool :=
  let w := wordAt a
  if s.mem.stuck.contains w ∨ s.mem.stuck.contains (wordAt (a + bs.length - 1)) then
    (((s.setReg (memB + 0x24) (w32 w)).memStat 3).drive 137 0, false)
  else (s.setBytes a bs, true)

/-- The words of k bytes at an address read by their code for master m; false when one of them is uncorrectable. -/
def eccSpan (s : State) (a k m : Nat) : State × Bool :=
  ((s.mem.bad ++ s.mem.soft).filter (fun w => decide (a < w + 8) && decide (w < a + k))).foldl
    (fun (r : State × Bool) w => let t := r.1.eccRead w m; (t.1, r.2 && t.2)) (s, true)

/-- Bytes written to NV by a path of the device's own, word by word; false when a word failed. -/
def nvBlock (s : State) (a : Nat) : Nat → List Byte → State × Bool
  | 0, _ => (s, true)
  | k + 1, bs =>
    if bs.isEmpty then (s, true)
    else
      let e := s.eccWrite a (bs.take 8).length 9
      let r := e.1.nvWrite a (bs.take 8)
      if e.2 && r.2 then r.1.nvBlock (a + 8) k (bs.drop 8) else (if e.2 then r.1 else e.1, false)

/-- NV bytes written from an 8-byte-aligned address. -/
def nvStore (s : State) (a : Nat) (bs : List Byte) : State × Bool := s.nvBlock a (bs.length / 8 + 1) bs

/-- A read of k bytes of working memory, NV or queue SRAM for master m: status and number. -/
def ramRead (s : State) (m a k : Nat) : State × Nat × Nat :=
  let r := s.eccRead a m
  if r.2 then (r.1, stOk, r.1.num a k) else (r.1, stError, 0)

/-- A write of k bytes of working memory, NV or queue SRAM for master m. -/
def ramWrite (s : State) (m a : Nat) (bs : List Byte) : State × Nat :=
  match regionOf a with
  | .nv =>
    if nvWriter (a - nvBase) m then
      let r := s.eccWrite a bs.length m
      if r.2 then
        let t := r.1.nvWrite a bs
        (t.1, if t.2 then stOk else stError)
      else (r.1, stError)
    else (s.satUp (memB + 0x20) 16 16, stIgnored)
  | _ =>
    let r := s.eccWrite a bs.length m
    if r.2 then (r.1.setBytes a bs, stOk) else (r.1, stError)

/-! ### Queue entries of the hardware units (16 R421-R425, R432) -/

/-- A push by hardware: a full or disabled queue loses the entry, which LOSTq counts (16 R424, R425); a recorder queue's loss sets
RECLOST and raises F138 (R432, R441). -/
def qPush (s : State) (q : Nat) (bs : List Byte) : State × Bool :=
  let v := s.queue q
  if s.qFull q || !s.qEn q then
    let t := s.countUp (queB + 0x2014 + 32 * q)
    (if 96 ≤ q ∧ q < 100 then (t.memStat 4).drive 138 0 else t, false)
  else
    ((s.overwrite (s.qSlotAddr q v.next) (padTo (s.qEsz q) bs)).setQueue q
      { v with slots := v.slots ++ [{ idx := v.next, st := .published }], next := (v.next + 1) % s.qDepth q }, true)

/-- The master code under which the unit that drains a queue reads it (16 R427, R438): its owner's, the network DMA's for the ring
network unit, 0xF for a unit that is no master. Log entry 129, DEDUCED. -/
def qReader (s : State) (q : Nat) : Nat := match s.qOwner q with | 0x10 => 8 | 7 => 7 | 9 => 9 | _ => 15

/-- Pops by hardware: each entry taken is released; one that reads uncorrectable is lost, and the queue goes on with the next (16
R423, R427). -/
def qPopN (q : Nat) : Nat → State → State × Option (List Byte)
  | 0, s => (s, none)
  | k + 1, s =>
    let v := s.queue q
    match Queue.front v.slots with
    | none => (s, none)
    | some e =>
      let t := s.setQueue q (Queue.trim { v with slots := Queue.mark e.idx .released v.slots })
      let r := t.eccSpan (s.qSlotAddr q e.idx) (s.qEsz q) (s.qReader q)
      if r.2 then (r.1, some (s.bytes (s.qSlotAddr q e.idx) (s.qEsz q))) else qPopN q k r.1

/-- A pop by hardware: the oldest published entry that reads well. -/
def qPop (s : State) (q : Nat) : State × Option (List Byte) := qPopN q ((s.queue q).slots.length + 1) s

end State

/-! ### The recorder (16 R432-R434) -/

/-- Bytes 0 to 59 of a record (16 R433). Log entry 106, DEDUCED. -/
def recBody (seq : Word) (e : Staged) : List Byte :=
  bytesOfNat 4 seq.toNat ++ bytesOfNat 8 e.time ++ [e.type, e.len, 0, 0] ++ padTo 44 e.body

/-- A record of 64 bytes with its CRC (16 R433). -/
def recBytes (seq : Word) (e : Staged) : List Byte :=
  recBody seq e ++ bytesOfNat 4 (crc32 (recBody seq e))

namespace State

/-- The recorder's position, saved in the device records every 256 records (16 R434). Log entry 130, DESIGN CHOICE. -/
def recSave (s : State) : State :=
  let seq := s.reg (memB + 0x34)
  if seq.toNat % 256 = 0 then { s with mem := { s.mem with recPos := (s.reg (memB + 0x30)).toNat, recSeq := seq } } else s

/-- One staged record written to the ring (16 R433); LOGSTAT counts those of the collector (10 R305). -/
def recWrite (s : State) (e : Staged) : State :=
  let pos := (s.reg (memB + 0x30)).toNat
  let seq := s.reg (memB + 0x34)
  let s := (s.nvStore (recRing + 64 * pos) (recBytes seq e)).1
  let s := ((s.setReg (memB + 0x30) (w32 ((pos + 1) % recCount))).setReg (memB + 0x34) (seq + 1)).recSave
  if e.fromCollector then { s with flt := { s.flt with logged := s.flt.logged + 1 } } else s

/-- The staged entries that a test selects written to the ring, oldest first (16 R432, R434). -/
def recDrain (s : State) (f : Staged → Bool) : State :=
  let t := (s.mem.stage.filter f).foldl recWrite s
  { t with mem := { t.mem with stage := s.mem.stage.filter (fun e => !f e) } }

/-- The whole staging buffer written to the ring. -/
def recFlush (s : State) : State := s.recDrain (fun _ => true)

/-- The i-th record after the saved position was written since: its SEQ is i more than the saved one and its CRC correct (16 R434). -/
def recWritten (s : State) (i : Nat) : Bool :=
  let a := recRing + 64 * ((s.mem.recPos + i) % recCount)
  let bs := s.bytes a 64
  let bad := fun (w : Nat) => decide (a ≤ w) && decide (w < a + 64)
  natOfBytes (bs.take 4) == (s.mem.recSeq.toNat + i) % 2 ^ 32 && !s.mem.bad.any bad && natOfBytes (bs.drop 60) == crc32 (bs.take 60)

/-- At start the recorder resumes behind the highest SEQ that a scan of 256 records from the saved position finds (16 R434). Log
entry 130, DESIGN CHOICE. -/
def recResume (s : State) : State :=
  let n := ((upFrom 256 0).filter s.recWritten).foldl (fun _ i => i + 1) 0
  (s.setReg (memB + 0x30) (w32 ((s.mem.recPos + n) % recCount))).setReg (memB + 0x34) (s.mem.recSeq + w32 n)

/-- An entry of the collector or the recorder enters the staging buffer; the collector's reserved share holds 1024 entries
and drains when full, so that the collector never waits, by a path that no grant holds back (16 R432, 17 R442). -/
def stageAdd (s : State) (e : Staged) : State :=
  let s := if e.fromCollector && decide (1024 ≤ (s.mem.stage.filter (·.fromCollector)).length) then s.recDrain (·.fromCollector) else s
  { s with mem := { s.mem with stage := s.mem.stage ++ [e] } }

/-- A recorder queue entry as it is staged (16 R433). -/
def stageOf (s : State) (bs : List Byte) : Staged :=
  let len := bs.getD 0 0
  let ty := bs.getD 1 0
  if len.toNat < 1 ∨ 44 < len.toNat ∨ ty.toNat < 0x10 then
    { time := s.now, type := 0x0F, len := 0, body := [], fromCollector := false }
  else { time := s.now, type := ty, len := len, body := (bs.drop 4).take 44, fromCollector := false }

/-- The recorder pops the entries of a queue while the shared 48 KiB (768 entries) has room (16 R432). -/
def recPop (q : Nat) : Nat → State → State
  | 0, s => s
  | k + 1, s =>
    if 768 ≤ (s.mem.stage.filter (fun e => !e.fromCollector)).length then s
    else
      match s.qPop q with
      | (t, none) => t
      | (t, some bs) => recPop q k (t.stageAdd (t.stageOf bs))

/-- The wipes of START (16 R435): working memory, queue SRAM with its descriptors, TCM, lattice parameter RAM. -/
def wipeStart (s : State) : State :=
  { s with mem := { s.mem with cells := wipeCells 0x20000000 0x20100000 (wipeCells 0 0x10000000 s.mem.cells),
                               bad := s.mem.bad.filter (fun w => nvBase ≤ w && decide (w < 0x18000000)),
                               soft := s.mem.soft.filter (fun w => nvBase ≤ w && decide (w < 0x18000000)) },
           queues := [],
           regs := s.regs.filter (fun e => e.1 < queB + 0x1000 || queB + 0x2000 ≤ e.1),
           chA := { s.chA with tcm := [] },
           lat := { s.lat with bank0 := [], cells := [] } }

/-- The NV user regions wiped (16 R429, R435): application and program slots, commissioning records, user data, recorder
ring. -/
def wipeUser (s : State) : State :=
  let f := fun (t : Tab Byte) =>
    wipeCells (nvBase + 0x3400000) (nvBase + 0x8000000) (wipeCells (nvBase + 0x800000) (nvBase + 0x3100000) t)
  let keep := fun (w : Nat) =>
    w < nvBase + 0x800000 || (nvBase + 0x3100000 ≤ w && w < nvBase + 0x3400000) || nvBase + 0x8000000 ≤ w
  { s with mem := { s.mem with cells := f s.mem.cells, bad := s.mem.bad.filter keep, soft := s.mem.soft.filter keep } }

end State

end Sys2Proof.Machine
end

