-- ==== Sys2Proof/Machine/Collector.lean ====
section
/-! DEFINITION. What the fault collector keeps and writes (10 R293-R308): the effective reaction matrix, the fault log and
its copies, window counts, ZONE_STOP lines, interrupts and revocations. -/
namespace Sys2Proof.Machine

/-- The code of a mode (02 R44). -/
def Mode.code : Mode → Nat
  | .off => 0 | .reset => 1 | .start => 2 | .verify => 3 | .idle => 4 | .commission => 5
  | .run => 6 | .react => 7 | .quiet => 8 | .lockout => 9 | .service => 10 | .holdup => 11

namespace State

/-- The mode code and the zone under test release as the mode lines show them (02 R43, R66). -/
def modeLines (s : State) : BitVec 4 := BitVec.ofNat 4 s.md.mode.code
def trelLine (s : State) : Option Nat := s.md.trel.map (·.1)

/-- The mode as a channel takes it: one that has seen an invalid code treats the device as being in REACT (02 R43). -/
def seesMode (s : State) (chB : Bool) : BitVec 4 := if (if chB then s.md.badModeB else s.md.badModeA) then 7 else s.modeLines

/-- The reaction matrix entry in force (10 R290, R294, R307). -/
def matEnt (s : State) (n : Nat) : MatEnt :=
  match look none s.flt.matrix n with
  | some e => e
  | none => { cls := match srcDefault n with | some (c, _) => c | none => 0 }

/-- The class a source is recovered as: C0 or C1 with DEVICE_STO set is recovered as C2 (10 R293). -/
def recoveredAs (s : State) (n cls : Nat) : Nat := if cls < 2 ∧ (s.matEnt n).dsto then 2 else cls

/-- The IRQ reaction is set, by the table or by IRQEN (10 R307). -/
def srcIrq (s : State) (n : Nat) : Bool := (s.matEnt n).irq || bit (s.reg (fltB + 0x80 + 4 * (n / 32))) (n % 32)

/-- An interrupt number becomes pending at the cores of a mask (04 R127). -/
def pendIrq (s : State) (cores n : Nat) : State :=
  (upFrom 4 0).foldl (fun s k => if cores.testBit k then s.onCore k (fun c => { c with irq := c.irq ||| bitAt 64 n }) else s) s

/-- Occurrences of a source in [t - W, t) (10 R299). -/
def occurrences (s : State) (n : Nat) : Nat :=
  let t := s.tmr.age
  ((look [] s.flt.stamps n).filter (fun x => decide (t ≤ x + s.flt.win * 12000000000) && decide (x < t))).length

/-- The ZONE_STOP lines as driven (10 R295, R296): the masks of all asserted sources, by OR. -/
def zoneLines (s : State) : BitVec 16 :=
  s.flt.srcs.foldl (fun m e => if e.2.zline then m ||| (s.matEnt e.1).zmask else m) 0

/-- The cycle tag of log entries: the low half of channel A's cycle count (10 R302, 01 R35; log entry 6, DEDUCED). -/
def cycleTag (s : State) : Nat := fld s.chA.cycle 0 16

/-- A fault log entry of 16 bytes (10 R302). -/
def logBytes (s : State) (src cls : Nat) (wire : Bool) (kind mode wcnt : Nat) (detail : BitVec 16) : List Byte :=
  bytesOfNat 8 s.now
    ++ bytesOfNat 4 (src + 256 * cls + (if wire then 1024 else 0) + 4096 * kind + 65536 * mode + 1048576 * wcnt)
    ++ bytesOfNat 4 (detail.toNat + 65536 * s.cycleTag)

/-- A copy of a log entry for software; a full queue loses it (10 R303). -/
def logCopy (s : State) (q : Nat) (bs : List Byte) : State :=
  let r := s.qPush q bs
  if r.2 then r.1 else { r.1 with flt := { r.1.flt with lost := satInc 65535 r.1.flt.lost } }

/-- A log entry: to the recorder, to Q100, and raises and exceeded limits to Q101 (10 R302, R303). -/
def log (s : State) (src cls : Nat) (wire : Bool) (kind wcnt : Nat) (detail : BitVec 16) : State :=
  let bs := s.logBytes src cls wire kind s.md.mode.code (min wcnt 255) detail
  let s := s.stageAdd { time := s.now, type := 1, len := 16, body := bs, fromCollector := true }
  let s := s.logCopy 100 bs
  if kind = 1 ∨ kind = 6 then s.logCopy 101 bs else s

/-- A write of the host port answered with a status other than OK, while WST reads 0, records its address and status (21 R525). -/
def hostFail (s : State) (status : Nat) (a : Word) : State :=
  if status = stOk ∨ fld (s.reg hstB) 2 2 ≠ 0 then s
  else (s.setReg hstB (putFld (s.reg hstB) 2 2 status)).setReg (hstB + 0x10) a

/-- What the host port's READ holds when every word still to be fetched is answered ERROR (21 R526, R527). -/
def failFetch (f : HostFetch) : List Word × Nat × Nat :=
  (f.words ++ List.replicate f.left 0, max f.worst stError, if f.worst = 0 then f.idx else f.first)

/-- Every outstanding tag of the host port or of the debug port is completed with ERROR (10 R301; 21 R525-R527, R534, R535); words
that wait in the host port's buffer are dropped. The tags of the other masters are free between two commands. -/
def endPortTags (s : State) (m : Nat) : State :=
  let mine := s.lnk.remote.filter (fun r => r.core == m)
  let s := { s with lnk := { s.lnk with remote := s.lnk.remote.map (fun (r : Remote) => if r.core = m then { r with core := 15 } else r) } }
  let write := mine.find? (fun r => !r.isLoad)
  if m = 5 then
    let s := match write with | some r => s.hostFail stError r.addr | none => s
    let s := { s with host := { s.host with wbuf := [] } }
    match s.host.fetch with
    | some f => { s with host := { s.host with fetch := none, read := some (failFetch f) } }
    | none => s
  else if m = 6 then
    let s := if write.isSome then { s with dbg := { s.dbg with fab := stError } } else s
    if s.dbg.asked.isSome then { s with dbg := { s.dbg with asked := none, got := some (stError, 0) } } else s
  else s

/-- Every outstanding tag of a core is completed with ERROR (10 R301): its posted stores, and the load or fetch that it waits for;
what another device still answers reaches no one. Log entry 101, DEDUCED. -/
def endTags (s : State) (m : Nat) : State :=
  if h : m < 4 then
    let mine := s.lnk.remote.filter (fun r => r.core == m)
    let stores := (mine.filter (fun r => !r.isLoad)).map (fun r => (2, r.addr))
    let s := { s with lnk := { s.lnk with remote := s.lnk.remote.map (fun (r : Remote) => if r.core = m then { r with core := 15 } else r) } }
    let s := s.onCore m (fun c => { c with due := c.due ++ c.posted.map (fun e => (2, e.2)) ++ stores, posted := [] })
    match (s.core m).run, mine.find? (·.isLoad) with
    | .waitRemote _ _, some r =>
      (s.raiseExc (.ac ⟨m, h⟩) { code := 5, detail := 2, eval := r.addr }).settleStep (.ac ⟨m, h⟩)
    | _, _ => s
  else s.endPortTags m

/-- The port of a master closes (10 R301): its bit, its tags, its queues, and the log entry of kind REVOKE. -/
def revoke (s : State) (m src cls : Nat) : State :=
  let s := { s with flt := { s.flt with revoked := s.flt.revoked ||| bitAt 10 m } }.endTags m
  (s.qRevoke m).log src cls false 5 0 (det m)

/-- The port of a master reopens (10 R301). -/
def reopen (s : State) (m : Nat) : State :=
  { s with flt := { s.flt with revoked := putBit s.flt.revoked m false } }.qReopen m

end State

/-- The modes in which the collector acts on a fault (10 R296). -/
def Mode.acts : Mode → Bool
  | .run | .commission | .quiet | .start | .verify | .react => true
  | _ => false

end Sys2Proof.Machine
end

