-- ==== Sys2Proof/Machine/Mode.lean ====
section
/-! DEFINITION. The mode controller (02): what every transition of R47 writes, what entering and leaving each mode does, and
the reset. -/
namespace Sys2Proof.Machine

/-- What survives a reset (02 R50, R65; 10 R299, R300; 16 R429, R434; 19 R480; 22 R552, R558): the lockout latch, the entry
counters, the occurrence stamps and class totals, the NV store with the recorder's saved position, the antifuse array, the update
journal and the wipe mark, the charge of the hold-up capacitor, and the queue of commands. -/
def State.afterReset (s : State) : State :=
  { State.reset with
    pending := s.pending, fresh := s.fresh, resp := s.resp
    md := { State.reset.md with latch := s.md.latch, lcause := s.md.lcause, reacts := s.md.reacts, locks := s.md.locks,
                                holds := s.md.holds, restarts := s.md.restarts, vholdCharged := s.md.vholdCharged }
    flt := { State.reset.flt with stamps := s.flt.stamps, c0 := s.flt.c0, c1 := s.flt.c1, c2 := s.flt.c2, c3 := s.flt.c3 }
    tmr := { State.reset.tmr with age := s.tmr.age }
    mem := { s.mem with stage := [], scrubAt := 0 }
    otp := { State.reset.otp with normal := s.otp.normal, strict := s.otp.strict,
                                  job := s.otp.job.map (fun (j : OtpJob) => { j with stopped := true, lost := true }) }
    upd := { s.upd with opened := none }
    tru := { State.reset.tru with wipePend := s.tru.wipePend,
                                  job := s.tru.job.map (fun (j : TruJob) => { j with stopped := true, lost := true }) } }

/-- An entry counter of SYS.MODECNT counts (02 R65). -/
def satByte (n : Nat) : Nat := satInc 255 n

/-- What is written for a transition whose target is not RESET or OFF (02 R60, R65). -/
def State.putMode (s : State) (m : Mode) (cause : Nat) : State :=
  { s with md := { s.md with prev := s.md.mode, mode := m, cause := cause } }

/-- Both switches of an output open at once; a running test ends without a verdict (02 R49, 08 R250, R253). -/
def OutSt.open_ (now : Nat) (o : OutSt) : OutSt :=
  { o with swA := false, swB := false, dmdA := false, dmdB := false, test := .none,
           chg := if o.swA || o.swB then now else o.chg }

/-- Every switch of every output opens at once (02 R43, R49, R53). -/
def State.openAll (s : State) : State :=
  let f := fun (t : Tab OutSt) (e : Nat × OutSt) => put {} t e.1 (e.2.open_ s.now)
  { s with outputs := { s.outputs with outs := s.outputs.outs.foldl f s.outputs.outs } }

/-- Zone mirrors read TORQUE_OFF (02 R57, R64). -/
def State.zonesOff (s : State) : State := (s.setReg (sysB + 0x10C) 0).setReg (sysB + 0x110) 0

/-- A running test release ends (02 R54). -/
def State.releaseOff (s : State) : State := { s with md := { s.md with trel := none, trelStart := none, trelStop := false } }

/-- The application cores are released when an application image was accepted (04 R98): K mode, IE 0, registers 0, at the
entry address of the image header, whose low two bits pc does not hold (R93). Log entry 128, DESIGN CHOICE. -/
def Cpu.release (entry : Word) (c : Cpu) : Cpu :=
  if c.started then c
  else
    let run : RunSt := match c.run with | .halted _ => .halted .running | _ => .running
    { c with run := run, started := true, pc := entry &&& 0xFFFFFFFC, st := { mode := 1 }, g := [], vbase := 0 }

def State.releaseCores (s : State) : State :=
  match s.md.appEntry with
  | none => s
  | some e =>
    let f := Cpu.release e
    { s with ac0 := f s.ac0, ac1 := f s.ac1, ac2 := f s.ac2, ac3 := f s.ac3 }

/-- The application cores stop (02 R53). -/
def State.stopCores (s : State) : State :=
  let f := fun (c : Cpu) => { c with run := .stopped }
  { s with ac0 := f s.ac0, ac1 := f s.ac1, ac2 := f s.ac2, ac3 := f s.ac3 }

/-- Jobs that a mode change stops (19 R489, 21 R530): the OTP job, and trust engine jobs beyond those allowed in the new
mode. -/
def State.stopJobs (s : State) : State :=
  { s with otp := { s.otp with job := s.otp.job.map (fun j => { j with stopped := true }) },
           tru := { s.tru with job := s.tru.job.map (fun j => { j with stopped := true }) } }

/-- A running self-test slice is aborted and counts as a yield (18 R467). -/
def State.abortSlice (s : State) : State :=
  match s.bst.active with
  | none => s
  | some _ => { (s.countUp (bstB + 0x18)) with bst := { s.bst with active := none } }.endGrant (.job 0)

/-- The collector at the end of a recovery: no source is being recovered; a source in CLEARING without a ZONE_STOP line reads
OK (10 R297, R298). -/
def Src.settle (v : Src) : Src :=
  { v with causing := false, exceeded := false, quiet := false,
           st := if v.st = .clearing ∧ !v.zline then .ok else v.st }

def State.settleAll (s : State) : State :=
  { s with flt := { s.flt with srcs := s.flt.srcs.foldl (fun t e => put {} t e.1 e.2.settle) s.flt.srcs } }

/-- A C3 source takes part in the reaction being ended (10 R300). -/
def State.criticalCausing (s : State) : Bool := s.flt.srcs.any (fun e => e.2.causing && e.2.cls == 3)

/-- The modes in which GIO and the loops follow the application (02 R45). -/
def Mode.follows : Mode → Bool
  | .idle | .commission | .run | .react | .quiet | .service => true
  | _ => false

/-! ### The pins of the GIO bank as the device mode drives them (15 R405-R409) -/

/-- PINCFGn.MODE (15 R413): 1 input, 2 output; 0b11 is handled as unused. -/
def State.gioPin (s : State) (n : Nat) : Nat := match fld (s.reg (gioB + 0x40 + 4 * n)) 0 2 with | 1 => 1 | 2 => 2 | _ => 0

/-- The safe pattern is driven (15 R409). -/
def State.gioSafe (s : State) : Bool := s.gio.wdexp || s.md.mode == .lockout || s.md.mode == .holdup

/-- The pins are driven at all (02 R45). -/
def State.gioDrives (s : State) : Bool := s.md.mode.follows || s.md.mode == .lockout || s.md.mode == .holdup

/-- An output pin's driver is on (15 R405, R407, R409): OUT, or SAFEPAT, unless a trip or its temperature holds it off. -/
def State.gioOn (s : State) (n : Nat) : Bool :=
  s.gioDrives && s.gioPin n == 2 && !bit s.gio.trip n && !bit s.gio.hot n
    && (if s.gioSafe then bit (s.reg (gioB + 0x14)) n else bit (s.reg (gioB + 8)) n)

/-- PINOUT (15 R412). -/
def State.gioPinout (s : State) : Word := wordOf 16 (fun n => s.gioOn n) ||| flag 16 s.gioSafe

/-- VGLOW (15 R407): VG low while an output is driven on. -/
def State.gioVgLow (s : State) : Bool := s.gio.vgLow && (upFrom 16 0).any (fun n => s.gioOn n)

/-- FAULTL (15 R407). -/
def State.gioFault (s : State) : Bool :=
  s.gio.trip != 0 || s.gio.tpTrip != 0 || s.gio.hot != 0 || s.gio.mism != 0 || s.gioVgLow

/-- Output pins whose readback disagrees with what they are driven to (15 R407). -/
def State.gioDiffers (s : State) : BitVec 16 :=
  BitVec.ofNat 16 (ofBits 16 (fun n => s.gioPin n == 2 && s.gioOn n != bit s.gio.lv n) 16)

/-- A readback that agrees again ends its mismatch; FAULT and F118 follow FAULTL (15 R407). -/
def State.gioNote (s : State) : State :=
  let s := { s with gio := { s.gio with mism := s.gio.mism &&& s.gioDiffers } }
  if s.gioFault then (s.setBits gioB (flag 1 true)).drive 118 0 else s

/-- The GIO watchdog runs only in modes in which GIO follows the application, and restarts its window at entry to one
(15 R408); the pins change with the mode. -/
def State.gioMode (s : State) (old : Mode) : State :=
  (if s.md.mode.follows then
    if old.follows then s
    else { s with gio := { s.gio with wdAt := if fld (s.reg (gioB + 0x18)) 0 10 = 0 then none else some s.now } }
  else { s with gio := { s.gio with wdAt := none } }).gioNote

/-- What leaving a mode does. -/
def State.leave (s : State) : State :=
  match s.md.mode with
  | .commission => s.releaseOff
  | .verify => s
  | _ => s

/-- Sessions enter NEW at every entry to COMMISSION, RUN and QUIET (12 R344). -/
def Ses.renew (v : Ses) : Ses :=
  { v with a := { v.a with ph := .new, cand := none }, b := { v.b with ph := .new, cand := none }, pairedAt := none }

def State.sesRenew (s : State) : State :=
  match s.md.mode with
  | .commission | .run | .quiet =>
    { s with ses := { s.ses with tab := s.ses.tab.foldl (fun t e => put {} t e.1 e.2.renew) s.ses.tab } }
  | _ => s

/-- What entering a mode does (02 R44, R49, R50, R53, R57, R65; 10 R297, R300, R306). -/
def State.enter (s : State) (old : Mode) : State :=
  match s.md.mode with
  | .react =>
    let s := { s with md := { s.md with reacts := satByte s.md.reacts,
                                        returnMode := if old = Mode.quiet then s.md.returnMode else old } }
    s.openAll.zonesOff
  | .quiet =>
    let f := fun (t : Tab Src) (e : Nat × Src) => put {} t e.1 { e.2 with quiet := false }
    { s with md := { s.md with quietAt := s.now }, flt := { s.flt with srcs := s.flt.srcs.foldl f s.flt.srcs } }
  | .run =>
    let s := { s with md := { s.md with runAt := s.now, epoch := s.md.epoch + 1 }, flt := { s.flt with firstSet := false, first := 0 } }
    let s := if old = Mode.quiet then { s with flt := { s.flt with c2 := satByte s.flt.c2 } } else s
    let s := s.settleAll
    if old = Mode.verify then s.releaseCores else s
  | .commission =>
    let s := if old = Mode.quiet then { s with flt := { s.flt with c2 := satByte s.flt.c2 } } else s
    let s := s.settleAll
    if old = Mode.verify then s.releaseCores else s
  | .idle => s.releaseCores
  | .lockout =>
    let s := { s with md := { s.md with locks := satByte s.md.locks } }
    let s := if s.md.latch then s else { s with md := { s.md with latch := true, lcause := s.md.cause } }
    let s := if s.md.cause = 0x36 ∨ s.criticalCausing then { s with flt := { s.flt with c3 := satByte s.flt.c3 } } else s
    let s := s.settleAll.openAll.zonesOff
    if old = Mode.verify then s.releaseCores else s
  | .service =>
    { s with md := { s.md with svcFromLock := decide (old = Mode.lockout), reqState := 2, reqRefuse := 0 } }.settleAll.openAll.zonesOff
  | .holdup =>
    { s with md := { s.md with holds := satByte s.md.holds, flushed := false } }.settleAll.stopCores.openAll.zonesOff
  | _ => s

/-- The lockout latch is cleared by leaving SERVICE through a service exit or the end of its authorisation, when SERVICE was
entered from LOCKOUT (02 R50). -/
def State.serviceExit (s : State) : State :=
  if s.md.mode = .service ∧ s.md.svcFromLock then { s with md := { s.md with latch := false, lcause := 0 } } else s

/-- Channel B's first acceptance window, from the instant of the mode decision: [0.97 N, 2.06 N) RC periods, with N 4000 at T_cyc code
0 and doubled with each code (01 R22, R24). -/
def State.firstWindow (s : State) (code : Nat) : State :=
  let n := 4000 * 2 ^ code
  { s with lat := { s.lat with rcN := n, winLo := 97 * n / 100, winHi := 206 * n / 100 } }

/-- A transition of 02 R47 with its cause code (R61): what is left, what is entered, and the log entry of kind 0x4 (10 R302).
RESET drops everything that does not survive it; staged records are written first (16 R434). -/
def State.toMode (s : State) (m : Mode) (cause : Nat) : State :=
  let old := s.md.mode
  match m with
  | .reset =>
    let s := if cause = 3 then s.serviceExit else s
    let s := if old = Mode.off then s else s.recFlush
    let t := s.afterReset
    let t := { t with md := { t.md with prev := old, mode := .reset, cause := cause,
                                        restarts := if cause = 0 then t.md.restarts else satByte t.md.restarts } }
    t.log 0xFF 0 false 4 cause 0
  | .off =>
    let t := s.afterReset
    { t with md := { t.md with prev := old, mode := .off, cause := s.md.cause, vholdCharged := false } }
  | m =>
    let s := (s.leave.abortSlice.stopJobs).putMode m cause
    ((s.enter old).gioMode old).sesRenew.log 0xFF 0 false 4 cause 0

/-! ### The status pads (23 R575) -/

/-- The level of a pad that the mode controller drives. -/
inductive Pad where
  | low | high | highZ
deriving DecidableEq, Repr

/-- The 1 Hz square wave, with its edges on whole multiples of 500 ms of the time base. Log entry 136, DESIGN CHOICE. -/
def State.statWave (s : State) : Pad := if (s.now / 100000000 % 2 == 0) == Config.statEven then .high else .low

/-- STAT0 and STAT1, as the mode lines and the time base give them. -/
def State.statPads (s : State) : Pad × Pad :=
  match s.md.mode with
  | .off => (.highZ, .highZ)
  | .reset | .start | .verify => (.low, .low)
  | .idle | .commission | .service => (s.statWave, .low)
  | .run => (.high, .low)
  | .react | .quiet | .holdup => (.low, .high)
  | .lockout => (.low, s.statWave)

end Sys2Proof.Machine
end

