-- ==== Sys2Proof/Machine/Fault.lean ====
section
/-! DEFINITION. The receipt of a fault (10 R288, R293-R301): its record, its totals and window count, its reactions in the
present mode, its revocation; the wiring fault; the quiet period. -/
namespace Sys2Proof.Machine

namespace State

/-- The record of a new raise: LATCHED, the host's interrupt, FIRST and the class totals (10 R300, R305, R306; 21 R548); the C1 total
is a reaction of R293, so it counts only in the modes in which the collector acts (R296). -/
def noteRaise (s : State) (n rc : Nat) : State :=
  let s := (s.setBits (fltB + 0x40 + 4 * (n / 32)) (bitAt 32 (n % 32))).setBits (hstB + 8) (flag 1 true)
  let f := s.flt
  { s with flt := { f with first := if f.firstSet then f.first else n, firstSet := true,
                           c0 := if rc = 0 then satByte f.c0 else f.c0, c1 := if rc = 1 ∧ s.md.mode.acts then satByte f.c1 else f.c1 } }

/-- The reactions IRQ and ZONE_STOP, in the modes in which the collector acts (10 R295, R296). -/
def optional (s : State) (n : Nat) : State :=
  if !s.md.mode.acts then s
  else
    let s := if s.srcIrq n then s.pendIrq (fld (s.reg (fltB + 0x10)) 0 4) 2 else s
    if (s.matEnt n).zstop then s.setSrc n { s.src n with zline := true } else s

/-- The effect of DEVICE_STO and LOCKOUT in the present mode (10 R296, R298; 02 R47). `fresh`: the raise is one of a source
recovered as C2 or of C3 that was not yet counted; `crit`: of class C3; `beyond`: beyond the recovery limit. -/
def react (s : State) (n : Nat) (fresh crit beyond : Bool) : State :=
  let v := s.src n
  let join := s.setSrc n { v with causing := true, exceeded := v.exceeded || beyond }
  match s.md.mode with
  | .start | .verify => if crit then { s with md := { s.md with startC3 := true } } else s
  | .run | .commission => if fresh then join.toMode .react (if n = 12 then 0x35 else 0x10) else s
  | .react => if fresh then join else s
  | .quiet =>
    if !fresh then s
    else if crit || beyond then join.toMode .lockout 0x11
    else if v.causing then s
    else join.toMode .react (if n = 12 then 0x35 else 0x10)
  | _ => s

/-- A source takes Fault (held for 100 ns) or wiring fault (held for 1 us) (10 R288). `new` is false when the code is the
continuation of a fault already received. -/
def raise (s : State) (n : Nat) (wire new : Bool) (detail : BitVec 16) : State :=
  let v := s.src n
  let cls := if wire then max (s.matEnt n).cls 2 else (s.matEnt n).cls
  let rc := s.recoveredAs n cls
  let prc := s.recoveredAs n v.cls
  let fresh := decide (2 ≤ rc) && (new || decide (prc < 2))
  let crit := decide (rc = 3) && (new || decide (prc < 3))
  let detail := if new then detail else v.detail
  let counts := (s.md.mode == .run || s.md.mode == .commission || s.md.mode == .quiet || s.md.mode == .react)
    && fresh && decide (rc = 2)
  let wcnt := if counts then s.occurrences n + 1 else 0
  let beyond := counts && decide (s.flt.limit < wcnt)
  let s := s.setSrc n { v with rail := if wire then .wiring else .fault, st := if wire then .wiring else .fault,
                               cls := cls, detail := detail, quiet := false }
  let s := if counts then
      { s with flt := { s.flt with stamps := put [] s.flt.stamps n (s.tmr.age :: look [] s.flt.stamps n) } } else s
  let s := if new then s.noteRaise n rc else s
  let s := s.log n cls wire 1 wcnt detail
  let s := if beyond then s.log n cls wire 6 wcnt detail else s
  let s := if new then match srcMaster n detail with | some m => s.revoke m n cls | none => s else s
  let s := if new then s.optional n else s
  s.react n fresh crit beyond

/-- The first raised entry of a source and the rest of the list (10 R288). -/
def takeRaised (n : Nat) : List Raised → Option (Raised × List Raised)
  | [] => none
  | e :: es =>
    if e.src = n then some (e, es)
    else match takeRaised n es with
      | some (d, r) => some (d, e :: r)
      | none => none

/-- The source has a detector outside the model's state: a mode code as a channel receives it (02 R43), lattice state parity (06
R205), PHY (11), queue pointers (16 R423), a hardware push to a full recorder queue (16 R432), trust engine (20 R505), input
hardware and test-pulse source (07 R238). -/
def outside (n : Nat) : Bool :=
  n == 12 || n == 25 || n == 102 || n == 135 || n == 138 || n == 162 || (decide (36 ≤ n) && decide (n ≤ 40))

/-- A source whose every item is a pulse with an entry of its own: cell notes, image refusals, authorisation refusals (10 R291,
20 R501, R514). -/
def pulses (n : Nat) : Bool := n == 26 || n == 163 || n == 164

/-- A channel that receives an invalid mode code opens its own switches at once and keeps them open until the next reset (02
R43, 10 R296). -/
def badMode (s : State) (chB : Bool) : State :=
  let f := fun (t : Tab OutSt) (e : Nat × OutSt) =>
    put {} t e.1 (if chB then { e.2 with swB := false, chg := if e.2.swB then s.now else e.2.chg }
                  else { e.2 with swA := false, chg := if e.2.swA then s.now else e.2.chg })
  let s := { s with outputs := { s.outputs with outs := s.outputs.outs.foldl f s.outputs.outs } }
  if chB then { s with md := { s.md with badModeB := true } } else { s with md := { s.md with badModeA := true } }

/-- The input that an error of the R214 lines names (07 R214, R238): DETAIL of its group's source. -/
def lineInput (n : Nat) (detail : BitVec 16) : Option Nat :=
  if 36 ≤ n ∧ n ≤ 39 ∧ detail.toNat / 8 + 36 = n then some detail.toNat else none

/-- PHYERR of the ring of a PHY, in the order N1A, N1B, N2A, N2B (11 R331, R334). -/
def phyBad (s : State) (phy : Nat) : State :=
  if phy < 2 then { s with net := { s.net with r1 := { s.net.r1 with phyErr := true } } }
  else { s with net := { s.net with r2 := { s.net.r2 with phyErr := true } } }

/-- What a code of such a detector does in its own block, whatever its source reads already: F012 opens the switches of the channel
its DETAIL names (log entry 8), an error of the R214 lines of an input is a wiring fault of it (07 R214), PHYERR of the ring of the
PHY that DETAIL names, or of both for NBIAS, is set for F102 (11 R331, R334), QUE.STAT.PERR is set (16 R436), and for F162
TRU.STAT.TFAULT and the end of the device key (20 R508, R520). Log entry 8, DESIGN CHOICE. -/
def noteOutside (s : State) (n : Nat) (detail : BitVec 16) : State :=
  if n = 12 then s.badMode (bit detail 0)
  else if 36 ≤ n ∧ n ≤ 39 then
    match lineInput n detail with
    | some i => s.setInp i { s.inp i with wiring := true }
    | none => s
  else if n = 102 then
    if 4 ≤ detail.toNat then (s.phyBad 0).phyBad 2 else s.phyBad detail.toNat
  else if n = 135 then s.setBits queB (flag 1 true)
  else if n = 138 then s.memStat 4
  else if n = 162 then { (s.setBits truB (flag 3 true)) with tru := { s.tru with fault := true, key := none } }
  else s

/-- The source reads OK, so that a code of it is a raise. -/
def readsOk (s : State) (n : Nat) : Bool := (s.src n).st == .ok || (s.src n).st == .clearing

/-- The receipt of a fault that a detector of the state has raised (10 R288). -/
def takeFault (s : State) (e : Raised) (rest : List Raised) : State :=
  let s := { s with flt := { s.flt with raised := rest } }
  s.raise e.src false (s.readsOk e.src || pulses e.src) e.detail

/-- A code held for 100 ns of a source with nothing raised in the state (10 R288): one of a detector outside the model's state, or an
invalid code, is a raise where the source reads OK; a pair in WIRING that then shows the Fault code reads FAULT, at the class it was
raised with (log entry 111, DEDUCED). -/
def receipt (s : State) (n : Nat) (invalid : Bool) (detail : BitVec 16) : State :=
  if (srcDefault n).isNone then s
  else
    match takeRaised n s.flt.raised with
    | some (e, rest) => s.takeFault e rest
    | none =>
      let t := if outside n then s.noteOutside n detail else s
      if s.readsOk n ∧ (invalid ∨ outside n) then t.raise n false true detail
      else if (s.src n).st = .wiring ∧ !invalid then t.setSrc n { t.src n with rail := .fault, st := .fault }
      else t

/-- A code of source n now held for 100 ns is a raise. -/
def takes (s : State) (n : Nat) (invalid : Bool) : Bool :=
  (takeRaised n s.flt.raised).isSome || (s.readsOk n && (invalid || outside n))

/-- The lowest source below n whose pair took its code at the given time: faults of one receipt are taken in source order, lowest
first (10 R303). -/
def lowestAt (n time : Nat) (l : List Raised) : Option Nat :=
  l.foldl (fun (m : Option Nat) e =>
    if e.time = time ∧ e.src < n then (match m with | none => some e.src | some k => some (min k e.src)) else m) none

/-- The faults of the same receipt below source n, lowest first; each step takes one of at most as many as there are. -/
def takeLower (s : State) (n time : Nat) : Nat → State
  | 0 => s
  | k + 1 =>
    match lowestAt n time s.flt.raised with
    | none => s
    | some m =>
      match takeRaised m s.flt.raised with
      | none => s
      | some (e, rest) => (s.takeFault e rest).takeLower n time k

/-- A wiring fault: an invalid code held for 1 us of a source in FAULT (10 R288). -/
def wiringFault (s : State) (n : Nat) (detail : BitVec 16) : State :=
  if (s.src n).st = .fault then s.raise n true false detail else s

/-- The end of the quiet window of a source, when one is open (10 R297): in QUIET for a source being recovered, in RUN for
one that holds ZONE_STOP lines. -/
def windowEnd (s : State) (n : Nat) : Option Nat :=
  let v := s.src n
  if v.st ≠ .clearing then none
  else if s.md.mode = .quiet ∧ v.causing ∧ !v.quiet then some (max v.clearAt s.md.quietAt + s.flt.q * 200000)
  else if s.md.mode = .run ∧ v.zline then some (max v.clearAt s.md.runAt + s.flt.q * 200000)
  else none

/-- The quiet period of a source is complete (10 R295, R297): in RUN its ZONE_STOP lines are released; in QUIET it is quiet,
and reads OK unless a line still waits for RUN. -/
def quietDone (s : State) (n : Nat) : State :=
  let v := s.src n
  if (s.windowEnd n).isNone then s
  else
    let v := if s.md.mode = .run then { v with zline := false, st := .ok }
             else { v with quiet := true, st := if v.zline then .clearing else .ok }
    (s.setSrc n v).log n v.cls false 3 0 v.detail

/-- The quiet periods that have run to their end by now are complete: a code taken at or after that instant is outside the window
(00 R12, 10 R297). -/
def settleQuiet (s : State) : State :=
  s.flt.srcs.foldl (fun (t : State) e =>
    match t.windowEnd e.1 with
    | some w => if w ≤ t.now then t.quietDone e.1 else t
    | none => t) s

/-- Every source that caused the REACT is quiet (10 R297). -/
def allQuiet (s : State) : Bool := s.flt.srcs.all (fun e => !e.2.causing || e.2.st == .ok || e.2.quiet)

/-- The stuck-high source of an output caused the reaction while a contactor of it was still energised (08 R257). -/
def edmHeld (s : State) : Bool :=
  (upFrom 12 0).any (fun k => bit (look {} s.outputs.outs k).diag 8 && (s.src (48 + k)).causing)

/-- The reaction ends in LOCKOUT: an active fault of class C3 or beyond its recovery limit (02 R47, 10 R296), or a contactor
still energised (08 R257). -/
def mustLock (s : State) : Bool :=
  s.flt.srcs.any (fun e => e.2.causing && (e.2.cls == 3 || e.2.exceeded)) || s.edmHeld

/-- RST_N falls, or VL falls below hold-up entry, in REACT or QUIET with a fault that would lead to LOCKOUT: the latch is set
at that moment (02 R50). -/
def latchNow (s : State) : State :=
  if (s.md.mode = .react ∨ s.md.mode = .quiet) ∧ s.mustLock ∧ !s.md.latch then
    { s with md := { s.md with latch := true, lcause := 0x11 } }
  else s

/-- A fault coincides with a request: one is raised whose receipt is due (02 R48). -/
def coincides (s : State) : Bool := !s.flt.raised.isEmpty

end State

end Sys2Proof.Machine
end

