-- ==== Sys2Proof/Machine/Timer.lean ====
section
/-! DEFINITION. The timer island (13): the time base, count steps of the TC channels with their matches, wraps and pin
actions, captures, the wide compare channels, and the commands of the file. -/
namespace Sys2Proof.Machine

abbrev Out := Host.Outcome State Fault Refusal

namespace State

/-- Address of a TCn register (13 R381) and of a WCw register (13 R386). -/
def tcA (n o : Nat) : Nat := tmrB + 0x100 + 0x40 * n + o
def wcA (w o : Nat) : Nat := tmrB + 0x500 + 0x20 * w + o

/-- Address of a register of loop channel n (14 R400). -/
def lpA (n o : Nat) : Nat := loopB + 0x100 + 0x40 * n + o

/-- The groups of a mask reach their safe point and hold there while a commit of theirs is in progress (03 R77, R78). -/
def safePoint (s : State) (mask : Nat) : State :=
  if s.conv.cstate = 1 then { s with conv := { s.conv with held := s.conv.held ||| (s.conv.cmask &&& mask) } } else s

/-- Group g is held for a commit and has a pending write of a register in [lo, hi), so that no new operation that uses one starts (03
R78). -/
def waitsApply (s : State) (g lo hi : Nat) : Bool :=
  s.conv.cstate == 1 && (s.conv.cmask &&& s.conv.held).testBit g
    && s.conv.shadow.any (fun e => e.2.isSome && decide (lo ≤ e.1) && decide (e.1 < hi))

def tc (s : State) (n : Nat) : TcSt := look {} s.tmr.tcs n
def setTc (s : State) (n : Nat) (c : TcSt) : State := { s with tmr := { s.tmr with tcs := put {} s.tmr.tcs n c } }
def wc (s : State) (w : Nat) : WcSt := look {} s.tmr.wcs w
def setWc (s : State) (w : Nat) (c : WcSt) : State := { s with tmr := { s.tmr with wcs := put {} s.tmr.wcs w c } }

/-- TCn_CTL fields (13 R382). -/
def tcMode (s : State) (n : Nat) : Nat := fld (s.reg (tcA n 0)) 0 3
def tcCtl (s : State) (n i : Nat) : Bool := bit (s.reg (tcA n 0)) i

/-- The channel counts on ticks of the timer clock (13 R364). -/
def tcTicks (s : State) (n : Nat) : Bool :=
  !(s.tc n).stopped && (s.tcMode n == 1 || s.tcMode n == 2 || s.tcMode n == 3)

/-- The gate of a GATED channel is at its active level (13 R364): GPOL 0 high, 1 low. -/
def tcGate (s : State) (n : Nat) : Bool := s.tcMode n != 3 || ((s.tc n).b != s.tcCtl n 15)

/-- The level an event's action gives the pin (13 R370). -/
def pinAct (code : Nat) (lv : Bool) : Bool :=
  match code with
  | 1 => true
  | 2 => false
  | 3 => !lv
  | _ => lv

/-- A TIO pin driven (13 R370). -/
def setPin (s : State) (p : Nat) (b : Bool) : State := { s with tmr := { s.tmr with pins := putBit s.tmr.pins p b } }

/-- The actions of the events of one tick on OUTPIN, in the order ACTW, ACT0, ACT1 (13 R370). -/
def tcActs (s : State) (n : Nat) (wrap m0 m1 : Bool) : State :=
  let pins := s.reg (tcA n 4)
  if !bit pins 4 then s
  else
    let ctl := s.reg (tcA n 0)
    let p := fld pins 0 4
    let lv := bit s.tmr.pins p
    let lv := if wrap then pinAct (fld ctl 12 2) lv else lv
    let lv := if m0 then pinAct (fld ctl 8 2) lv else lv
    let lv := if m1 then pinAct (fld ctl 10 2) lv else lv
    s.setPin p lv

/-- CMPk matches a counter value reached by a count step (13 R368): a compare above a non-zero period never does. -/
def tcHit (s : State) (n o : Nat) (period cnt : Word) : Bool :=
  let c := s.reg (tcA n o)
  c == cnt && (period == 0 || decide (c.toNat ≤ period.toNat))

/-- What a count step makes of a channel (13 R364, R365, R372): the next channel state, whether a WRAP event occurs and
whether the step skips matches. -/
def tcNext (mode : Nat) (down : Bool) (newPeriod : Word) (c : TcSt) : TcSt × Bool :=
  let p := c.period
  match mode with
  | 2 =>
    if !c.down && c.cnt == p && p != 0 then ({ c with cnt := p - 1, down := p != 1, period := if p = 1 then newPeriod else p }, true)
    else if c.skip then ({ c with cnt := c.cnt - 1, down := true, skip := false }, true)
    else if c.down && c.cnt != 0 then
      let v := c.cnt - 1
      if v = 0 then ({ c with cnt := 0, down := false, period := newPeriod }, false) else ({ c with cnt := v }, false)
    else
      let v := c.cnt + 1
      if v = p then ({ c with cnt := v, down := true }, true) else ({ c with cnt := v, down := false }, false)
  | 1 | 3 =>
    if c.skip then ({ c with cnt := 0, skip := false, period := newPeriod }, true)
    else if c.cnt = (if p = 0 then 0xFFFFFFFF else p) then ({ c with cnt := 0, period := newPeriod }, true)
    else ({ c with cnt := c.cnt + 1 }, false)
  | _ =>
    let top : Word := if p = 0 then 0xFFFFFFFF else p
    if c.skip then ({ c with cnt := if down then p else 0, skip := false, down := down }, true)
    else if down then
      if c.cnt = 0 then ({ c with cnt := top, down := true }, true) else ({ c with cnt := c.cnt - 1, down := true }, false)
    else
      if c.cnt = top then ({ c with cnt := 0, down := false }, true)
      else ({ c with cnt := c.cnt + 1, down := false }, false)

/-- A count step of a channel that serves an axis: the steps of the present 8 us interval and a change of direction (05 R152;
09 R592). -/
def axisStep (s : State) (n : Nat) (turned : Bool) : State :=
  let f := fun (t : Tab AxisSt) (e : Nat × AxisSt) =>
    if e.2.bound && e.2.tc == n then put {} t e.1 { e.2 with steps := e.2.steps + 1, dirChg := e.2.dirChg || turned } else t
  { s with tmr := { s.tmr with axes := s.tmr.axes.foldl f s.tmr.axes } }

/-- The events of one tick in a channel: WRAP, CMP0 and CMP1 (13 R365, R368). -/
structure TcEvents where
  wrap : Bool := false
  m0 : Bool := false
  m1 : Bool := false
deriving DecidableEq, Repr

/-- The events of channel n's count step; a compare for which `off` holds is being rewritten in this tick and does not match (13
R368, R369). -/
def tcEvents (s : State) (n : Nat) (down : Bool) (off : Nat → Bool) : TcEvents :=
  let r := tcNext (s.tcMode n) down (s.reg (tcA n 0xC)) (s.tc n)
  { wrap := r.2, m0 := !off 0x10 && s.tcHit n 0x10 r.1.period r.1.cnt, m1 := !off 0x14 && s.tcHit n 0x14 r.1.period r.1.cnt }

/-- A count step of channel n with its events and status bits, pin actions apart (13 R364-R369); a SWITCHBACK channel that takes
PERIOD 0 at its bottom turn stops (R365, R372). -/
def tcCount (s : State) (n : Nat) (down : Bool) (off : Nat → Bool) : State :=
  let c := s.tc n
  let e := s.tcEvents n down off
  let c' := { (tcNext (s.tcMode n) down (s.reg (tcA n 0xC)) c).1 with stepAt := s.now }
  let bad := s.tcMode n == 2 && c'.period == 0
  let t := (s.setTc n { c' with stopped := c'.stopped || bad }).setBits (tcA n 0x20)
    (flag 0 e.m0 ||| flag 1 e.m1 ||| flag 2 e.wrap ||| flag 3 c.skip ||| flag 6 bad)
  t.axisStep n (c'.down != c.down)

/-- A count step of channel n with its pin actions (13 R370). -/
def tcStep (s : State) (n : Nat) (down : Bool) : State :=
  let e := s.tcEvents n down (fun _ => false)
  (s.tcCount n down (fun _ => false)).tcActs n e.wrap e.m0 e.m1

/-- The channel makes a count step at the next tick: its prescaler is full (13 R364). -/
def tcDue (s : State) (n : Nat) : Bool :=
  s.tcTicks n && s.tcGate n && decide ((s.tc n).phase = fld (s.reg (tcA n 8)) 0 16)

/-- The prescaler of a channel that counts on ticks (13 R364). -/
def tcPresc (s : State) (n : Nat) : State :=
  if s.tcTicks n && s.tcGate n then s.setTc n { s.tc n with phase := if s.tcDue n then 0 else (s.tc n).phase + 1 } else s

/-- What one tick does to a channel that counts on ticks: its prescaler, and a count step when it is full (13 R364). -/
def tcTick (s : State) (n : Nat) : State :=
  if s.tcDue n then (s.tcPresc n).tcStep n (s.tc n).down else s.tcPresc n

/-- The tick of a commit's apply in a channel whose registers it writes (13 R369, R370, R373): no compare that it rewrites matches, a
load takes the place of the count step, and the pin actions wait for the new configuration. -/
def tcApplyTick (s : State) (n : Nat) (wrote : Nat → Bool) : State :=
  if s.tcDue n && !wrote 0x18 then (s.tcPresc n).tcCount n (s.tc n).down wrote else s.tcPresc n

/-- The events of that tick. -/
def tcApplyEvents (s : State) (n : Nat) (wrote : Nat → Bool) : TcEvents :=
  if s.tmr.lock && s.tcDue n && !wrote 0x18 then s.tcEvents n (s.tc n).down wrote else {}

/-- A tick of the timer clock (13 R361-R363), snapshots apart: the time base and every channel; `wrote n o` holds for a register of
channel n that a commit writes in this tick. -/
def tickWith (s : State) (wrote : Nat → Nat → Bool) : State :=
  if !s.tmr.lock then s
  else
    let s := { s with tmr := { s.tmr with tb := s.tmr.tb + 1, age := s.tmr.age + 1 } }
    (upFrom 16 0).foldl (fun s n => if (upFrom 10 0).any (fun i => wrote n (4 * i)) then s.tcApplyTick n (wrote n) else s.tcTick n) s

/-- The requested snapshot, taken at the end of a tick (03 R87; 13 R384, 14 R400, 15 R412). -/
def snapNow (s : State) : State :=
  if !s.conv.snapBusy || !s.tmr.lock then s
  else
    let s := (upFrom 16 0).foldl (fun (t : State) n => t.setReg (tcA n 0x38) (t.tc n).cnt) s
    let s := (upFrom 16 0).foldl (fun (t : State) n => t.setReg (gioB + 0x180 + 4 * n) (t.reg (gioB + 0x100 + 4 * n))) s
    let s := (upFrom 4 0).foldl (fun (t : State) n => t.setReg (lpA n 0x2C) ((look {} t.loop.lps n).rb.setWidth 32)) s
    let s := (s.setReg (sysB + 0x48) (w32 s.now)).setReg (sysB + 0x4C) (w32 (s.now / 2 ^ 32))
    { s with conv := { s.conv with snapBusy := false, snapSeq := s.conv.snapSeq + 1 } }

/-- One tick of the timer clock, with the snapshot it may take. -/
def tick (s : State) : State := (s.tickWith (fun _ _ => false)).snapNow

/-- `k` ticks. -/
def ticks : Nat → State → State
  | 0, s => s
  | k + 1, s => ticks k s.tick

/-- `k` ticks of the time base alone. -/
def skipTicks (s : State) (k : Nat) : State :=
  { s with tmr := { s.tmr with tb := s.tmr.tb + BitVec.ofNat 64 k, age := s.tmr.age + k } }

/-- The device at a later time base: with no channel counting on ticks only the time base moves. Log entry 16, DESIGN CHOICE. -/
def advanceTo (s : State) (t : Nat) : State :=
  let d := t - s.now
  if !s.tmr.lock ∨ d = 0 then s
  else if (upFrom 16 0).any (fun n => s.tcTicks n) then ticks d s
  else (s.skipTicks 1).snapNow.skipTicks (d - 1)

/-- The next boundary of the governor's windows (17 R444): the present instant where it is one that no window has opened at. -/
def nextBoundary (s : State) : Nat :=
  if s.now % 200000 = 0 ∧ s.gov.opened < s.now / 200000 then s.now else (s.now / 200000 + 1) * 200000

/-- The present instant is a boundary whose window has not opened yet: what happens in it belongs to that window (00 R12; 17 R444,
R454). -/
def boundaryDue (s : State) : Bool := s.now % 200000 == 0 && decide (s.gov.opened < s.now / 200000)

/-- The channel cannot count: a reserved MODE or QX code, a missing input, SWITCHBACK with PERIOD 0 (13 R364, R365, R367,
R383). -/
def tcBad (s : State) (n : Nat) : Bool :=
  let m := s.tcMode n
  let pins := s.reg (tcA n 4)
  let a := bit pins 12
  let b := bit pins 20
  m == 7 || (m == 5 && (fld (s.reg (tcA n 0)) 5 2 == 3 || !a || !b)) || (m == 3 && !b) || (m == 4 && !a)
    || (m == 6 && (!a || !b)) || (m == 2 && (s.tc n).period == 0)

/-- The filter of a channel's inputs: consecutive samples after which a new level passes (13 R367). -/
def tcGlitch (s : State) (n : Nat) : Nat := [0, 2, 8, 32].getD (fld (s.reg (tcA n 0)) 16 2) 0

/-- TIO pin p has an owner that drives it: a claim with OUTEN 1 (13 R379, R383, R386). -/
def tioDriven (s : State) (p : Nat) : Bool :=
  (upFrom 16 0).any (fun n => bit (s.reg (tcA n 4)) 4 && fld (s.reg (tcA n 4)) 0 4 == p)
    || (upFrom 3 1).any (fun w => bit (s.reg (wcA w 0)) 3 && fld (s.reg (wcA w 0)) 4 4 == p)

/-- The level at TIO pin p, none where it is high-impedance (13 R379; 23 R576). -/
def tioPin (s : State) (p : Nat) : Option Bool :=
  match s.md.mode with
  | .off | .reset | .start | .verify | .holdup => none
  | _ => if s.tioDriven p && !bit s.tmr.hot p then some (bit s.tmr.pins p) else none

end State

/-- TC_COUNT_EDGE (13 R364, R367): a level of INA or INB that has held for the length of the channel's filter passes it; the count
step of the channel's mode. -/
def execTcCountEdge (n : Fin 16) (a b : HeldLevel) (s : State) : Out :=
  let c := s.tc n
  let late := fun (x : HeldLevel) => decide (x.held.toNat < s.tcGlitch n)
  let none := late a && late b
  let a := if late a then c.a else a.level
  let b := if late b then c.b else b.level
  let t := s.setTc n { c with a := a, b := b }
  let inv := s.tcCtl n 7
  .next <|
    if none || !s.tmr.lock then s
    else if c.stopped then t
    else match s.tcMode n with
      | 4 => if a && !c.a then t.tcStep n inv else t
      | 5 =>
        if a != c.a && b != c.b then t.setBits (State.tcA n 0x20) (flag 4 true)
        else
          let back := if a != c.a then a == b else a != b
          let qx := fld (s.reg (State.tcA n 0)) 5 2
          if (qx == 0 && (a != c.a || b != c.b)) || (qx == 1 && a != c.a) || (qx == 2 && a && !c.a) then
            (t.tcStep n (back != inv))
          else t
      | 6 => if a && !c.a then t.tcStep n (b != inv) else t
      | _ => t

/-- TC_COMPARE_MATCH (13 R368): the count step by which the channel reaches CMPk, when its next step does so. -/
def execTcCompareMatch (n : Fin 16) (k1 : Bool) (s : State) : Out :=
  let c := s.tc n
  let r := State.tcNext (s.tcMode n) c.down (s.reg (State.tcA n 0xC)) c
  .next <|
    if s.tmr.lock && s.tcTicks n && s.tcGate n && s.tcHit n (if k1 then 0x14 else 0x10) r.1.period r.1.cnt then
      let left := fld (s.reg (State.tcA n 8)) 0 16 - c.phase
      (State.ticks left s).tick
    else s

/-- TC_WRAP (13 R365): the count step by which the channel wraps or turns at the top, when its next step does so. -/
def execTcWrap (n : Fin 16) (s : State) : Out :=
  let c := s.tc n
  .next <|
    if s.tmr.lock && s.tcTicks n && s.tcGate n && (State.tcNext (s.tcMode n) c.down (s.reg (State.tcA n 0xC)) c).2 then
      let left := fld (s.reg (State.tcA n 8)) 0 16 - c.phase
      (State.ticks left s).tick
    else s

/-- TC_CAPTURE (13 R367, R374, R375): an edge of the capture input whose new level has passed the channel's filter, stamped at its
first sample; a full FIFO drops it with CAPOVF and F112. -/
def execTcCapture (n : Fin 16) (rise : Bool) (held : BitVec 6) (s : State) : Out :=
  let edge := fld (s.reg (State.tcA n 0x24)) 0 2
  let c := s.tc n
  .next <|
    if !s.tmr.lock || held.toNat < s.tcGlitch n || !(if rise then edge.testBit 0 else edge.testBit 1) then s
    else if 8 ≤ c.caps.length then (s.setBits (State.tcA n 0x20) (flag 5 true)).drive 112 (det n)
    else s.setTc n { c with caps := c.caps ++ [{ stamp := s.now - s.tcGlitch n, cnt := c.cnt, rise := rise }] }

/-- The 16 bytes of a spilled capture (13 R375). -/
def spillBytes (n : Nat) (e : Cap) : List Byte :=
  bytesOfNat 8 e.stamp ++ bytesOfNat 4 e.cnt.toNat ++ bytesOfNat 4 (n + if e.rise then 16 else 0)

/-- CAPTURE_SPILL (13 R363, R375): with SPILL 1 the oldest capture moves to Q108 + n, while that queue has room; without lock the
capture stage holds. -/
def execCaptureSpill (n : Fin 16) (s : State) : Out :=
  let c := s.tc n
  .next <|
    if !s.tmr.lock || !bit (s.reg (State.tcA n 0x24)) 8 || s.qFull (108 + n) then s
    else match c.caps with
      | [] => s
      | e :: es => ((s.setTc n { c with caps := es }).qPush (108 + n) (spillBytes n e)).1

/-- The read of TCn_CAPPOP (13 R375, R385): the word it answers; nothing is popped with SPILL 1, from an empty FIFO,
or while the capture stage holds for want of lock (R363). -/
def State.capPop (s : State) (n : Nat) : State × Word :=
  let c := s.tc n
  if !s.tmr.lock || bit (s.reg (State.tcA n 0x24)) 8 then (s, 0)
  else match c.caps with
    | [] => (s, 0)
    | e :: es =>
      ((((s.setTc n { c with caps := es }).setReg (State.tcA n 0x2C) (w32 e.stamp)).setReg (State.tcA n 0x30)
          (w32 (e.stamp / 2 ^ 32))).setReg (State.tcA n 0x34) e.cnt,
        flag 0 true ||| flag 1 e.rise)

namespace State

/-- The next value of a wide compare channel advanced by multiples of STEP until it lies above the time base (13 R376). -/
def wcAdvance (next step now : Nat) : Nat :=
  if step = 0 ∨ now < next then next else next + step * ((now - next) / step + 1)

/-- The firing of a WC channel: its action, FIRED and its next value (13 R376). -/
def wcFire (s : State) (w : Nat) : State :=
  let ctl := s.reg (wcA w 0)
  let step := (s.reg (wcA w 0xC)).toNat
  let c := s.wc w
  let t := (s.setBits (wcA w 0x10) (flag 0 true)).setWc w
    (if step = 0 then { c with armed := false } else { c with nextV := c.nextV + step })
  if bit ctl 3 then t.setPin (fld ctl 4 4) (pinAct (fld ctl 1 2) (bit s.tmr.pins (fld ctl 4 4))) else t

/-- A commit that wrote CMPL or CMPH loads the next value (13 R376). -/
def wcLoad (s : State) (w : Nat) : State :=
  let ctl := s.reg (wcA w 0)
  let v := (s.reg (wcA w 4)).toNat + 2 ^ 32 * (s.reg (wcA w 8)).toNat
  let step := (s.reg (wcA w 0xC)).toNat
  let s := s.setWc w { nextV := v, armed := true }
  if s.now < v ∨ !bit ctl 0 then s
  else
    let s := if bit ctl 8 then s.wcFire w else s.setBits (wcA w 0x10) (flag 1 true)
    if step = 0 then s.setWc w { nextV := v, armed := false }
    else s.setWc w { nextV := wcAdvance v step s.now, armed := true }

/-- What a commit does to a TC channel whose registers it wrote (13 R364, R369, R370, R372, R373), after the channel's own tick, whose
events are `e`. `wrote o` tells whether register o was written. -/
def tcApply (s : State) (n : Nat) (oldCtl oldPins : Word) (oldPresc : Word) (wrote : Nat → Bool) (e : TcEvents) : State :=
  let ctl := s.reg (tcA n 0)
  let pins := s.reg (tcA n 4)
  let mode := s.tcMode n
  let c := s.tc n
  let modeChg := fld oldCtl 0 3 != mode
  let c := if modeChg || oldPresc != s.reg (tcA n 8) then { c with phase := 0 } else c
  let c := if modeChg then { c with down := false, skip := false } else c
  let loaded := wrote 0x18
  let c := if loaded then { c with cnt := s.reg (tcA n 0x18), skip := false } else c
  let newP := s.reg (tcA n 0xC)
  let now := bit ctl 3 || mode == 4 || mode == 5 || mode == 6 || modeChg || mode == 0
  let c := if wrote 0xC && now then { c with period := newP } else if mode == 0 || modeChg then { c with period := newP } else c
  let below := c.period != 0 && decide (c.period.toNat < c.cnt.toNat) && ((wrote 0xC && now) || loaded)
  let downSw := below && mode == 2 && c.down
  let c := if below && !downSw then { c with skip := true } else c
  let s := (s.setTc n c).setBits (tcA n 0x20) (flag 3 downSw)
  let bad := s.tcBad n
  let s := (s.setTc n { s.tc n with stopped := bad }).setBits (tcA n 0x20) (flag 6 bad)
  let rises := bit pins 4 && (!bit oldPins 4 || modeChg)
  let s := if rises then s.setPin (fld pins 0 4) (bit ctl 14) else s
  let fire := bit ctl 4 && (wrote 0x10 || wrote 0x14 || loaded)
  let m0 := fire && s.reg (tcA n 0x10) == c.cnt
  let m1 := fire && s.reg (tcA n 0x14) == c.cnt
  (s.setBits (tcA n 0x20) (flag 0 m0 ||| flag 1 m1)).tcActs n e.wrap (e.m0 || m0) (e.m1 || m1)

end State

/-- CAPTURE_POP (13 R375): master m reads TCn_CAPPOP. -/
def execCapturePop (m : Fin 10) (n : Fin 16) (s : State) : Out :=
  .next <|
    if s.revoked m then s.answer stError [0]
    else let r := s.capPop n; r.1.answer stOk [r.2]

/-- WC_FIRE (13 R376): a running channel other than WC0, whose strobe is a command of its own, reaches its next value; one that the
time base has passed does not fire. -/
def execWcFire (w : Fin 4) (s : State) : Out :=
  let c := s.wc w
  .next <|
    if w.val = 0 || !s.tmr.lock || !c.armed || !bit (s.reg (State.wcA w 0)) 0 || decide (c.nextV < s.now) then s
    else (s.advanceTo c.nextV).wcFire w

/-- PLL_LOCK_LOST (13 R363): the island holds; PLLLOST and F113. -/
def execPllLockLost (s : State) : Out :=
  .next <|
    if !s.tmr.lock then s
    else ({ s with tmr := { s.tmr with lock := false } }.setBits tmrB (flag 1 true)).drive 113 0

/-- PLL_LOCK_RESTORED (13 R362, R363): lock has held for 1 ms; counting resumes from the held values. -/
def execPllLockRestored (s : State) : Out :=
  .next <|
    match s.md.mode with
    | .off | .reset => s
    | _ => { s with tmr := { s.tmr with lock := true }, lnk := { s.lnk with opened := true } }

/-- What a step on an empty queue does: one tick of the timer clock (log entry 4, DESIGN CHOICE). -/
def idleTick (s : State) : State := s.tick

end Sys2Proof.Machine
end

