-- ==== Sys2Proof/Machine/Images.lean ====
section
/-! DEFINITION. The program image (22 R554-R556) as the runtime and the collector check it (05 R141, 10 R294, 12 R338), the
application image header (22 R557), and the tables as they stand in data TCM. -/
namespace Sys2Proof.Machine

/-! ### Instruction words in S-mode (04 R97, R101, R103) -/

/-- SYS functions that S-mode executes, with the fields they use (04 R123). -/
def sysLegalS (fn rd ra rb aux : Nat) : Bool :=
  match fn with
  | 0 | 3 | 8 | 10 | 11 => rd == 0 && ra == 0 && rb == 0 && aux == 0
  | 4 => ra == 0 && rb == 0 && aux == 0
  | 5 => rd == 0 && rb == 0 && aux == 0
  | 6 => ra == 0 && rb == 0
  | 7 => rd == 0 && rb == 0
  | _ => false

/-- SBOP fields (04 R118). -/
def sbopLegal (fn sd sa sb sc : Nat) : Bool :=
  match fn with
  | 0 | 1 | 9 => sb == 0 && sc == 0
  | 2 | 3 | 4 => sc == 0
  | 5 | 6 | 7 => true
  | 8 => decide (sa < 2) && sb == 0 && sc == 0
  | 10 => decide (sd < 16) && sb == 0 && sc == 0
  | _ => false

/-- A word does not raise ILL in S-mode (04 R97, R101). -/
def legalS (w : Word) : Bool :=
  let rd := fld w 22 4
  let ra := fld w 18 4
  let rb := fld w 14 4
  let fn := fld w 8 6
  let aux := fld w 0 8
  let forward := decide (0 < fld w 0 21) && decide (fld w 0 21 < 2 ^ 20)
  match fld w 26 6 with
  | 0x01 =>
    if fn = 8 ∨ fn = 9 ∨ fn = 10 then rb == 0 && decide (aux < 32)
    else if fn = 14 ∨ fn = 15 then rd == 0 && aux == 0
    else decide (fn < 20) && aux == 0
  | 0x02 => decide (fn < 4) && aux == 0
  | 0x04 | 0x05 | 0x06 | 0x07 => true
  | 0x08 => rd == 0
  | 0x09 => ra == 0 && fld w 16 2 == 0
  | 0x0A => decide (fn < 4) && aux == 0 && (fn == 1 || fn == 2 || rb == 0)
  | 0x10 | 0x11 | 0x12 | 0x13 | 0x14 | 0x15 | 0x16 | 0x17 | 0x18 | 0x19 | 0x1A | 0x1B => true
  | 0x20 => decide (fld w 21 5 < 15) && forward
  | 0x22 => fld w 21 5 == 0
  | 0x25 | 0x26 => forward
  | 0x27 => fld w 12 14 != 0 && fld w 0 12 != 0
  | 0x28 => sbopLegal (fld w 0 6) (fld w 21 5) (fld w 16 5) (fld w 11 5) (fld w 6 5)
  | 0x29 => decide (fld w 0 6 < 6) && decide (fld w 16 5 < 16) && decide (fld w 11 5 < 16) && fld w 6 5 == 0
  | 0x2A => decide (fld w 0 6 < 2) && fld w 6 5 == 0
  | 0x2B => ra == 0 && decide (fld w 16 2 < 2) && fld w 9 7 == 0
  | 0x3F => sysLegalS fn rd ra rb aux
  | _ => false

/-- A runtime-only instruction: CYCEND, MTSR, FWLD or FWST (05 R141). -/
def runtimeOnly (w : Word) : Bool :=
  let op := fld w 26 6
  op == 0x1A || op == 0x1B || (op == 0x3F && (fld w 8 6 == 7 || fld w 8 6 == 11))

/-- The target of a Format J word at an address. -/
def wordTarget (a : Nat) (w : Word) : Int := (a : Int) + 4 * ((BitVec.ofNat 21 (fld w 0 21)).toInt)

/-- What the scan needs of one word: its address, and the address of the last word of its LOOP body, its branch target and its
CALL target. -/
structure ScanWord where
  addr : Nat
  word : Word
deriving DecidableEq, Repr

namespace ScanWord

def isOp (x : ScanWord) (op : Nat) : Bool := fld x.word 26 6 == op
def isBranch (x : ScanWord) : Bool := x.isOp 0x20 || x.isOp 0x25 || x.isOp 0x26
def isRet (x : ScanWord) : Bool := x.isOp 0x3F && fld x.word 8 6 == 3
/-- The branch always taken. -/
def isAlways (x : ScanWord) : Bool := x.isOp 0x20 && fld x.word 21 5 == 14
def target (x : ScanWord) : Nat := (wordTarget x.addr x.word).toNat
/-- The last address of a LOOP body. -/
def bodyEnd (x : ScanWord) : Nat := x.addr + 4 * fld x.word 0 12

end ScanWord

/-- The number of LOOP bodies that hold an address. -/
def nestAt (ws : List ScanWord) (a : Nat) : Nat :=
  (ws.filter (fun x => x.isOp 0x27 && decide (x.addr < a) && decide (a ≤ x.bodyEnd))).length

/-- One pass from the highest address down: for each address the greatest value along the paths from it, where `own` gives an
instruction's own value and `call` that of a CALL from the values of the pass before. -/
def scanPass (own : ScanWord → Nat) (call : ScanWord → Tab Nat → Nat) (prev : Tab Nat) : List ScanWord → Tab Nat → Tab Nat
  | [], acc => acc
  | x :: xs, acc =>
    let next := look 0 acc (x.addr + 4)
    let v :=
      if x.isRet then own x
      else if x.isAlways then max (own x) (look 0 acc x.target)
      else if x.isBranch then max (own x) (max next (look 0 acc x.target))
      else if x.isOp 0x22 then max (call x prev) next
      else max (own x) next
    scanPass own call prev xs ((x.addr, v) :: acc)

def scanRounds (own : ScanWord → Nat) (call : ScanWord → Tab Nat → Nat) (rev : List ScanWord) : Nat → Tab Nat
  | 0 => []
  | k + 1 => scanPass own call (scanRounds own call rev k) rev []

/-- The call graph is acyclic and at most 7 deep (05 R141). -/
def callsOk (ws : List ScanWord) : Bool :=
  (scanRounds (fun _ => 0) (fun x prev => 1 + look 0 prev x.target) ws.reverse 8).all (fun e => decide (e.2 ≤ 7))

/-- LOOP bodies nest at most 4 deep, counting calls made from a body (05 R141). -/
def loopsOk (ws : List ScanWord) : Bool :=
  let n := fun (x : ScanWord) => nestAt ws x.addr
  (scanRounds n (fun x prev => n x + look 0 prev x.target) ws.reverse 8).all (fun e => decide (e.2 ≤ 4))

/-- The slot budget of a T_cyc code (01 R30). -/
def slotBudget (code : Nat) : Nat := 12000 * 2 ^ code

namespace State

/-! ### Header and tables of a program image at an application address -/

/-- A header field of the program image (22 R555). -/
def pgLen (s : State) (b : Nat) : Nat := s.num (b + 8) 4
def pgNses (s : State) (b : Nat) : Nat := s.num (b + 0xC) 2
def pgCbase (s : State) (b : Nat) : Nat := s.num (b + 0x18) 4
def pgEntry (s : State) (b : Nat) : Nat := s.num (b + 0x1C) 4
def pgWpath (s : State) (b : Nat) : Nat := s.num (b + 0x20) 4
def pgCodeLen (s : State) (b : Nat) : Nat := s.num (b + 0x24) 4
def pgDataLen (s : State) (b : Nat) : Nat := s.num (b + 0x28) 4
def pgTcyc (s : State) (b : Nat) : Nat := s.num (b + 6) 1

/-- The header checks of R555. -/
def pgHeaderOk (s : State) (b : Nat) : Bool :=
  let cb := s.pgCbase b
  let cl := s.pgCodeLen b
  let dl := s.pgDataLen b
  let en := s.pgEntry b
  s.num b 4 == 0x06205047 && s.num (b + 4) 2 == 1 && s.num (b + 7) 1 == 0 && s.num (b + 0x16) 2 == 0
    && s.num (b + 0x2C) 20 == 0 && decide (s.pgTcyc b ≤ 4) && decide (s.pgNses b ≤ 512)
    && decide (0x10000 ≤ cb) && cb % 4 == 0 && decide (cb ≤ en) && decide (en < cb + cl) && en % 4 == 0
    && cl % 4 == 0 && dl % 64 == 0 && decide (dl ≤ 196608) && decide (cb + cl ≤ 0x80000 - dl)
    && s.pgLen b == 0x510 + 16 * s.pgNses b + cl + dl

/-- The program's words with the addresses they are loaded at. -/
def pgWords (s : State) (b : Nat) : List ScanWord :=
  let at0 := b + 0x510 + 16 * s.pgNses b
  (upFrom (s.pgCodeLen b / 4) 0).map (fun i => { addr := s.pgCbase b + 4 * i, word := w32 (s.num (at0 + 4 * i) 4) })

/-- Entry i of the session table: SNUM and its fields (12 R337). -/
def pgSes (s : State) (b i : Nat) : Nat × Nat × Nat × Nat × Nat × Nat × Nat :=
  let a := b + 0x510 + 16 * i
  (s.num a 2, s.num (a + 2) 2, s.num (a + 4) 4, s.num (a + 8) 4, s.num (a + 12) 2, s.num (a + 14) 1, s.num (a + 15) 1)

/-- A session number is configured for channel A in a direction (05 R141). -/
def pgHasSes (s : State) (b n : Nat) (tx : Bool) : Bool :=
  (upFrom (s.pgNses b) 0).any (fun i => let x := (s.pgSes b i).1; x % 512 == n && x.testBit 9 == tx)

/-- The scan of the user program (05 R141). -/
def pgScanOk (s : State) (b : Nat) : Bool :=
  let ws := s.pgWords b
  let lo := s.pgCbase b
  let hi := lo + s.pgCodeLen b
  let inside := fun (t : Int) => decide ((lo : Int) ≤ t) && decide (t < (hi : Int))
  ws.all (fun x => legalS x.word && !runtimeOnly x.word)
    && ws.all (fun x => !(x.isBranch || x.isOp 0x22) || inside (wordTarget x.addr x.word))
    && ws.all (fun x => !x.isOp 0x27 || inside x.bodyEnd)
    && callsOk ws && loopsOk ws
    && (match ws.getLast? with | some x => x.isRet | none => false)
    && ws.all (fun x => !x.isOp 0x27 || decide (x.bodyEnd + 4 ≠ hi))
    && ws.all (fun x => !x.isOp 0x2B || s.pgHasSes b (fld x.word 0 9) (fld x.word 16 2 == 0))
    && decide (s.pgWpath b ≤ slotBudget (s.pgTcyc b))

/-- One session entry lies within R337. -/
def sesEntOk (x : Nat × Nat × Nat × Nat × Nat × Nat × Nat) : Bool :=
  let (snum, fsv, addr, seed, wdog, k, px) := x
  let tx := snum.testBit 9
  let hsf := snum.testBit 10
  decide (snum < 0x1000) && (!snum.testBit 11 || hsf) && (!tx || fsv == 0) && (!hsf || seed == addr)
    && (if tx then wdog == 0 else decide (1 ≤ wdog))
    && (if !tx && !hsf then decide (1 ≤ k) && decide (k ≤ 15) else k == 0)
    && (if tx && hsf then decide (1 ≤ px) else if !tx && !hsf then true else px == 0)

/-- Two entries have a ring in common (12 R337-R340): a Suane session's copies travel on both rings, an HSF session's frames on its
own. Log entry 107, DEDUCED. -/
def ringsMeet (a b : Nat) : Bool := !a.testBit 10 || !b.testBit 10 || a.testBit 11 == b.testBit 11

/-- The checks of the session engine on its table (12 R338). -/
def pgSessionsOk (s : State) (b : Nat) : Bool :=
  let n := s.pgNses b
  let es := (upFrom n 0).map (fun i => s.pgSes b i)
  es.all sesEntOk
    && (upFrom (n - 1) 0).all (fun i => decide ((s.pgSes b i).1 % 512 < (s.pgSes b (i + 1)).1 % 512))
    && decide ((es.filter (fun x => x.1.testBit 9)).length ≤ 32)
    && (upFrom n 0).all (fun i => (upFrom i 0).all (fun j =>
        let x := s.pgSes b i
        let y := s.pgSes b j
        !ringsMeet x.1 y.1 || x.2.2.1 != y.2.2.1))

/-! ### The reaction table (22 R556) -/

/-- Entry n of the reaction table at its address. -/
def rtEnt (s : State) (t n : Nat) : Nat := s.num (t + 16 + 4 * n) 4

/-- The checks of the collector on one entry (10 R294). -/
def rtEntOk (s : State) (t n : Nat) : Bool :=
  let e := s.rtEnt t n
  let cls := e % 4
  match srcDefault n with
  | none => e == 0
  | some (_, floor) =>
    decide (floor ≤ cls) && e / 32 % 2 ^ 11 == 0 && (decide (cls < 2) || (!e.testBit 3 && !e.testBit 4))

/-- DTI lies in its range for a T_cyc code (18 R470): at least 4 * 466 cycles. -/
def dtiOk (dti code : Nat) : Bool :=
  decide (1000 ≤ dti) && decide (dti ≤ 60000) && decide (4 * 466 * 125 * 2 ^ code ≤ dti * 1000)

/-- The collector accepts the reaction table (10 R294, R297, R299; 18 R470). -/
def rtOk (s : State) (t code : Nat) : Bool :=
  let q := s.num t 2
  let w := s.num (t + 4) 2
  decide (50 ≤ q) && decide (q ≤ 10000) && decide (1 ≤ s.num (t + 2) 1) && decide (1 ≤ w) && decide (w ≤ 1440)
    && dtiOk (s.num (t + 6) 2) code && s.num (t + 10) 2 == 0
    && s.num (t + 12) 4 == crc32 (s.bytes t 12 ++ s.bytes (t + 16) 1024)
    && (upFrom 256 0).all (s.rtEntOk t)

/-- The program image at an address passes the runtime, the session engine and the collector (05 R140, R141; 10 R294;
12 R338). -/
def pgOk (s : State) (b : Nat) : Bool :=
  s.pgHeaderOk b && s.pgScanOk b && s.pgSessionsOk b && s.rtOk (b + 0x100) (s.pgTcyc b)

/-- The accepted reaction table in force: matrix, quiet period, limits, DTI, ridge masks (10 R294; 18 R470; 21 R544). -/
def takeReactions (s : State) (t : Nat) : State :=
  let ents := (upFrom 256 0).foldl (fun (m : Tab (Option MatEnt)) n =>
    match srcDefault n with
    | none => m
    | some _ =>
      let e := s.rtEnt t n
      put none m n (some { cls := e % 4, irq := e.testBit 2, zstop := e.testBit 3, dsto := e.testBit 4,
                           zmask := BitVec.ofNat 16 (e / 65536) })) []
  let s := { s with flt := { s.flt with matrix := ents, q := s.num t 2, limit := s.num (t + 2) 1, win := s.num (t + 4) 2 },
                    lnk := { s.lnk with rorig := BitVec.ofNat 8 (s.num (t + 3) 1), rimport := BitVec.ofNat 16 (s.num (t + 8) 2) } }
  s.setReg (bstB + 4) (w32 (s.num (t + 6) 2))

/-! ### Application image (22 R557) -/

/-- The application image at an address, with its length, is in order: it lies wholly in working memory once copied. -/
def appOk (s : State) (b : Nat) : Bool :=
  let len := s.num (b + 8) 4
  let load := s.num (b + 0xC) 4
  s.num b 4 == 0x06204150 && s.num (b + 4) 4 == 1 && load % 4096 == 0 && s.num (b + 0x14) 12 == 0 && decide (32 ≤ len)
    && decide (load + (len - 32) ≤ 0x10000000)

/-! ### Tables in data TCM (05 R138) -/

/-- The number of k bytes at a private TCM address. -/
def tcmNum (s : State) (a k : Nat) : Nat := natOfBytes ((upFrom k a).map (fun i => look 0 s.chA.tcm i))

/-- Bytes written to the TCMs by the load port or the restore engine (05 R138, R146). -/
def tcmPut (s : State) (a : Nat) (bs : List Byte) : State :=
  { s with chA := { s.chA with tcm := bs.foldl (fun (x : Tab Byte × Nat) b => (put 0 x.1 x.2 b, x.2 + 1)) (s.chA.tcm, a) |>.1 } }

/-- The header copy of the program image in data TCM. -/
abbrev pgCopy : Nat := 0x108000

/-- ZUSE and the zone of an output, as channel A knows them (05 R140). -/
def zuseA (s : State) : Nat := s.tcmNum (pgCopy + 0xE) 2
def zmapA (s : State) (k : Nat) : Nat := s.tcmNum (pgCopy + 0x10) 6 / 16 ^ k % 16
def wpathA (s : State) : Nat := s.tcmNum (pgCopy + 0x20) 4
def dataLenA (s : State) : Nat := s.tcmNum (pgCopy + 0x28) 4
def cbaseA (s : State) : Nat := s.tcmNum (pgCopy + 0x18) 4

/-- The user call slot: B AL to ENTRY (05 R139). -/
def callSlot (entry : Nat) : Word := at_ 26 6 0x20 ||| at_ 21 5 0xE ||| at_ 0 21 ((entry - 0xC0) / 4)

/-- The program image that the trust engine has accepted, written through the TCM load port before the runtime scans it (05 R138,
R140). A length that a broken header states beyond code TCM or the user region of data TCM is cut there (log entry 115,
DESIGN CHOICE). -/
def loadProgram (s : State) (b : Nat) : State :=
  let hd := 0x510 + 16 * min (s.pgNses b) 512
  let cl := min (s.pgCodeLen b) (0x80000 - s.pgCbase b)
  let dl := min (s.pgDataLen b) 0x30000
  let data := s.bytes (b + hd + cl) dl
  let t := (((s.tcmPut pgCopy (s.bytes b hd)).tcmPut (s.pgCbase b) (s.bytes (b + hd) cl)).tcmPut 0x110000 data).tcmPut
    (0x80000 - dl) data
  let t := t.tcmPut 0xC0 (bytesOfWord (callSlot (s.pgEntry b)))
  { t with chA := { t.chA with loadProg := true } }

/-! ### Configuration (06 R199; 07 R223, R224, R228) -/

/-- A pair of accepted images is in force (02 R47, 06 R203). -/
def heldA (s : State) : Bool := s.chA.loadProg && s.md.pairOk
def heldB (s : State) : Bool := s.lat.loaded && s.md.pairOk

/-- The number of k bytes of bank 0 at an offset. -/
def bankNum (s : State) (o k : Nat) : Nat := natOfBytes ((upFrom k o).map (fun i => look 0 s.lat.bank0 i))

/-- The input table entry of SIn in a channel; 0, which is an unused entry, without a configuration. -/
def inEnt (s : State) (chB : Bool) (n : Nat) : Nat :=
  if chB then (if s.heldB then s.bankNum (0x2040 + 4 * n) 4 else 0)
  else if s.heldA then s.tcmNum (pgCopy + 0x40 + 4 * n) 4 else 0

/-- The test-pulse table entry of TPk in a channel. -/
def tpEnt (s : State) (chB : Bool) (k : Nat) : Nat :=
  if chB then (if s.heldB then s.bankNum (0x20C0 + 4 * k) 4 else 0)
  else if s.heldA then s.tcmNum (pgCopy + 0xC0 + 4 * k) 4 else 0

def inUsed (s : State) (chB : Bool) (n : Nat) : Bool := (s.inEnt chB n).testBit 24

/-- The filter time in us, and the test-pulse source of a used input. -/
def inFilt (s : State) (chB : Bool) (n : Nat) : Nat := if s.inUsed chB n then s.inEnt chB n % 65536 else 1000

/-- The input is of Type 1 by a channel's table; without a configuration or unused, of Type 3 (07 R211, R223). -/
def inType1 (s : State) (chB : Bool) (n : Nat) : Bool := s.inUsed chB n && (s.inEnt chB n).testBit 20

def inSrc (s : State) (chB : Bool) (n : Nat) : Option Nat :=
  let k := s.inEnt chB n / 65536 % 16
  if s.inUsed chB n ∧ k < 8 then some k else none

def tpWidth (s : State) (chB : Bool) (k : Nat) : Nat := s.tpEnt chB k % 65536
def tpPeriod (s : State) (chB : Bool) (k : Nat) : Nat := s.tpEnt chB k / 65536

/-- The source is named (06 R199). -/
def tpNamed (s : State) (chB : Bool) (k : Nat) : Bool := s.tpWidth chB k != 0

/-- Pmin in ms (07 R228); 0 with no named source. -/
def tpPmin (s : State) (chB : Bool) : Nat :=
  ((upFrom 8 0).filter (s.tpNamed chB)).foldl (fun m k => if m = 0 then s.tpPeriod chB k else min m (s.tpPeriod chB k)) 0

end State

end Sys2Proof.Machine
end

