-- ==== Sys2Proof/Machine/Otp.lean ====
section
/-! DEFINITION. One-time-programmable memory (19): sensing at two margins, repairs, tallies, region states, and the jobs that
burn words. -/
namespace Sys2Proof.Machine

/-! ### Words (R480, R483) -/

/-- The check bits of 32 data bits; the code is linear, so a blank word decodes as 0 (log entry 3, DESIGN CHOICE). -/
def eccOf (w : Word) : BitVec 7 := if w = 0 then 0 else Config.eccCheck w

/-- The 39 bits of an ECC word. -/
def otpCode (w : Word) : BitVec 39 := w.setWidth 39 ||| ((eccOf w).setWidth 39 <<< 32)

/-- Data bits of a raw word. -/
def otpData (n : BitVec 39) : Word := n.setWidth 32

/-- The raw word agrees with its check bits. -/
def otpClean (n : BitVec 39) : Bool := otpCode (otpData n) == n

/-- SEC-DED decoding: the value and whether a bit was corrected; none for an uncorrectable word. -/
def otpDecode (n : BitVec 39) : Option (Word × Bool) :=
  if otpClean n then some (otpData n, false)
  else
    match firstIdx (fun i => otpClean (n ^^^ bitAt 39 i)) 39 0 with
    | some i => some (otpData (n ^^^ bitAt 39 i), true)
    | none => none

/-- A tally word (R480). -/
def isTally (w : Nat) : Bool := decide (192 ≤ w) && decide (w < 228)

/-- What sensing finds in one word (R483): good, marginal or uncorrectable, with its value. -/
inductive Sensed where
  | good (v : Word)
  | marginal (v : Word)
  | bad
deriving DecidableEq, Repr

/-- Sensing of one word from its raw bits at normal and at strict margin (R483, R484). -/
def senseRaw (w : Nat) (n t : BitVec 39) : Sensed :=
  let n := if isTally w then n &&& 0xFFFFFFFF else n
  let t := if isTally w then t &&& 0xFFFFFFFF else t
  if t &&& ~~~n ≠ 0 then .bad
  else if isTally w then (if n = t then .good (otpData n) else .marginal (otpData n))
  else
    match otpDecode n with
    | none => .bad
    | some (v, fixed) => if n = t ∧ !fixed then .good v else .marginal v

/-- The bits of a 128-bit thermometer as read: position of the highest 1, plus 1 (R484). -/
def thermo (words : List Word) : Nat :=
  let v := words.foldr (fun w acc => acc * 2 ^ 32 + w.toNat) 0
  if v = 0 then 0 else Nat.log2 v + 1

/-- The base and size of a finalisable region, by its index in R481. -/
def otpRegion (r : Nat) : Option (Nat × Nat) :=
  match r with
  | 0 => some (0, 128)
  | 1 => some (128, 64)
  | 4 => some (228, 124)
  | 5 => some (352, 128)
  | 6 => some (480, 128)
  | 7 => some (608, 96)
  | 8 => some (704, 96)
  | 9 => some (800, 96)
  | 10 => some (896, 96)
  | _ => none

/-- Base and size of every region (R481). -/
def otpSpan (r : Nat) : Nat × Nat :=
  match otpRegion r with
  | some x => x
  | none => if r = 2 then (192, 32) else if r = 3 then (224, 4) else (992, 32)

/-- The region of a word. -/
def otpRegionOf (w : Nat) : Nat :=
  match firstIdx (fun r => decide ((otpSpan r).1 ≤ w) && decide (w < (otpSpan r).1 + (otpSpan r).2)) 12 0 with
  | some r => r
  | none => 11

/-- The lock word (R485). -/
abbrev lockWord : Word := 0x5A3CC3A5

namespace State

def otpN (s : State) (w : Nat) : BitVec 39 := look 0 s.otp.normal w
def otpT (s : State) (w : Nat) : BitVec 39 := look 0 s.otp.strict w
/-- Value of a word after correction and repair (R496). -/
def otpVal (s : State) (w : Nat) : Word := look 0 s.otp.vals w
def otpSense1 (s : State) (w : Nat) : Sensed := senseRaw w (s.otpN w) (s.otpT w)

/-- The state code of a region at the last sensing (R486). -/
def regSt (s : State) (r : Nat) : Nat := (look 0 s.otp.rst r).toNat

def isLocked (s : State) (r : Nat) : Bool := s.regSt r == 2

/-- The tally value of anti-rollback (R484). -/
def antiRb (s : State) : Nat := thermo ((upFrom 4 224).map s.otpVal)

/-- LIFE group g is burned (R484). -/
def lifeGroup (s : State) (g : Nat) : Bool :=
  decide (128 ≤ ((upFrom 8 (192 + 8 * g)).map (fun w => popCount 32 (s.otpVal w).toNat)).foldl (· + ·) 0)

def lifeWord (s : State) : Word := wordOf 4 s.lifeGroup

/-- The life-cycle code (20 R516). -/
def lc (s : State) : Nat :=
  if s.lifeGroup 3 || s.lifeGroup 2 then 3 else if s.lifeGroup 1 then 2 else if s.lifeGroup 0 then 1 else 0

/-- The BUILDER half in force: 0 none, 1 primary, 2 supersede (R488). -/
def bforce (s : State) : Nat :=
  if s.isLocked 6 then 2 else if s.regSt 6 = 3 then 0 else if s.isLocked 5 then 1 else 0

/-- The base word of the BUILDER half in force. -/
def builderBase (s : State) : Option Nat := match s.bforce with | 1 => some 352 | 2 => some 480 | _ => none

/-- An option of the BUILDER half in force (R491): 0 SVCAUTH, 1 DBGAUTH, 2 KEY1. -/
def builderOpt (s : State) (i : Nat) : Bool :=
  match s.builderBase with
  | some b => bit (s.otpVal (b + 33)) i
  | none => false

/-- The bytes of consecutive words, each little-endian (R485, R594). -/
def otpBytes (s : State) (w k : Nat) : List Byte := (upFrom k w).flatMap (fun i => bytesOfWord (s.otpVal i))

/-- SERIAL (R594). -/
def serial (s : State) : List Byte := s.otpBytes 129 2

/-- The eight digest words of a finalisable region (R485). -/
def otpDigest (s : State) (b len : Nat) : List Word :=
  let d := shaBytes (s.otpBytes b (len + 1))
  (upFrom 8 0).map (fun i => w32 (natOfBytes ((d.drop (4 * i)).take 4)))

def marked (b n : Nat) (ws : List Nat) : List Nat := ws.filter (fun w => decide (b ≤ w) && decide (w < b + n))

/-- The state of a region after sensing (R486, R498). -/
def regState (s : State) (r : Nat) : BitVec 2 :=
  match otpRegion r with
  | none =>
    let x := otpSpan r
    if (upFrom x.2 x.1).any (fun w => s.otpVal w != 0) then 1 else 0
  | some (b, n) =>
    let len := (s.otpVal b).toNat
    let lock := s.otpVal (b + n - 1)
    let match_ := (upFrom 8 0).map (fun i => s.otpVal (b + n - 9 + i)) == s.otpDigest b len
    if !(marked b n s.otp.ue).isEmpty || (lock != 0 && lock != lockWord)
        || (lock == lockWord && (decide (n - 10 < len) || !match_)) then 3
    else if lock = lockWord then 2
    else if (upFrom n b).all (fun w => s.otpVal w == 0) then 0
    else 1

/-- One word as sensed, with its value: an uncorrectable word's value is free (log entry 1, DESIGN CHOICE). -/
def senseWord (s : State) (w : Nat) : State :=
  let o := s.otp
  let drop := fun (l : List Nat) => l.filter (· ≠ w)
  match s.otpSense1 w with
  | .good v => { s with otp := { o with vals := put 0 o.vals w v, marg := drop o.marg, ue := drop o.ue } }
  | .marginal v => { s with otp := { o with vals := put 0 o.vals w v, marg := insNat w o.marg, ue := drop o.ue } }
  | .bad =>
    { s.drawn with otp := { o with vals := put 0 o.vals w (Config.freeWord s.fresh), marg := drop o.marg, ue := insNat w o.ue } }

/-- Repair entry i acts (R494): its target, when it is in use and well formed. -/
def repairTarget (s : State) (i : Nat) : Option Nat :=
  let a := s.otpVal (992 + 2 * i)
  let t := fld a 0 10
  if fld a 16 16 = 0xA5C3 ∧ fld a 10 6 = 0 ∧ t < 992 ∧ !isTally t ∧ !s.otp.ue.contains (992 + 2 * i)
      ∧ !s.otp.ue.contains (993 + 2 * i) then some t else none

/-- Repairs in ascending order; a repaired word counts as good (R494). -/
def repairs (s : State) : State :=
  (upFrom 16 0).foldl (fun s i =>
    match s.repairTarget i with
    | none => s
    | some t =>
      { s with otp := { s.otp with vals := put 0 s.otp.vals t (s.otpVal (993 + 2 * i)), marg := s.otp.marg.filter (· ≠ t),
                                   ue := s.otp.ue.filter (· ≠ t) } }) s

/-- Words of the anti-rollback thermometer with a 0 below the value read marginal (R484). -/
def tallyMarks (s : State) : State :=
  let v := s.antiRb
  (upFrom 4 0).foldl (fun s i =>
    let full := min 32 (v - 32 * i)
    if fld (s.otpVal (224 + i)) 0 full = 2 ^ full - 1 then s
    else { s with otp := { s.otp with marg := insNat (224 + i) s.otp.marg } }) s

/-- F160 reads Fault while a word is marginal (R483). -/
def noteMargin (s : State) : State :=
  match s.otp.marg with
  | [] => s
  | w :: _ => s.drive 160 (det w)

/-- Sensing at start (R483-R487): every word, repairs, tallies, region states, F160 and F161. A word that burned weakly reads as the
command says. Log entry 143, DEDUCED. -/
def otpSense (s : State) (weak : List WeakWord) : State :=
  let s := weak.foldl (fun (s : State) x =>
    { s with otp := { s.otp with normal := put 0 s.otp.normal x.word.toNat x.normal, strict := put 0 s.otp.strict x.word.toNat x.strict } }) s
  let ks := (s.otp.strict.map (·.1)).foldl (fun l k => insNat k l) (s.otp.normal.map (·.1))
  let s := { s with otp := { s.otp with vals := [], marg := [], ue := [], job := none } }
  let s := (ks.foldl (fun (s : State) w => s.senseWord w) s).repairs.tallyMarks
  let s := { s with otp := { s.otp with sensed := true, rst := (upFrom 12 0).foldl (fun t r => put 0 t r (s.regState r)) [] } }
  let s := (upFrom 6 5).foldl (fun (s : State) r => s.driveIf (s.regSt r == 3) 161 (det r)) s
  s.noteMargin

/-! ### Registers (R496, R498) -/

def otpStat (s : State) : Word :=
  flag 0 s.otp.sensed ||| flag 1 (!s.otp.marg.isEmpty) ||| flag 2 (!s.otp.ue.isEmpty) ||| (s.reg otpB &&& 8)

def otpMarg (s : State) : Word := at_ 0 10 s.otp.marg.length ||| at_ 16 10 (s.otp.marg.headD 0)

def otpRstat (s : State) (r : Nat) : Word :=
  let x := otpSpan r
  let len := match otpRegion r with | some (b, _) => (s.otpVal b).toNat | none => 0
  at_ 0 2 (s.regSt r) ||| flag 2 (!(marked x.1 x.2 s.otp.marg).isEmpty) ||| flag 3 (!(marked x.1 x.2 s.otp.ue).isEmpty)
    ||| at_ 8 8 len ||| at_ 16 10 (marked x.1 x.2 s.otp.marg).length

/-- Repair entries in use. -/
def otpRepairs (s : State) : Nat := ((upFrom 16 0).filter (fun i => s.otpVal (992 + 2 * i) != 0)).length

/-- WORDw as read: seed words read 0 (R482). -/
def otpWordReg (s : State) (w : Nat) : Word := if 131 ≤ w ∧ w ≤ 138 then 0 else s.otpVal w

/-! ### Jobs (R489-R495) -/

/-- A job ends in JOBSTAT (R496): state DONE or FAILED with its result; the spec states no progress for it (log entry 1, DESIGN
CHOICE). -/
def jobStat (s : State) (a : Nat) (ok : Bool) (result : Nat) : State :=
  (s.setReg a (at_ 0 4 (if ok then 3 else 4) ||| at_ 4 12 (Config.freeWord s.fresh).toNat ||| at_ 16 16 result)).drawn

/-- An OTP job fails or is refused: JOBERR and JOBADDR (R495). -/
def otpFail (s : State) (result w : Nat) : State :=
  { (((s.jobStat (otpB + 0x28) false result).setBits otpB (flag 3 true)).setReg (otpB + 0x2C) (w32 w)) with
    otp := { s.otp with job := none } }

def otpDone (s : State) : State := { (s.jobStat (otpB + 0x28) true 0) with otp := { s.otp with job := none } }

/-- PROG and FINAL are open in these modes (R489). -/
def otpProgMode (s : State) : Bool := s.md.mode == .service || (s.md.mode == .idle && s.lc == 0)

/-- A region open to PROG and FINAL (R489). -/
def otpOpenRegion (r : Nat) : Bool := decide (5 ≤ r) && decide (r ≤ 10)

/-- A job is RUNNING, so that a JOBCMD is ignored (R489). -/
def otpBusy (s : State) : Bool := match s.otp.job with | some j => !j.lost | none => false

/-- Refusals of PROG before it burns (R489, R490, R495). -/
def progRefusal (s : State) (w : Nat) : Option Nat :=
  let r := otpRegionOf w
  if !s.otpProgMode then some 0x0001
  else if !otpOpenRegion r then some 0x0002
  else if r = 6 ∧ !s.isLocked 5 then some 0x0016
  else if 2 ≤ s.regSt r then some 0x0003
  else if s.otpN w ≠ 0 ∨ s.otpT w ≠ 0 then some 0x0004
  else none

/-- A word reads good at both margins (R492 strict_ok). -/
def strictOk (s : State) (w : Nat) : Bool :=
  match s.otpSense1 w with | .good _ => true | _ => false

/-- Refusals of FINAL before it burns (R489, R492), each with the word concerned. -/
def finalRefusal (s : State) (r : Nat) : Option (Nat × Nat) :=
  match otpRegion r with
  | none => some (if s.otpProgMode then 0x0002 else 0x0001, (otpSpan r).1)
  | some (b, n) =>
    let len := (s.otpVal b).toNat
    if !s.otpProgMode then some (0x0001, b)
    else if !otpOpenRegion r then some (0x0002, b)
    else if r = 6 ∧ !s.isLocked 5 then some (0x0016, b)
    else if 2 ≤ s.regSt r then some (0x0003, b)
    else if len = 0 then some (0x0010, b)
    else if n - 10 < len then some (0x0011, b)
    else match (upFrom (len + 1) b).find? (fun w => !s.strictOk w) with
      | some w => some (0x0012, w)
      | none =>
        match (upFrom (n - 10 - len) (b + len + 1)).find? (fun w => s.otpVal w != 0) with
        | some w => some (0x0013, w)
        | none =>
          if (r = 5 ∨ r = 6) ∧ fld (s.otpVal (b + 33)) 3 29 ≠ 0 then some (0x0014, b + 33) else none

/-- A JOBCMD write (R489, R496, R497): ignored with a wrong KEY or while a job runs; refused at once, or started. Log entry 144,
DESIGN CHOICE. -/
def otpCmd (s : State) (op arg : Nat) (repair : Bool) (key : Nat) (refusal : Option (Nat × Nat)) : State × Nat :=
  if key ≠ 0x5A ∨ s.otpBusy then (s, stIgnored)
  else
    match refusal with
    | some (code, w) => (s.otpFail code w, stOk)
    | none =>
      let j : OtpJob := { op := op, arg := arg, repair := repair, data := s.reg (otpB + 0x24) }
      ({ (s.setReg (otpB + 0x28) 1) with otp := { s.otp with job := some j } }, stOk)

def otpStartProg (s : State) (w key : Nat) : State × Nat :=
  s.otpCmd 1 w false key ((s.progRefusal w).map (fun c => (c, w)))

def otpStartFinal (s : State) (r key : Nat) : State × Nat := s.otpCmd 2 r false key (s.finalRefusal r)

/-- STRENGTHEN of a word that is not marginal is refused when named alone (R493). -/
def strengthenRefusal (s : State) (w : Nat) : Option (Nat × Nat) :=
  if s.md.mode ≠ .service then some (0x0001, w)
  else if w ≠ 0x3FF ∧ !s.otp.marg.contains w then some (0x0020, w)
  else none

def otpStartStrengthen (s : State) (w : Nat) (repair : Bool) (key : Nat) : State × Nat :=
  s.otpCmd 3 w repair key (s.strengthenRefusal w)

/-- Any JOBCMD word (R497): another OP is refused with result 0x0002. -/
def otpJobCmd (s : State) (v : Word) : State × Nat :=
  let key := fld v 24 8
  match fld v 0 4 with
  | 1 => s.otpStartProg (fld v 4 10) key
  | 2 => s.otpStartFinal (fld v 4 4) key
  | 3 => s.otpStartStrengthen (fld v 4 10) (bit v 14) key
  | _ => s.otpCmd 0 0 false key (some (0x0002, fld v 4 10))

end State

/-- Bits of one word that failed strict verify, and those of them that read 1 at normal margin (R489, R490). -/
def burnFails (e : BurnEnv) (w : Nat) : BitVec 39 × BitVec 39 :=
  match e.fails.find? (fun f => f.word.toNat == w) with
  | some f => (f.failed, f.normal)
  | none => (0, 0)

/-- How a sequence of burns stands: the state, the words that may still be burned before the job stops (none for no stop),
the word whose burn failed. -/
structure Burn where
  s : State
  left : Option Nat
  failed : Option Nat := none
  stopped : Bool := false
  /-- a result code that ended the job (R492, R493), with its word -/
  refused : Option (Nat × Nat) := none

/-- The sequence goes on. -/
def Burn.goes (b : Burn) : Bool := b.failed.isNone && !b.stopped && b.refused.isNone

namespace State

/-- The bits of `code` missing at strict margin are pulsed in word w (R489): they read 1 at both margins but those that failed,
which read 1 at normal margin where the command says. No bit is ever cleared. Answers whether every bit passed. -/
def burnBits (s : State) (e : BurnEnv) (w : Nat) (code : BitVec 39) : State × Bool :=
  let f := burnFails e w
  let miss := code &&& ~~~(s.otpT w)
  let bad := miss &&& f.1
  let good := miss &&& ~~~f.1
  let n := s.otpN w ||| good ||| (bad &&& f.2)
  let t := s.otpT w ||| good
  (({ s with otp := { s.otp with normal := put 0 s.otp.normal w n, strict := put 0 s.otp.strict w t } }).senseWord w, bad == 0)

end State

/-- One word of a job burned: the job stops before it when it was stopped (R489). -/
def Burn.word (e : BurnEnv) (b : Burn) (w : Nat) (code : BitVec 39) : Burn :=
  if !b.goes then b
  else if b.left = some 0 then { b with stopped := true }
  else
    let r := b.s.burnBits e w code
    { b with s := r.1, left := b.left.map (· - 1), failed := if r.2 then none else some w }

namespace State

/-- The digest and lock words of FINAL in order (R492). -/
def burnFinal (e : BurnEnv) (b0 : Burn) (b n : Nat) : Burn :=
  let ds := b0.s.otpDigest b (b0.s.otpVal b).toNat
  let r := (upFrom 8 0).foldl (fun (x : Burn) i =>
    let w := b + n - 9 + i
    let code := otpCode (ds.getD i 0)
    if !x.goes then x
    else if x.s.otpN w &&& ~~~code ≠ 0 then { x with refused := some (0x0015, w) }
    else Burn.word e x w code) b0
  Burn.word e r (b + n - 1) (otpCode lockWord)

/-- The first free repair entry (R494). -/
def freeRepair (s : State) : Option Nat :=
  firstIdx (fun i => s.otpN (992 + 2 * i) == 0 && s.otpN (993 + 2 * i) == 0 && s.otpT (992 + 2 * i) == 0 && s.otpT (993 + 2 * i) == 0) 16 0

/-- STRENGTHEN of one marginal word, with its repair (R493, R494). -/
def burnStrengthen (e : BurnEnv) (repair : Bool) (b : Burn) (w : Nat) : Burn :=
  if !b.goes then b
  else if b.left = some 0 then { b with stopped := true }
  else
    let value := b.s.otpVal w
    let weak := b.s.otpN w &&& ~~~(b.s.otpT w)
    let weak := if isTally w then weak &&& 0xFFFFFFFF else weak
    let r := b.s.burnBits e w (b.s.otpT w ||| weak)
    let b := { b with s := r.1, left := b.left.map (· - 1) }
    match b.s.otpSense1 w with
    | .good _ => b
    | _ =>
      if !repair ∨ !b.s.isLocked (otpRegionOf w) ∨ isTally w then { b with refused := some (0x0021, w) }
      else match b.s.freeRepair with
        | none => { b with refused := some (0x0022, w) }
        | some i =>
          let b := Burn.word e (Burn.word e b (992 + 2 * i) (otpCode (0xA5C30000 ||| w32 w))) (993 + 2 * i) (otpCode value)
          if b.goes then { b with s := b.s.repairs } else b

/-- What a job has burned at its end. -/
def otpBurn (s : State) (j : OtpJob) (e : BurnEnv) : Burn :=
  let stop := j.stopped || j.lost || e.vlBad
  let b : Burn := { s := s, left := if stop then some e.words.toNat else none }
  match j.op with
  | 1 => Burn.word e b j.arg (otpCode j.data)
  | 2 => match otpRegion j.arg with | some (x, n) => burnFinal e b x n | none => b
  | _ =>
    let ws := if j.arg = 0x3FF then s.otp.marg else [j.arg]
    ws.foldl (burnStrengthen e j.repair) b

end State

/-- OTP_JOB_END (19 R489-R495): the burns of the running job, and its end in JOBSTAT; of a job that a reset has ended only the
burns made before the reset remain. -/
def execOtpJobEnd (e : BurnEnv) (s : State) : Out := .next <|
  match s.otp.job with
  | none => s
  | some j =>
    let b := s.otpBurn j e
    if j.lost then { b.s with otp := { b.s.otp with job := none, vals := [], marg := [], ue := [] } }
    else
      let t := b.s.noteMargin
      match b.failed, b.refused with
      | some w, _ => t.otpFail 0x0005 w
      | none, some (code, w) => t.otpFail code w
      | none, none => if b.stopped ∨ j.stopped ∨ e.vlBad then t.otpFail 0x0006 (if j.op = 2 then (otpSpan j.arg).1 else j.arg) else t.otpDone

/-- PROG (19 R490, R497). -/
def execOtpProg (m : Fin 10) (word : BitVec 10) (key : BitVec 8) (s : State) : Out := .next <|
  if s.revoked m then s.answer stError [] else let r := s.otpStartProg word.toNat key.toNat; r.1.answer r.2 []

/-- FINAL (19 R492, R497). -/
def execOtpFinal (m : Fin 10) (region : BitVec 4) (key : BitVec 8) (s : State) : Out := .next <|
  if s.revoked m then s.answer stError [] else let r := s.otpStartFinal region.toNat key.toNat; r.1.answer r.2 []

/-- STRENGTHEN (19 R493, R497). -/
def execOtpStrengthen (m : Fin 10) (word : BitVec 10) (repair : Bool) (key : BitVec 8) (s : State) : Out := .next <|
  if s.revoked m then s.answer stError [] else let r := s.otpStartStrengthen word.toNat repair key.toNat; r.1.answer r.2 []

end Sys2Proof.Machine
end

