-- ==== Sys2Proof/Machine/Axes.lean ====
section
/-! DEFINITION. Axes (05 R152; 09 R269-R273, R592; 13 R377; 22 R554): the binding of TC channels by the axis table of the
program image, what the timer island captures at a strobe, and overrate. -/
namespace Sys2Proof.Machine

namespace State

/-- Axis table entry i = 2a + e of the accepted program image (22 R554). -/
def axisEnt (s : State) (i : Nat) : Nat := s.tcmNum (pgCopy + 0xE0 + 4 * i) 4

def axis (s : State) (i : Nat) : AxisSt := look {} s.tmr.axes i
def setAxis (s : State) (i : Nat) (v : AxisSt) : State := { s with tmr := { s.tmr with axes := put {} s.tmr.axes i v } }

/-- A TC channel is bound to an axis: fabric writes of its registers are refused (09 R271, 13 R377). -/
def tcBound (s : State) (n : Nat) : Bool := s.tmr.axes.any (fun e => e.2.bound && e.2.tc == n)

/-- The runtime binds one encoder (09 R270, 13 R377): AXBIND, RXMODE and the channel's mode and pins. -/
def bindAxis (s : State) (i : Nat) : State :=
  let e := s.axisEnt i
  if !e.testBit 15 then s
  else
    let n := e % 16
    let pa := e / 16 % 16
    let pb := e / 256 % 16
    let em := e / 4096 % 4
    let diff := pa == pb
    let ctl := at_ 0 3 (if em = 2 then 6 else 5) ||| at_ 5 2 (if em = 1 then 2 else if em = 3 then 3 else 0) ||| flag 7 (e.testBit 14)
    let pins := at_ 8 4 pa ||| flag 12 true ||| at_ 16 4 (if diff then pa + 2 else pb) ||| flag 20 true
    let s := (s.setReg (tcA n 0) ctl).setReg (tcA n 4) pins
    let s := s.setReg (tmrB + 0x40 + 4 * i) (at_ 0 4 n ||| flag 4 true)
    let s := if diff then s.setBits (tmrB + 0x14) (flag (pa / 4) true) else s
    let s := s.setTc n { s.tc n with stopped := s.tcBad n }
    s.setAxis i { bound := true, tc := n, count := (s.tc n).cnt }

/-- The axis table written to the timer island (13 R377). -/
def bindAxes (s : State) : State := (upFrom 8 0).foldl (fun (s : State) i => s.bindAxis i) s

/-- The count change over a cycle as AXCAP shows it (05 R152). -/
def axisDelta (new old : Word) (err : Bool) : Word :=
  if err then 0 else dualOfInt ((new - old).toInt)

/-- A word of channel A's I/O image (05 R148, R151). -/
def ioW (s : State) (o : Nat) : Word := look (if o = 0x114 then 0xFFFFFFFF else 0) s.chA.io o
def setIo (s : State) (o : Nat) (v : Word) : State :=
  { s with chA := { s.chA with io := put (if o = 0x114 then 0xFFFFFFFF else 0) s.chA.io o v } }

/-- AXCAP of one encoder at a WC0 firing; QERR and CAPOVF of the channel are cleared after it (13 R377). -/
def captureAxis (s : State) (i : Nat) : State :=
  let x := s.axis i
  let o := 0x120 + 0x10 * i
  if !x.bound then s
  else
    let c := s.tc x.tc
    let err := x.err || (s.reg (tcA x.tc 0x20) &&& 0x30) != 0
    let d := axisDelta c.cnt x.count err
    let s := (((s.setIo o c.cnt).setIo (o + 4) (w32 c.stepAt)).setIo (o + 8) d).setIo (o + 12)
      (flag 0 true ||| flag 1 x.dirChg ||| flag 2 err)
    (s.clrBits (tcA x.tc 0x20) 0x30).setAxis i { x with count := c.cnt, dirChg := false, err := false, delta := d }

def captureAxes (s : State) : State := (upFrom 8 0).foldl (fun (s : State) i => s.captureAxis i) s

/-- An interval of 8 us ends for an encoder: overrate in the island (09 R592, 13 R377). -/
def islandRate (s : State) (i : Nat) : State :=
  let x := s.axis i
  if x.bound then s.setAxis i { x with err := x.err || decide (10 < x.steps), steps := 0 } else s

end State

end Sys2Proof.Machine
end

