-- ==== Sys2Proof/Machine/Link.lean ====
section
/-! DEFINITION. The ridge link (21 R539-R547, R549): its sides and errors, the stop lines of every origin, the frames it sends,
remote memory requests. -/
namespace Sys2Proof.Machine

namespace State

/-! ### Lines (21 R543, R544) -/

/-- The switch sets are open: the link is in use (21 R542). -/
def linkOn (s : State) : Bool :=
  match s.md.mode with
  | .off | .reset => false
  | .start => s.lnk.opened
  | _ => true

/-- The lines that an origin counts as asserting (21 R544). -/
def originLines (s : State) (d : Nat) : BitVec 16 :=
  if bit s.lnk.fresh d then look 0 s.lnk.lines d else if bit s.lnk.rorig d then 0xFFFF else 0

/-- The lines received, ORed over every origin (21 R544, R549 STOPRX). Log entry 74, DEDUCED. -/
def remoteLines (s : State) : BitVec 16 := (upFrom 8 0).foldl (fun m d => m ||| s.originLines d) 0

/-- The lines the device exports (21 R543). -/
def stopTx (s : State) : BitVec 16 := if s.md.mode = .run then s.zoneLines else 0xFFFF

/-- F178 reads Fault while an imported line is asserted (21 R544). -/
def noteRemote (s : State) : State := s.driveIf ((s.remoteLines &&& s.lnk.rimport) != 0) 178 s.remoteLines

/-! ### Sides and errors (21 R540-R542, R547) -/

def side (s : State) (ld : Bool) : SideSt := if ld then s.lnk.ld else s.lnk.lu

def setSide (s : State) (ld : Bool) (v : SideSt) : State :=
  { s with lnk := if ld then { s.lnk with ld := v } else { s.lnk with lu := v } }

/-- F176 with STAT.ERR (21 R547, R549). -/
def linkFault (s : State) (detail : Nat) : State :=
  ({ s with lnk := { s.lnk with err := true } }.setBits lnkB (flag 1 true)).drive 176 (det detail)

/-- A code or CRC error on a side (21 R540-R542, R547): counted; it ends a row of valid STOP frames, and more than 16 within 1 ms
raise F176. Log entry 133, DEDUCED. -/
def linkError (s : State) (ld : Bool) (e : LinkErr) : State :=
  let s := s.countUp (lnkB + if e = .code then 0x20 else 0x24)
  let v := s.side ld
  let errs := s.now :: v.errs.filter (fun t => decide (s.now < t + 200000))
  let s := s.setSide ld { v with errs := errs, run := 0 }
  if 16 < errs.length then s.linkFault 0 else s

/-- A frame that arrives: `none` when it is discarded, for an error or for the device's own ID as its origin (21 R540-R542).
Log entry 75, DEDUCED. -/
def linkTake (s : State) (ld : Bool) (e : LinkErr) (orig : Nat) : State × Bool :=
  if !s.linkOn then (s, false)
  else if e ≠ .none then (s.linkError ld e, false)
  else (s, orig != s.lnk.id)

/-! ### Frames -/

/-- The frames that a command sends. -/
def linkSend (s : State) (fs : List RidgeFrame) : State := { s with lnk := { s.lnk with sent := fs } }

/-- A frame to device d, out of the side on which d was last heard (log entry 31, DEDUCED). -/
def frameTo (s : State) (type d : Nat) (tag : BitVec 32) (payload : List Byte) : RidgeFrame :=
  { ld := bit s.lnk.sideLd d, type := type, orig := s.lnk.id, dest := d, tag := tag, payload := payload }

/-! ### Stop frames (21 R542-R544) -/

/-- A valid STOP frame of another device: its side counts it, its origin is heard, and it is relayed. -/
def stopArrives (s : State) (ld : Bool) (orig : Nat) (lines : BitVec 16) (refresh : Byte) : State :=
  let v := s.side ld
  let s := s.setSide ld { v with run := v.run + 1, up := v.up || decide (4 ≤ v.run + 1) }
  let k := s.lnk
  let s := { s with lnk := { k with present := putBit k.present orig true, fresh := putBit k.fresh orig true
                                    lines := put 0 k.lines orig lines, sideLd := putBit k.sideLd orig ld } }
  let relay : RidgeFrame := { ld := !ld, type := 1, orig := orig, dest := 0, tag := refresh.setWidth 32
                              payload := bytesOfNat 4 lines.toNat }
  (s.linkSend [relay]).noteRemote

/-- A STOP frame arrives (21 R542-R544). Log entry 142, DEDUCED. -/
def stopFrame (s : State) (ld : Bool) (e : LinkErr) (orig : Nat) (lines : BitVec 16) (refresh : Byte) : State :=
  let r := s.linkTake ld e orig
  if r.2 then r.1.stopArrives ld orig lines refresh
  else if s.linkOn ∧ e = .none then (r.1.setBits lnkB (flag 3 true)).linkFault 1
  else r.1

/-- The device's own STOP frame on both sides (21 R543). -/
def stopSend (s : State) : State :=
  let c := s.lnk.refresh + 1
  let f := fun (ld : Bool) => ({ ld := ld, type := 1, orig := s.lnk.id, dest := 0, tag := c.setWidth 32
                                 payload := bytesOfNat 4 s.stopTx.toNat } : RidgeFrame)
  { s with lnk := { s.lnk with refresh := c } }.linkSend [f false, f true]

/-! ### Time (21 R545) -/

/-- The offset of an exchange in half ticks of 5 ns. Log entry 78, DEDUCED. -/
def thetaHalf (t1 t2 t3 t4 : Stamp) : Int := ((t2.toNat : Int) - t1.toNat) - ((t4.toNat : Int) - t3.toNat)

/-- The PLL trim after an exchange, within 200 ppm: the control law is not in the spec (log entry 1, DESIGN CHOICE). -/
def newTrim (s : State) : BitVec 16 := BitVec.ofInt 16 (((Config.freeWord s.fresh).toNat % 4001 : Nat) - 2000 : Int)

/-- F177: alignment is lost (21 R545, R549). Log entry 76, DEDUCED. -/
def alignLost (s : State) : State :=
  ({ s with lnk := { s.lnk with lost := true, aligned := false, goodRun := 0, badRun := 0 } }.setBits lnkB (flag 2 true)).drive 177 0

/-- A completed exchange with the neighbour toward the reference: the first one in START steps the time base, every other one
trims the PLL; three within 20 ns set ALIGNED, and three above 50 ns lose it. -/
def exchange (s : State) (h : Int) : State :=
  let ns := (h * 5).tdiv 2
  let k := s.lnk
  let good := if ns.natAbs ≤ 20 then k.goodRun + 1 else 0
  let bad := if 50 < ns.natAbs then k.badRun + 1 else 0
  let step := !k.stepped && s.md.mode == .start && !s.chA.cycsetLock
  let up := decide (3 ≤ good)
  let s := { s with lnk := { k with theta := BitVec.ofInt 16 ns, goodRun := good, badRun := bad, stepped := k.stepped || step
                                    aligned := k.aligned || up, lost := k.lost && !up } }
  let s := if step then { s with tmr := { s.tmr with tb := s.tmr.tb + BitVec.ofInt 64 (h.tdiv 2) } }
    else { s with lnk := { s.lnk with trim := s.newTrim } }.drawn
  if s.lnk.aligned && decide (3 ≤ bad) then s.alignLost else s

/-- The device may be the one that takes over as reference: whether the device that has left was it, and whether no aligned device
has a lower ID, is for other devices to show (21 R545; log entry 32, DESIGN CHOICE). -/
def takesOver (s : State) : State :=
  if s.lnk.aligned && !s.lnk.reference then
    { s with lnk := { s.lnk with reference := bit (Config.freeWord s.fresh) 0 } }.drawn
  else s

/-- An origin has sent no valid STOP frame for 60 us (21 R542, R544, R545). -/
def originGone (s : State) (d : Nat) : State :=
  let k := s.lnk
  ({ s with lnk := { k with present := putBit k.present d false, fresh := putBit k.fresh d false } }.noteRemote).takesOver

/-! ### Remote memory (21 R546) -/

/-- Requests of this device to d that await a response. -/
def outstanding (s : State) (d : Nat) : Nat := (s.lnk.remote.filter (fun r => r.dest == d)).length

/-- The tags of a fabric master's allotment, each with a response buffer of its own (16 R414, R415). -/
def tagAllot (m : Nat) : Nat :=
  if m < 4 ∨ m = 7 then 32 else if m = 4 then 8 else if m = 8 then 64 else if m = 9 then 16 else 4

/-- The tags of a master that are outstanding between two commands: those of a core's posted stores and of the requests to other
devices. Every other request is answered within the command that makes it. Log entry 125, DEDUCED. -/
def tagsOut (s : State) (m : Nat) : Nat :=
  (if m < 4 then (s.core m).posted.length else 0) + (s.lnk.remote.filter (fun r => r.core == m)).length

/-- The master holds a free tag (16 R415). -/
def tagFree (s : State) (m : Nat) : Bool := decide (s.tagsOut m < tagAllot m)

/-- Requests to a present device beyond the four that may be outstanding wait (21 R546). Log entry 98, DEDUCED. -/
def remoteFull (s : State) (d : Nat) : Bool := decide (4 ≤ s.outstanding d)

/-- The status with which an access to another device ends at once, none where a request frame leaves (21 R546; 10 R301). -/
def remoteNow (s : State) (k d : Nat) : Option Nat :=
  if s.revoked k then some stError
  else if d = s.lnk.id then some stDecode
  else if !bit s.lnk.present d then some stError
  else none

/-- The device that an address of the remote window names. -/
def remoteDev (a : Word) : Nat := (a.toNat - 0x80000000) / 0x10000000

/-- A request frame leaves for device d: [27:0] offset, [31:28] 0 for a read or the bytes written; a write's data follow. Log entry
34, DEDUCED. -/
def remoteAsk (s : State) (d core : Nat) (a : Word) (data : List Byte) (isLoad : Bool) : State :=
  let tag := s.lnk.nextTag
  let k := s.lnk
  let f := s.frameTo 3 d tag (bytesOfNat 4 (a.toNat % 2 ^ 28 + 2 ^ 28 * data.length) ++ data)
  { s with lnk := { k with nextTag := tag + 1, remote := k.remote ++ [{ dest := d, tag := tag, core := core, addr := a, isLoad := isLoad }]
                           sent := [f] } }

/-- A request frame that leaves behind those that the same command has sent. -/
def remoteAlso (s : State) (d core : Nat) (a : Word) (data : List Byte) (isLoad : Bool) : State :=
  let t := s.remoteAsk d core a data isLoad
  { t with lnk := { t.lnk with sent := s.lnk.sent ++ t.lnk.sent } }

/-- What a command does that sends the frames of several requests, or none. -/
def sending (s : State) (f : State → State) : State :=
  let t := f { s with lnk := { s.lnk with sent := [] } }
  if t.lnk.sent.isEmpty then { t with lnk := { t.lnk with sent := s.lnk.sent } } else t

/-- An access of master m that leaves as a request to another device, and one that may leave now (21 R546; 16 R415). -/
def asksRemote (s : State) (m : Nat) (a : Word) : Bool :=
  decide (regionOf a.toNat = .remote) && (s.remoteNow m (remoteDev a)).isNone

def remoteOpen (s : State) (m : Nat) (a : Word) : Bool := !s.remoteFull (remoteDev a) && s.tagFree m

/-- The request that a response answers, and the others. -/
def takeRemote (d : Nat) (tag : BitVec 32) : List Remote → Option (Remote × List Remote)
  | [] => none
  | r :: rs =>
    if r.dest = d ∧ r.tag = tag then some (r, rs)
    else match takeRemote d tag rs with
      | some (x, l) => some (x, r :: l)
      | none => none

/-- The exposed region admits an origin's request (21 R546). Log entry 81, DEDUCED. -/
def exposes (s : State) (orig off : Nat) (write : Bool) : Bool :=
  let b := (s.reg (lnkB + 0x14)).toNat
  decide (b ≤ off) && decide (off < b + (s.reg (lnkB + 0x18)).toNat)
    && bit (s.reg (lnkB + 0x1C)) (orig + if write then 8 else 0)

/-! ### Registers (21 R549) -/

def lnkStat (s : State) : Word :=
  (s.reg lnkB &&& 0xF) ||| flag 4 s.lnk.aligned ||| flag 5 s.lnk.reference ||| flag 6 s.lnk.lu.up ||| flag 7 s.lnk.ld.up

def lnkId (s : State) : Word := at_ 0 3 s.lnk.id ||| at_ 8 8 s.lnk.present.toNat

def lnkOffset (s : State) : Word := s.lnk.theta.setWidth 32 ||| (s.lnk.trim.setWidth 32 <<< 16)

end State

end Sys2Proof.Machine
end

