-- ==== Sys2Proof/Machine/Sched.lean ====
section
/-! DEFINITION. The task scheduler and the governor's admission (04 R131-R136; 17 R448-R453): contexts, ready queues, grants,
dispatch and preemption. -/
namespace Sys2Proof.Machine

namespace State

def ctx (s : State) (x : Nat) : Ctx := look {} s.ctxs x
def setCtx (s : State) (x : Nat) (c : Ctx) : State := { s with ctxs := put {} s.ctxs x c }

/-- The ready queue of core k and class c (17 R453). -/
def readyNo (k c : Nat) : Nat := 64 + 4 * k + (c - 1)

def readyList (s : State) (k c : Nat) : List Nat := look [] s.ready (readyNo k c)
def setReady (s : State) (k c : Nat) (xs : List Nat) : State := { s with ready := put [] s.ready (readyNo k c) xs }

/-- The core of an affinity whose queue of class c holds the fewest entries, the lowest on a tie (17 R453). -/
def placeCore (s : State) (aff : BitVec 4) (c : Nat) : Nat → Nat → Nat → Nat
  | 0, _, best => best
  | f + 1, k, best =>
    if bit aff k && (!bit aff best || decide ((s.readyList k c).length < (s.readyList best c).length)) then
      placeCore s aff c f (k + 1) k
    else placeCore s aff c f (k + 1) best

/-- A context removed from every ready queue. -/
def unready (s : State) (x : Nat) : State :=
  { s with ready := s.ready.foldl (fun t e => put [] t e.1 (e.2.filter (· ≠ x))) s.ready }

/-- A context becomes READY at the tail of the queue 17 R453 chooses. -/
def enqueue (s : State) (x : Nat) : State :=
  let c := s.ctx x
  let k := s.placeCore c.affin c.cls.toNat 4 0 0
  (s.setReady k c.cls.toNat (s.readyList k c.cls.toNat ++ [x])).setCtx x { c with state := .ready, core := k }

/-- A context returns to the head of its ready queue (04 R136, 17 R450). -/
def requeueHead (s : State) (k x : Nat) : State :=
  let c := s.ctx x
  (s.setReady k c.cls.toNat (x :: s.readyList k c.cls.toNat)).setCtx x { c with state := .ready, core := k }

/-- The processor state of a core saved in its running context (04, context contents). -/
def saveCtx (s : State) (k x : Nat) : State :=
  let c := s.core k
  s.setCtx x { s.ctx x with g := c.g, pc := c.pc, st := c.st, rets := c.rets, loops := c.loops }

/-- A context loaded into a core, RUNNING. -/
def loadCtx (s : State) (k x : Nat) : State :=
  let c := s.ctx x
  (s.onCore k (fun p => { p with g := c.g, pc := c.pc, st := c.st, rets := c.rets, loops := c.loops, task := some x,
                                 run := .running, ifetch := none, killDue := false })).setCtx x { c with state := .running, core := k }

/-- Core k has no context to run. -/
def idleCore (s : State) (k : Nat) : State := s.onCore k (fun p => { p with task := none, run := .idle, ifetch := none, killDue := false })

/-- The estimate of a context's grant in nJ (17 R449): RATE of its energy class, in units of 5 mW, for QUANT us. -/
def taskCost (s : State) (e : Nat) : Int :=
  (fld (s.reg (govB + 0x14)) (8 * e) 8 * 5 * fld (s.reg (govB + 0x18)) 0 8 : Nat)

/-- The governor grants nothing in modes in which the cores do not run (17 R443). -/
def governs (s : State) : Bool :=
  match s.md.mode with
  | .idle | .commission | .run | .react | .quiet | .lockout | .service => true
  | _ => false

/-- The decision on a request (17 R449); one in the instant of a boundary is decided in the window that opens there (R444, R454). -/
def decideAsk (s : State) (w : Worker) (cls : Nat) (cost : Int) (forced : Bool) : Option State :=
  let g := s.gov
  let add : Gov → Bool → Gov := fun g r =>
    { g with grants := g.grants ++ [{ who := w, cls := cls, fromRes := r, cost := cost, forced := forced }] }
  if forced then some { s with gov := { add g false with left := g.left - cost, forced := true } }
  else if !s.governs || g.hot || s.boundaryDue then none
  else if cls = 1 ∧ cost ≤ g.res then some { s with gov := { add g true with res := g.res - cost } }
  else if cost ≤ g.left then some { s with gov := { add g false with left := g.left - cost } }
  else none

/-- A denied request waits; a core's is counted in DENYn, once per request (17 R450, R457). One in the instant of a boundary waits
undecided for the window that opens there. -/
def deny (s : State) (w : Worker) (cls : Nat) (cost : Int) : State :=
  let asks := s.gov.waiting.filter (fun a => a.who ≠ w) ++ [{ who := w, cls := cls, cost := cost }]
  let stands := s.gov.waiting.any (fun a => a.who == w && a.cls == cls)
  if s.boundaryDue then
    if stands then s else { s with gov := { s.gov with waiting := asks } }
  else if stands then { s with gov := { s.gov with denied := true } }
  else
    let s := { s with gov := { s.gov with denied := true, waiting := asks } }
    match w with
    | .core k => s.countUp (govB + 0x80 + 4 * k)
    | .job _ => s

def unwait (s : State) (w : Worker) : State :=
  { s with gov := { s.gov with waiting := s.gov.waiting.filter (fun a => a.who ≠ w) } }

/-- Hardware job n may run as work of class cls (17 R442, R449, R450): under the grant that it holds, else when its request is
granted; a denied one waits and is decided again at the next boundary or return of energy. Log entry 131, DESIGN CHOICE. -/
def admitJob (s : State) (n cls : Nat) (forced : Bool) : State × Bool :=
  if s.governs && s.gov.grants.any (fun g => g.who == .job n && !g.ended) then (s, true)
  else if !forced && s.gov.waiting.any (fun a => a.who == .job n && a.cls == cls) then (s, false)
  else
    match s.decideAsk (.job n) cls (Config.jobCost n) forced with
    | some t => (t.unwait (.job n), true)
    | none => (s.deny (.job n) cls (Config.jobCost n), false)

/-- Work of hardware job n that is done under its grant, and not at all without one. -/
def underGrant (s : State) (n cls : Nat) (f : State → State) : State :=
  let r := s.admitJob n cls false
  if r.2 then f r.1 else r.1

/-- A waiting request of hardware job n is decided again. -/
def redecideJob (s : State) (n : Nat) (a : Ask) : State :=
  match s.decideAsk (.job n) a.cls a.cost false with
  | some t => t.unwait (.job n)
  | none => s

/-- The context core k would dispatch from class c (17 R453): its own oldest, else the oldest of another core's queue that its
affinity admits. -/
def candidate (s : State) (k c : Nat) : Option Nat :=
  match s.readyList k c with
  | x :: _ => some x
  | [] => (upFrom 4 0).findSome? (fun j => (s.readyList j c).find? (fun x => bit (s.ctx x).affin k))

/-- The context core k would dispatch: from its highest non-empty class. -/
def best (s : State) (k : Nat) : Option Nat := [1, 2, 3, 4].findSome? (fun c => s.candidate k c)

/-- Dispatch on a core without a context (17 R453): admission first; a denied request leaves the core stopped. -/
def dispatch (s : State) (k : Nat) : State :=
  match s.best k with
  | none => s.unwait (.core k)
  | some x =>
    let c := s.ctx x
    let cost := s.taskCost c.energy.toNat
    match s.decideAsk (.core k) c.cls.toNat cost false with
    | some t => ((t.unwait (.core k)).unready x).loadCtx k x
    | none => s.deny (.core k) c.cls.toNat cost

/-- A core that idles without a context. -/
def idles (s : State) (k : Nat) : Bool := (s.core k).run == .idle && (s.core k).task.isNone

/-- Every idle core dispatches, lowest number first (17 R454). -/
def dispatchIdle (s : State) : State :=
  (upFrom 4 0).foldl (fun s k => if s.idles k then s.dispatch k else s) s

/-- The ready context of a higher class than the one core k runs that would preempt it (04 R136). -/
def higher (s : State) (k : Nat) : Option Nat :=
  match (s.core k).task, s.best k with
  | some y, some x => if (s.ctx x).cls.toNat < (s.ctx y).cls.toNat then some x else none
  | _, _ => none

/-- Preemption of core k at an instruction boundary (04 R136; 17 R450, R453): after its admission, and never while st.EXC is 1; a
denied one waits and leaves the running context in place. -/
def preempt (s : State) (k : Nat) : State :=
  let p := s.core k
  match p.task, s.higher k with
  | some y, some x =>
    let c := s.ctx x
    if p.st.exc || p.run != .running then s
    else
      let cost := s.taskCost c.energy.toNat
      match (s.endGrant (.core k)).decideAsk (.core k) c.cls.toNat cost false with
      | none => s.deny (.core k) c.cls.toNat cost
      | some t => ((((t.unwait (.core k)).saveCtx k y).unready x).requeueHead k y).loadCtx k x
  | _, _ => s

/-- Idle cores dispatch, and each core is preempted by a ready context of a higher class (04 R136). -/
def settleOnce (s : State) : State := (upFrom 4 0).foldl (fun s k => s.preempt k) s.dispatchIdle

/-- A context has become READY: a context that it displaces may displace another of a lower class, down through the four classes
(04 R136). -/
def settleReady (s : State) : State := (upFrom 4 0).foldl (fun s _ => s.settleOnce) s

def makeReady (s : State) (x : Nat) : State := (s.enqueue x).settleReady

/-- The running context leaves core k, which dispatches the next (04 R133, R135). -/
def switchOut (s : State) (k : Nat) : State := (s.endGrant (.core k)).idleCore k

/-- A core about to run its context without a grant in force asks for one; denied, it stops and the context goes back to the head
of its ready queue (17 R449, R450). -/
def regrant (s : State) (k : Nat) : State :=
  match (s.core k).task with
  | none => s
  | some x =>
    if (s.core k).run ≠ .running ∨ s.gov.grants.any (fun g => g.who == .core k && !g.ended) then s
    else
      let c := s.ctx x
      let cost := s.taskCost c.energy.toNat
      match s.decideAsk (.core k) c.cls.toNat cost false with
      | some t => t.unwait (.core k)
      | none => (((s.saveCtx k x).requeueHead k x).idleCore k).deny (.core k) c.cls.toNat cost

/-- Core k is at an instruction boundary again: its context goes on if it is granted, unless a higher one preempts it (04 R136;
17 R450). -/
def goesOn (s : State) (k : Nat) : State := (s.regrant k).preempt k

/-- A halted core goes on with what it was doing (21 R537, R538). -/
def resumeCore (s : State) (k : Nat) : State :=
  match (s.core k).run with
  | .halted r =>
    let t := (s.onCore k (fun c => { c with run := r })).goesOn k
    if t.idles k then t.dispatch k else t
  | _ => s

/-- A waiting request of core k is decided again: the dispatch of an idle core, or the preemption of a running one. -/
def redecideCore (s : State) (k : Nat) : State :=
  if s.idles k then s.dispatch k
  else if (s.higher k).isSome then s.preempt k
  else s.unwait (.core k)

/-- Waiting requests are decided again: class 1 first, oldest first within a class (17 R450). -/
def redecide (s : State) : State :=
  let ws := [1, 2, 3, 4].flatMap (fun c => s.gov.waiting.filter (fun a => a.cls == c))
  ws.foldl (fun s a => match a.who with | .core k => s.redecideCore k | .job n => s.redecideJob n a) s

/-! ### Leaving a context (04 R133, R135) -/

/-- Core k dispatches its next context unless it is halted (04 R135; 21 R537). -/
def dispatchNext (s : State) (k : Nat) : State := if s.idles k then s.dispatch k else s

/-- Core k leaves its context, which has been stored or freed, and dispatches the next. -/
def leaveCtx (s : State) (k : Nat) : State := (s.switchOut k).dispatchNext k

/-- The responses of its posted stores that core j awaits are abandoned: requests to other devices end with no core to answer
(04 R135). -/
def abandon (s : State) (j : Nat) : State :=
  let f := fun (r : Remote) => if r.core = j ∧ !r.isLoad then { r with core := 15 } else r
  { s with lnk := { s.lnk with remote := s.lnk.remote.map f } }.onCore j (fun c => { c with posted := [], due := [] })

/-- Core j stops its context, which is freed, and dispatches its next (04 R135): the responses of posted stores are abandoned. A
halted core stays halted (21 R537), a stopped one stopped (R129). -/
def killNow (s : State) (j : Nat) : State :=
  let c := s.core j
  let s := ((match c.task with | some x => s.setCtx x {} | none => s).abandon j).onCore j (fun c => { c with killDue := false })
  match c.run with
  | .halted _ => (s.switchOut j).onCore j (fun c => { c with run := .halted .idle })
  | .stopped => (s.switchOut j).onCore j (fun c => { c with run := .stopped })
  | _ => s.leaveCtx j

/-- TKILL of the context that core j runs (04 R135): at once at an instruction boundary, else at the end of the load it waits for. -/
def killOn (s : State) (j : Nat) : State :=
  match (s.core j).run with
  | .waitRemote _ _ => s.onCore j (fun c => { c with killDue := true })
  | _ => s.killNow j

end State

end Sys2Proof.Machine
end

