-- ==== Sys2Proof/Machine/Bst.lean ====
section
/-! DEFINITION. Built-in self-test (18): debts, the slice of a cycle, its end, results, and the rotation of the inputs' spare
comparators as far as the slices drive it (07 R215-R219). -/
namespace Sys2Proof.Machine

/-- Slices per pass of the sequences (18 R461). -/
def seqLen (n : Nat) : Nat := [192, 72, 16, 8, 2, 8, 16, 16, 128, 4, 4].getD n 1

/-- The source a confirmed failure of an item raises (18 R461). -/
def seqSource (n item : Nat) : Nat :=
  match n with
  | 1 => 60 + item
  | 2 => 40
  | 9 => 102
  | 10 => 114 + item
  | _ => 145

namespace State

def seq (s : State) (n : Nat) : SeqSt := look {} s.bst.seqs n
def setSeq (s : State) (n : Nat) (v : SeqSt) : State := { s with bst := { s.bst with seqs := put {} s.bst.seqs n v } }

def tp (s : State) (k : Nat) : TpSt := look {} s.inputs.tps k
def setTp (s : State) (k : Nat) (v : TpSt) : State := { s with inputs := { s.inputs with tps := put {} s.inputs.tps k v } }
def out (s : State) (k : Nat) : OutSt := look {} s.outputs.outs k
def setOut (s : State) (k : Nat) (v : OutSt) : State := { s with outputs := { s.outputs with outs := put {} s.outputs.outs k v } }

/-- DTI in ticks (18 R470). -/
def dtiTicks (s : State) : Nat := fld (s.reg (bstB + 4)) 0 16 * 200000

/-- Time since a sequence's last completion (18 R463). -/
def sinceDone (s : State) (n : Nat) : Nat := s.now - (s.seq n).doneAt

/-- BST.STAT as read (18 R477). -/
def bstStat (s : State) : Word := (s.reg bstB &&& 0xF) ||| flag 4 s.bst.active.isSome ||| flag 5 s.bst.fullRun

/-- BST.SEQn (18 R479). -/
def seqReg (s : State) (n : Nat) : Word :=
  let v := s.seq n
  at_ 0 8 (min 255 (s.sinceDone n * 128 / max 1 s.dtiTicks)) ||| at_ 8 8 v.step ||| flag 16 v.failed ||| flag 17 v.overdue
    ||| at_ 20 12 v.passes

/-- A result entry of 32 bytes (18 R475). -/
def bstEntry (s : State) (seq step kind item : Nat) (meas low high : Word) : List Byte :=
  bytesOfNat 8 s.now ++ bytesOfNat 4 (seq + 256 * step + 65536 * kind + 16777216 * item) ++ bytesOfWord meas
    ++ bytesOfWord low ++ bytesOfWord high ++ bytesOfNat 4 (s.seq seq).passes ++ bytesOfNat 4 0

/-- A pass of sequence n completes (18 R463, R475). -/
def passDone (s : State) (n : Nat) : State :=
  let v := s.seq n
  let s := s.setSeq n { v with step := 0, passes := v.passes + 1, doneAt := s.now, overdue := false }
  if bit (s.reg (bstB + 8)) 7 then (s.qPush 102 (s.bstEntry n (seqLen n - 1) 1 0 0 0 0)).1 else s

/-- The next step of a sequence, or the end of its pass. -/
def stepOn (s : State) (n : Nat) : State :=
  let v := s.seq n
  if seqLen n ≤ v.step + 1 then s.passDone n else s.setSeq n { v with step := v.step + 1 }

/-- Completion of every sequence by the power-on run or the full run (18 R463, R474). -/
def allDone (s : State) : State :=
  (upFrom 11 0).foldl (fun (s : State) n => s.setSeq n { s.seq n with doneAt := s.now, overdue := false }) s

/-! ### The rotation of the spare (07 R215-R219) -/

/-- The rotation goes to the next input (07 R218); INCMP goes on at that input's own test. -/
def nextInput (s : State) : State :=
  let i := s.inputs.spareIn
  let last := decide (31 ≤ i)
  let p := s.inputs
  let s := { s with inputs := { p with spareIn := if last then 0 else i + 1, sparePh := .own, spareB := false, spareBad := 0,
                                       rounds := if last then p.rounds + 1 else p.rounds } }
  if last then s.passDone 0 else s.setSeq 0 { s.seq 0 with step := 6 * (i + 1) }

/-- The comparator or spare that a step of INCMP tests fails (07 R217). -/
def cmpFail (s : State) (i part : Nat) : State :=
  let v := s.inp i
  let v := match part with
    | 0 => { v with cmps := true }
    | 1 => { v with a := { v.a with cmp := true } }
    | _ => { v with b := { v.b with cmp := true } }
  (s.setInp i v).drive (36 + i / 8) (det i)

/-- The limiter current of an input, in uA, measured once in a round (07 R219): out of range in two consecutive rounds it sets
ILIM. -/
def limiterSeen (s : State) (i : Nat) (cur : Option (BitVec 16)) : State :=
  let q := s.inputs.rounds
  let v := s.inp i
  match cur with
  | none => s
  | some c =>
    if v.ilimAt = some q then s
    else
      let bad := decide (c.toNat < 2200) || decide (2800 < c.toNat)
      let fails := bad && v.ilimBad && v.ilimAt == some (q - 1)
      let s := s.setInp i { v with ilimAt := some q, ilimBad := bad, ilim := v.ilim || fails }
      s.driveIf fails (36 + i / 8) (det i)

/-- The band of a comparator's switch points in mV, lower and upper limit (07 R211). -/
def cmpBand (type1 rising : Bool) : Int × Int :=
  match type1, rising with
  | false, true => (7000, 10500)
  | false, false => (6000, 9500)
  | true, true => (11000, 14500)
  | true, false => (10000, 13500)

/-- The band of INCMP's present step: two steps for the spare, comparator A and comparator B of each input, rising and then falling,
by the ITYPE of the table of the channel that the comparator serves, the spare's in its own test by the parameter image's (07 R211,
R217). Log entry 124, DEDUCED. -/
def incmpBand (s : State) : Int × Int :=
  let st := (s.seq 0).step
  cmpBand (s.inType1 (st % 6 / 2 != 1) (st / 6)) (st % 2 == 0)

/-- The comparator under test fails (07 R217): a switch point outside its band, or hysteresis below 0.5 V. -/
def incmpFails (s : State) (meas : Word) : Bool :=
  let v := meas.toInt
  let b := s.incmpBand
  decide (v < b.1) || decide (b.2 < v) || ((s.seq 0).step % 2 == 1 && decide (s.inputs.riseMv - v < 500))

/-- The end of an INCMP slice: its verdict, then the rotation (07 R215, R217, R218). A failed spare serves nothing, so the rotation
leaves its input. -/
def incmpEnd (s : State) (r : SliceResult) : State :=
  let st := (s.seq 0).step
  let i := st / 6
  let part := st % 6 / 2
  let fails := s.incmpFails r.meas
  let b := s.incmpBand
  let s := if fails then
      let v := s.seq 0
      (((s.qPush 103 (s.bstEntry 0 st 3 i r.meas (BitVec.ofInt 32 b.1) (BitVec.ofInt 32 b.2))).1.setSeq 0 { v with failed := true })).setBits
        bstB (flag 1 true)
    else s
  let s := s.limiterSeen i r.limiter
  let s := if fails then s.cmpFail i part else s
  if st % 2 = 0 then { (s.setSeq 0 { s.seq 0 with step := st + 1 }) with inputs := { s.inputs with riseMv := r.meas.toInt } }
  else if part = 0 then
    if (s.inp i).cmps then s.nextInput
    else { (s.setSeq 0 { s.seq 0 with step := st + 1 }) with inputs := { s.inputs with sparePh := .connect, spareB := false } }
  else if part = 1 then { (s.setSeq 0 { s.seq 0 with step := st + 1 }) with inputs := { s.inputs with sparePh := .reconnect } }
  else { s with inputs := { s.inputs with sparePh := .reconnect } }

/-- INCMP can run its next step in this cycle: not while a hand-over or hand-back runs (18 R465). -/
def incmpReady (s : State) : Bool :=
  let part := (s.seq 0).step % 6 / 2
  match s.inputs.sparePh with
  | .own => part == 0
  | .standIn => (part == 1 && !s.inputs.spareB) || (part == 2 && s.inputs.spareB)
  | _ => false

/-! ### Slices (18 R464-R471) -/

/-- A step that yields (18 R466). -/
def yields (s : State) (n : Nat) : Bool :=
  let st := (s.seq n).step
  match n with
  | 1 => let o := s.out (st / 6); o.test != .none || (o.chg != 0 && decide (s.now < o.chg + 200000))
  | 2 => (s.tp (st / 2)).pulsing
  | 3 => (s.seq 3).confirmed.contains (st ^^^ 1)
  | 5 => s.md.mode == .run && decide (s.col.strobeAt ≤ s.md.runAt)
  | _ => false

/-- The sequences in order of debt, highest first, the lower number on a tie (18 R465). -/
def byDebt (s : State) : List Nat := (upFrom 11 0).mergeSort (fun a b => decide (s.sinceDone b ≤ s.sinceDone a))

/-- The first cause that defers a slice, in the order of DEFCNT's fields (18 R471, R476). -/
def deferCause (s : State) (e : SliceEnv) : Option Nat :=
  if e.vlBad then some 0
  else if e.railBad then some 8
  else if fld (s.reg (sioB + 0xC)) 0 16 < 1200 ∨ fld (s.reg (sioB + 0x10)) 0 16 < 200 then some 16
  else if e.hot then some 24
  else none

/-- Slices run in these modes (18 R469). -/
def slices (s : State) : Bool :=
  match s.md.mode with
  | .idle | .commission | .run | .react | .quiet | .lockout | .service => !s.bst.fullRun
  | _ => false

/-- The admission of a slice of a sequence (17 R455): its class, and whether it is forced. -/
def sliceClass (s : State) (n : Nat) : Nat × Bool :=
  let d := s.sinceDone n
  let i := s.dtiTicks
  if 10 * d < 5 * i then (4, false) else if 10 * d < 9 * i then (1, false) else (1, true)

/-- A slice of sequence n starts, if it is admitted (17 R455, 18 R465). -/
def startSlice (s : State) (n : Nat) : State :=
  let c := s.sliceClass n
  let r := s.admitJob 0 c.1 c.2
  if r.2 then { (r.1.countUp (bstB + 0x14)) with bst := { r.1.bst with active := some n, deferred := false, used := true } } else r.1

/-- The slice of a cycle (18 R465, R466): the sequences in order of debt; one that cannot run leaves the slice to the next, and
a yield is counted. -/
def pickSlice (e : SliceEnv) : List Nat → State → State
  | [], s => s
  | n :: ns, s =>
    if n = 0 ∧ !s.incmpReady then pickSlice e ns s
    else if s.yields n then pickSlice e ns (s.countUp (bstB + 0x18))
    else
      match s.deferCause e with
      | some lo =>
        { ((s.satUp (bstB + 0x10) lo 8).setBits bstB (flag 2 true)).drive 146 0 with
          bst := { s.bst with used := true, deferred := true } }
      | none => s.startSlice n

/-- A failed or passed step of a sequence other than INCMP (18 R462). -/
def stepEnd (s : State) (n : Nat) (r : SliceResult) : State :=
  let v := s.seq n
  let item := r.item.toNat
  if !(r.failed || r.disagreed) then (s.setSeq n { v with retry := none }).stepOn n
  else if v.confirmed.contains item then (s.setSeq n { v with retry := none }).stepOn n
  else if v.retry = some (v.step, r.item) then
    let s := (s.qPush 103 (s.bstEntry n v.step 3 item r.meas r.low r.high)).1
    let s := s.setSeq n { v with retry := none, confirmed := item :: v.confirmed, failed := true }
    let s := if n = 9 then s.phyBad item else s
    ((s.setBits bstB (flag 1 true)).drive (seqSource n item) (det item)).stepOn n
  else (s.qPush 103 (s.bstEntry n v.step 2 item r.meas r.low r.high)).1.setSeq n { v with retry := some (v.step, r.item) }

end State

/-- SELF_TEST_SLICE (18 R464-R471): at most one slice a cycle. -/
def execSelfTestSlice (e : SliceEnv) (s : State) : Out := .next <|
  if !s.slices ∨ s.bst.active.isSome ∨ s.bst.used then s else State.pickSlice e s.byDebt s

/-- SLICE_END (18 R462, R468). -/
def execSliceEnd (r : SliceResult) (s : State) : Out := .next <|
  match s.bst.active with
  | none => s
  | some n =>
    let s := { s with bst := { s.bst with active := none } }.endGrant (.job 0)
    if n = 0 then s.incmpEnd r else s.stepEnd n r

/-- DEBT_EXPIRE (18 R463): the debt of a sequence reaches 1.0. -/
def execDebtExpire (n : Fin 11) (s : State) : Out := .next <|
  if (s.seq n).overdue ∨ !s.tmr.lock then s
  else
    let s := s.advanceTo ((s.seq n).doneAt + s.dtiTicks)
    let s := s.setSeq n { s.seq n with overdue := true }
    let s := (s.qPush 103 (s.bstEntry n (s.seq n).step 4 0 0 0 0)).1
    (s.setBits bstB (flag 3 true)).drive 144 (det n)

end Sys2Proof.Machine
end

