-- ==== Sys2Proof/Machine/Gio.lean ====
section
/-! DEFINITION. The general I/O bank (15): outputs with their safe pattern and common fault bit, input changes and counters,
the output watchdog. -/
namespace Sys2Proof.Machine

namespace State

/-- GIO.STAT as read (15 R412). -/
def gioStat (s : State) : Word :=
  (s.reg gioB &&& 0x23) ||| flag 2 s.gioFault ||| flag 3 s.gio.wdexp ||| flag 4 s.gioVgLow

/-- The watchdog time in ticks (15 R412): values above 1000 ms act as 1000. -/
def gioTime (s : State) : Nat := min (fld (s.reg (gioB + 0x18)) 0 10) 1000 * 200000

/-- The level a claimed TP pin drives (15 R411). -/
def tpDrive (s : State) (k : Nat) : Bool :=
  bit (s.reg (gioB + 0x20)) k && s.md.mode.follows && !s.gio.wdexp && !bit s.gio.tpTrip k && bit (s.reg (gioB + 0x24)) k

/-- A write of WDKICK (15 R408): a valid kick inside the window, or with none open, opens a new one; a kick after the window
or while WDEXP is set opens none. -/
def gioKick (s : State) (v : Word) : State × Nat :=
  if fld v 0 16 ≠ 0xA55A then (s, stIgnored)
  else if s.gioTime = 0 ∨ !s.md.mode.follows ∨ s.gio.wdexp then (s, stOk)
  else match s.gio.wdAt with
    | some t => if s.now < t + s.gioTime then ({ s with gio := { s.gio with wdAt := some s.now } }, stOk) else (s, stOk)
    | none => ({ s with gio := { s.gio with wdAt := some s.now } }, stOk)

/-- Software clears WDEXP (15 R409): the pattern ends and a new window opens. -/
def gioClearWd (s : State) : State :=
  if !s.gio.wdexp then s
  else
    { s with gio := { s.gio with wdexp := false
                                 wdAt := if s.gioTime = 0 ∨ !s.md.mode.follows then none else some s.now } }.gioNote

/-- What a commit of CG2 does (15 R405, R407, R410, R412): configuration errors, pins that are no longer used, counters with a
pending load. -/
def gioApply (s : State) (wrote : Nat → Bool) : State :=
  let bad := (upFrom 16 0).any (fun n => fld (s.reg (gioB + 0x40 + 4 * n)) 0 2 == 3)
  let s := if bad || decide (1000 < fld (s.reg (gioB + 0x18)) 0 10) then s.setBits gioB (flag 5 true) else s
  let s := (upFrom 16 0).foldl (fun s n =>
    if wrote (0x140 + 4 * n) then s.setReg (gioB + 0x100 + 4 * n) (s.reg (gioB + 0x140 + 4 * n)) else s) s
  let keep : BitVec 16 := BitVec.ofNat 16 (ofBits 16 (fun n => s.gioPin n != 0) 16)
  let drv : BitVec 16 := BitVec.ofNat 16 (ofBits 16 (fun n => s.gioPin n == 2) 16)
  let tp : BitVec 8 := BitVec.ofNat 8 (fld (s.reg (gioB + 0x20)) 0 8)
  let g := { s.gio with lv := s.gio.lv &&& keep, trip := s.gio.trip &&& drv, hot := s.gio.hot &&& drv,
                        mism := s.gio.mism &&& drv, tpTrip := s.gio.tpTrip &&& tp }
  let s := { s with gio := if s.gioTime = 0 then { g with wdAt := none } else g }
  s.gioNote

/-- Interrupt 48 stands (15 R407). -/
def gioIrq (s : State) : Bool :=
  let ctl := s.reg (gioB + 4)
  (bit ctl 4 && bit (s.reg gioB) 1) || (bit ctl 5 && s.gio.wdexp)
    || (upFrom 16 0).any (fun n => bit (s.reg (gioB + 0x28)) n && bit (s.reg (gioB + 0x40 + 4 * n)) 6)

end State

/-- The filter of a pin in samples of 1 us (15 R406). -/
def State.gioFilt (s : State) (n : Nat) : Nat :=
  match fld (s.reg (gioB + 0x40 + 4 * n)) 2 2 with
  | 0 => 10
  | 1 => 100
  | 2 => 1000
  | _ => 10000

/-- GIO_INPUT_CHANGE (15 R406, R410): a used pin shows a new level; held for the full filter time, in samples of 1 us, it passes,
and the edge that CEDGE selects counts. -/
def execGioInputChange (n : Fin 16) (x : HeldLevel) (s : State) : Out :=
  .next <|
    if s.gioPin n = 0 ∨ bit s.gio.lv n = x.level ∨ x.held.toNat < s.gioFilt n then s
    else
      let t := { s with gio := { s.gio with lv := putBit s.gio.lv n x.level } }.gioNote
      let edge := fld (s.reg (gioB + 0x40 + 4 * n)) 4 2
      if (if x.level then edge.testBit 0 else edge.testBit 1) then
        (t.countUp (gioB + 0x100 + 4 * n)).setBits (gioB + 0x28) (flag n true)
      else t

/-- GIO_CURRENT_LIMIT_TRIP (15 R407): the driver of an output, or of a claimed TP pin, turns off. -/
def execGioCurrentLimitTrip (tp : Bool) (n : Fin 16) (s : State) : Out :=
  .next <|
    if tp then
      if n.val < 8 ∧ s.tpDrive n then
        { s with gio := { s.gio with tpTrip := putBit s.gio.tpTrip n true, tripAt := put 0 s.gio.tripAt (16 + n) s.now } }.gioNote
      else s
    else if s.gioOn n then
      { s with gio := { s.gio with trip := putBit s.gio.trip n true, tripAt := put 0 s.gio.tripAt n s.now } }.gioNote
    else s

/-- GIO_DRIVER_RESTORE (15 R407): 100 ms after its trip the driver is driven again. -/
def execGioDriverRestore (tp : Bool) (n : Fin 16) (s : State) : Out :=
  .next <|
    let i := if tp then 16 + n.val else n.val
    if !(if tp then decide (n.val < 8) && bit s.gio.tpTrip n else bit s.gio.trip n) then s
    else
      let t := s.advanceTo (look 0 s.gio.tripAt i + 20000000)
      (if tp then { t with gio := { t.gio with tpTrip := putBit t.gio.tpTrip n false } }
      else { t with gio := { t.gio with trip := putBit t.gio.trip n false } }).gioNote

/-- GIO_READBACK_MISMATCH (15 R407): what an output reads back has differed from what it is driven to for 2 ms after the filter time,
or agrees again. -/
def execGioReadbackMismatch (n : Fin 16) (bad : Bool) (s : State) : Out :=
  .next { s with gio := { s.gio with mism := putBit s.gio.mism n bad } }.gioNote

/-- GIO_OVERTEMP (15 R407): driver off until below 140 C. -/
def execGioOvertemp (n : Fin 16) (hot : Bool) (s : State) : Out :=
  .next <|
    if s.gioPin n = 2 then { s with gio := { s.gio with hot := putBit s.gio.hot n hot } }.gioNote else s

/-- VG_LOW (15 R407). -/
def execVgLow (low : Bool) (s : State) : Out := .next { s with gio := { s.gio with vgLow := low } }.gioNote

/-- WDKICK (15 R408): master m writes GIO.WDKICK. -/
def execWdkick (m : Fin 10) (v : Word) (s : State) : Out :=
  .next <| if s.revoked m then s.answer stError [] else let r := s.gioKick v; r.1.answer r.2 []

/-- GIO_WATCHDOG_EXPIRE (15 R408): no kick fell in the window. -/
def execGioWatchdogExpire (s : State) : Out :=
  .next <|
    match s.gio.wdAt with
    | none => s
    | some t =>
      if s.gioTime = 0 then s
      else
        let s := s.advanceTo (t + s.gioTime)
        ({ s with gio := { s.gio with wdexp := true, wdAt := none } }.drive 119 0).gioNote

/-- GIO_WATCHDOG_CLEAR (15 R409): master m writes 1 to STAT.WDEXP. -/
def execGioWatchdogClear (m : Fin 10) (s : State) : Out :=
  .next <| if s.revoked m then s.answer stError [] else s.gioClearWd.answer stOk []

end Sys2Proof.Machine
end

