-- ==== Sys2Proof/Machine/Inputs.lean ====
section
/-! DEFINITION. Safety inputs and test pulses (07): the input tables of both channels, the filter of R221, INOK, the rotating
spare at a strobe, the pulse schedule and what a pulse shows, overloads of a test-pulse source, and the diagnostic words. -/
namespace Sys2Proof.Machine

namespace State

/-! ### The pulse schedule (07 R227, R228) -/

/-- T_cyc in us of a code (01 R21). -/
def tcycUs (code : Nat) : Nat := 125 * 2 ^ code

/-- Fc, the frame in cycles (07 R228). -/
def tpFrame (s : State) (chB : Bool) : Nat := s.tpPmin chB * 1000 / tcycUs s.md.tcyc

/-- PCNT of the present cycle: the first strobe after the load opens cycle 0. -/
def pcntNow (s : State) (chB : Bool) : Nat := (if chB then s.inputs.pcntB else s.inputs.pcntA) - 1

/-- Source k pulses in cycle `c` by the table of a channel's image (07 R228). -/
def tpSlot (s : State) (chB : Bool) (c k : Nat) : Bool :=
  let fc := s.tpFrame chB
  s.tpNamed chB k && decide (8 ≤ fc) && c % (max 1 (s.tpPeriod chB k / max 1 (s.tpPmin chB)) * fc) == k * (fc / 8)

/-- Source k pulses in the present cycle by a channel's own schedule (07 R228). -/
def tpFires (s : State) (chB : Bool) (k : Nat) : Bool := s.tpSlot chB (s.pcntNow chB) k

/-- The test-pulse unit, which has the table of the parameter image and channel A's PCNT, fires source k (07 R224, R228). -/
def unitFires (s : State) (k : Nat) : Bool := s.tpSlot true (s.pcntNow false) k

/-- The modes in which a named pin drives high with its pulses (07 R227). -/
def tpModes (s : State) : Bool :=
  match s.md.mode with
  | .commission | .run | .react | .quiet | .lockout => true
  | _ => false

/-- The unit drives the pin high (07 R227, R230, R234). -/
def tpHigh (s : State) (k : Nat) : Bool :=
  s.tpNamed true k && s.tpModes && !(s.tp k).pulsing && !(s.tp k).retryLow

/-! ### Filters (07 R221) -/

/-- One sample of R221 with F samples; `on` is the comparator's output. -/
def filtStep (f : Nat) (c : Filt) (on : Bool) : Filt :=
  if c.out then
    let c := if !on then { c with acc := c.acc + 1, run := 0 }
      else { c with run := c.run + 1, acc := if f ≤ c.run + 1 then 0 else c.acc }
    if f ≤ c.acc then { out := false, acc := 0, run := 0 } else c
  else if on then
    if f ≤ c.run + 1 then { c with out := true, run := 0 } else { c with run := c.run + 1 }
  else { c with run := 0 }

/-- What a channel knows of an input. -/
def inChan (s : State) (chB : Bool) (n : Nat) : InChan := if chB then (s.inp n).b else (s.inp n).a

def setInChan (s : State) (chB : Bool) (n : Nat) (c : InChan) : State :=
  s.setInp n (if chB then { s.inp n with b := c } else { s.inp n with a := c })

/-- The spare serves this input in this channel (07 R215). -/
def spareAt (s : State) (chB : Bool) (n : Nat) : Bool := s.inputs.spareIn == n && s.inputs.spareB == chB

/-- The spare is connected to the pad and to the served channel; the comparator under test is not (07 R215 steps 1 to 7). -/
def spareOn (s : State) : Bool := match s.inputs.sparePh with | .own | .connect => false | _ => true
def cmpOff (s : State) : Bool := match s.inputs.sparePh with | .standIn | .reconnect => true | _ => false

/-- The image of the served channel is taken from the spare (07 R215 steps 3 to 7). -/
def standsIn (s : State) : Bool := match s.inputs.sparePh with | .standIn | .reconnect | .handBack _ => true | _ => false

/-- Samples of an input's comparator in a channel and of the spare that serves it there, one a microsecond each; a masked input holds
its filters, and a comparator under test feeds none (07 R215, R221). -/
def feedInput (s : State) (chB : Bool) (n : Nat) (xs : InSamples) : State :=
  let c := s.inChan chB n
  if c.mask then s
  else
    let run := fun (f : Filt) (ys : List Bool) => ys.foldl (filtStep (s.inFilt chB n - 2)) f
    let here := s.spareAt chB n
    let t := if here && s.cmpOff then s else s.setInChan chB n { c with filt := run c.filt xs.own }
    if here && s.spareOn then { t with inputs := { t.inputs with spareFilt := run t.inputs.spareFilt xs.spare } } else t

/-! ### INOK and the strobe (07 R213, R215, R216, R225) -/

/-- INOK n in a channel (07 R225). -/
def inokOf (s : State) (chB : Bool) (n : Nat) : Bool :=
  let v := s.inp n
  let c := s.inChan chB n
  let src := match s.inSrc chB n with | some k => (s.tp k).ovl || (s.tp k).stuck | none => false
  !s.inUsed chB n || !(c.pmiss || c.forn || src || c.cmp || v.cmps || v.ilim || v.wiring)

/-- A comparison of the spare with the comparator it serves disagrees; at two strobes in a row both are failed and the connections
stand (07 R216). Log entry 9, DEDUCED. -/
def spareBad (s : State) (next : SparePh) : State :=
  let i := s.inputs.spareIn
  let p := s.inputs
  if 1 ≤ p.spareBad then (s.cmpFail i 0).cmpFail i (if p.spareB then 2 else 1)
  else { s with inputs := { p with sparePh := next, spareBad := 1 } }

def setSpare (s : State) (p : SparePh) : State := { s with inputs := { s.inputs with sparePh := p, spareBad := 0 } }

/-- The filters of the spare and of the comparator it serves agree. -/
def spareAgrees (s : State) : Bool := s.inputs.spareFilt.out == (s.inChan s.inputs.spareB s.inputs.spareIn).filt.out

/-- The rotating spare at a strobe of the channel it serves (07 R215, R216, R218): the loads of steps 1 and 6, the comparisons of
steps 2 and 7, hand-over and hand-back from the second comparison on. -/
def spareStrobe (s : State) (chB : Bool) : State :=
  let i := s.inputs.spareIn
  if s.inputs.spareB ≠ chB ∨ (s.inp i).cmps then s
  else
    let agree := s.spareAgrees
    let c := s.inChan chB i
    match s.inputs.sparePh with
    | .own | .standIn => s
    | .connect => ({ s with inputs := { s.inputs with spareFilt := c.filt } }).setSpare (.shadow 0)
    | .reconnect => (s.setInChan chB i { c with filt := s.inputs.spareFilt }).setSpare (.handBack 0)
    | .shadow n => if !agree then s.spareBad (.shadow (n + 1)) else s.setSpare (if 1 ≤ n then .standIn else .shadow (n + 1))
    | .handBack n =>
      if !agree then s.spareBad (.handBack (n + 1))
      else if n < 1 then s.setSpare (.handBack (n + 1))
      else if chB then s.nextInput
      else { s with inputs := { s.inputs with sparePh := .connect, spareB := true, spareBad := 0 } }

/-- The image bit of an input in a channel: the filter of its comparator, or of the spare that stands in for it (07 R215). -/
def imgBit (s : State) (chB : Bool) (n : Nat) : Bool :=
  if s.spareAt chB n && s.standsIn then s.inputs.spareFilt.out else (s.inChan chB n).filt.out

/-- The inputs at a channel's strobe: image, INOK, REV with F041, the spare and PCNT (07 R213, R225, R228), and at channel A's whether
each TP pin is driven high, by the test-pulse unit or as a claimed pin by the GIO bank (R227, R242). -/
def latchInputs (s : State) (chB : Bool) (rev : BitVec 32) : State :=
  let s := s.spareStrobe chB
  let img : BitVec 32 := wordOf 32 (s.imgBit chB)
  let ok : BitVec 32 := wordOf 32 (s.inokOf chB)
  let s := (upFrom 32 0).foldl (fun (s : State) n => s.setInp n { s.inp n with rev := bit rev n }) s
  let s := match firstIdx (bit rev) 32 0 with | some n => s.drive 41 (det n) | none => s
  let tps := (upFrom 8 0).foldl (fun (t : Tab TpSt) k => put {} t k { look {} t k with high := s.tpHigh k || s.tpDrive k }) s.inputs.tps
  let p := s.inputs
  if chB then { s with inputs := { p with inb := img, inokb := ok, pcntB := if s.heldB then p.pcntB + 1 else p.pcntB } }
  else { s with inputs := { p with ina := img, inoka := ok, tps := tps, pcntA := if s.heldA then p.pcntA + 1 else p.pcntA } }

/-! ### Test pulses (07 R228-R234) -/

/-- The masks of the inputs on a source in a channel open or close. -/
def maskInputs (s : State) (chB : Bool) (k : Nat) (b : Bool) : State :=
  (upFrom 32 0).foldl (fun (s : State) n =>
    if s.inSrc chB n = some k then s.setInChan chB n { s.inChan chB n with mask := b } else s) s

/-- The slot of a source (07 R230): the unit drives the pin low when its own schedule fires it, and each channel opens its masks and
its check window by its own schedule. -/
def pulseStart (s : State) (k : Nat) : State :=
  let u := s.unitFires k
  let a := s.tpFires false k
  let b := s.tpFires true k
  let v := s.tp k
  if !s.tpModes || v.pulsing || v.winA || v.winB || !(u || a || b) then s
  else
    let s := s.setTp k { v with pulsing := u, winA := a, winB := b }
    let s := if a then s.maskInputs false k true else s
    if b then s.maskInputs true k true else s

/-- A pulse confirmed on an input: two in a row clear PMISS and FOR (07 R231). -/
def pulseSeen (c : InChan) : InChan :=
  if 1 ≤ c.conf then { c with conf := 2, pmiss := false, forn := false } else { c with conf := 1 }

/-- A foreign pulse on an input in frame f: in two consecutive frames it sets FOR (07 R230). -/
def foreignSeen (f : Nat) (c : InChan) : InChan :=
  { c with conf := 0, forn := c.forn || (decide (0 < f) && c.fornFrame == f), fornFrame := f + 1 }

/-- What a channel judges of one input at the end of a pulse of source k. Log entry 70, DEDUCED. -/
def judgeInput (s : State) (chB : Bool) (k : Nat) (seen foreign : BitVec 32) (n : Nat) : State :=
  let c := s.inChan chB n
  match s.inSrc chB n with
  | none => s
  | some j =>
    if j = k then
      s.setInChan chB n (if bit seen n then pulseSeen c else { c with pmiss := true, conf := 0 })
    else if bit foreign n then s.setInChan chB n (foreignSeen (s.pcntNow chB / max 1 (s.tpFrame chB)) c)
    else s

/-- The input wiring sources follow PMISS and FOR (07 R238). -/
def wireFaults (s : State) : State :=
  (upFrom 32 0).foldl (fun (s : State) n =>
    let v := s.inp n
    s.driveIf (v.a.pmiss || v.a.forn || v.b.pmiss || v.b.forn) (32 + n / 8) (det n)) s

/-- The end of a source's slot with the checks of each channel whose window was open (07 R230, R231, R234). -/
def pulseEnd (s : State) (k : Nat) (seenA seenB forA forB : BitVec 32) (tpA tpB : Bool) : State :=
  let v := s.tp k
  if !(v.pulsing || v.winA || v.winB) then s
  else
    let missed := fun (n : Nat) =>
      (v.winA && s.inSrc false n == some k && !bit seenA n) || (v.winB && s.inSrc true n == some k && !bit seenB n)
    let s := (upFrom 32 0).foldl (fun (s : State) n =>
      if missed n then s.setInp n { s.inp n with pmCnt := satInc 255 (s.inp n).pmCnt } else s) s
    let s := if v.winA then (upFrom 32 0).foldl (fun (s : State) n => s.judgeInput false k seenA forA n) s else s
    let s := if v.winB then (upFrom 32 0).foldl (fun (s : State) n => s.judgeInput true k seenB forB n) s else s
    let high := (v.winA && !tpA) || (v.winB && !tpB)
    let low := v.winA && v.winB && tpA && tpB
    let s := s.setTp k { v with pulsing := false, winA := false, winB := false, stuck := high || (v.stuck && !low)
                                pulses := if low then v.pulses + 1 else v.pulses }
    (s.driveIf high 40 (det k)).wireFaults

/-! ### Diagnostic words (07 R240-R242) -/

def inSpareWord (s : State) : Word :=
  let p := s.inputs
  at_ 0 5 p.spareIn ||| at_ 5 2 (if !s.spareOn then 0 else if p.spareB then 2 else 1) ||| flag 7 s.standsIn ||| at_ 16 16 p.rounds.toNat

def inDiagWord (s : State) (n : Nat) : Word :=
  let v := s.inp n
  let standIn := s.standsIn && s.inputs.spareIn == n
  flag 0 v.a.pmiss ||| flag 1 v.b.pmiss ||| flag 2 v.a.forn ||| flag 3 v.b.forn ||| flag 4 v.a.cmp ||| flag 5 v.b.cmp
    ||| flag 6 v.cmps ||| flag 7 v.ilim ||| flag 8 v.rev ||| flag 9 (bit s.inputs.inoka n) ||| flag 10 (bit s.inputs.inokb n)
    ||| flag 11 standIn ||| at_ 16 8 v.pmCnt

def tpDiagWord (s : State) (k : Nat) : Word :=
  let v := s.tp k
  flag 0 (s.tpNamed true k) ||| flag 1 v.high ||| flag 2 v.ovl ||| flag 3 v.stuck ||| at_ 16 16 v.pulses.toNat

end State

/-- INPUT_FILTER_CHANGE (07 R220, R221). -/
def execInputFilterChange (n : Fin 32) (chB : Bool) (samples : InSamples) (s : State) : Out := .next <|
  match s.md.mode with
  | .off | .reset => s
  | _ => s.feedInput chB n samples

/-- TEST_PULSE_START (07 R228, R230): in the cycle that a schedule gives the source. -/
def execTestPulseStart (k : Fin 8) (s : State) : Out := .next (s.pulseStart k)

/-- TEST_PULSE_END (07 R230). -/
def execTestPulseEnd (k : Fin 8) (seenA seenB foreignA foreignB : BitVec 32) (tpA tpB : Bool) (s : State) : Out :=
  .next (s.pulseEnd k seenA seenB foreignA foreignB tpA tpB)

/-- TEST_PULSE_MASK_CLOSE (07 R230, R232). -/
def execTestPulseMaskClose (k : Fin 8) (s : State) : Out := .next <|
  let v := s.tp k
  if v.pulsing || v.winA || v.winB then s else (s.maskInputs false k false).maskInputs true k false

/-- TP_OVERLOAD_TRIP (07 R234): only while the unit drives the pin high. -/
def execTpOverloadTrip (k : Fin 8) (s : State) : Out := .next <|
  if !s.tpHigh k then s else (s.setTp k { s.tp k with ovl := true, retryLow := true }).drive 40 (det k)

/-- TP_OVERLOAD_RETRY (07 R234): driven high again after 1 s. -/
def execTpOverloadRetry (k : Fin 8) (s : State) : Out := .next <|
  if (s.tp k).ovl then s.setTp k { s.tp k with retryLow := false } else s

/-- TP_OVERLOAD_CLEAR (07 R234): after 100 ms high without the limit. -/
def execTpOverloadClear (k : Fin 8) (s : State) : Out := .next <|
  if (s.tp k).ovl && !(s.tp k).retryLow then s.setTp k { s.tp k with ovl := false } else s

end Sys2Proof.Machine
end

