-- ==== Sys2Proof/Machine/Outputs.lean ====
section
/-! DEFINITION. Safety outputs (08): switches at the output points, the comparison with the expected pattern, off-tests and
on-tests, overload, group supplies, and the diagnostic words. -/
namespace Sys2Proof.Machine

/-- Flag numbers of SIO.OUTDIAGk (08 R264). -/
abbrev fSTKH : Nat := 0
abbrev fOTF : Nat := 1
abbrev fMIDF : Nat := 2
abbrev fONTF : Nat := 3
abbrev fOVLD : Nat := 4
abbrev fOTEMP : Nat := 5
abbrev fTIED : Nat := 6
abbrev fONFAIL : Nat := 7
abbrev fEDMHOLD : Nat := 8
abbrev fLASTSW : Nat := 10
abbrev fBDF : Nat := 11

/-- An output belongs to group B (08 R243). -/
def outGrpB (k : Nat) : Bool := decide (6 ≤ k)

/-- The source of the stuck-high, switch, overload, supply and not-energised conditions (08 R262; 10 R290). -/
def stuckSrc (k : Nat) : Nat := 48 + k
def switchSrc (k : Nat) : Nat := 60 + k
def overSrc (g : Bool) : Nat := if g then 73 else 72
def supplySrc (g : Bool) : Nat := if g then 75 else 74
def onfailSrc (g : Bool) : Nat := if g then 77 else 76

namespace OutSt

/-- A flag of OUTDIAG. -/
def has (o : OutSt) (f : Nat) : Bool := bit o.diag f

/-- Flags of OUTDIAG set. -/
def set (o : OutSt) (f : Nat) : OutSt := { o with diag := putBit o.diag f true }

def clear (o : OutSt) (f : Nat) : OutSt := { o with diag := putBit o.diag f false }

/-- One of two switches; B for `chB`. -/
def sw (o : OutSt) (chB : Bool) : Bool := if chB then o.swB else o.swA

/-- A switch put in a position; a change is stamped (08 R247). -/
def setSw (o : OutSt) (chB on : Bool) (now : Nat) : OutSt :=
  if o.sw chB = on then o
  else if chB then { o with swB := on, chg := now } else { o with swA := on, chg := now }

def dmd (o : OutSt) (chB : Bool) : Bool := if chB then o.dmdB else o.dmdA

def setDmd (o : OutSt) (chB on : Bool) : OutSt := if chB then { o with dmdB := on } else { o with dmdA := on }

def hold (o : OutSt) (chB : Bool) : Bool := if chB then o.holdB else o.holdA

def setHold (o : OutSt) (chB : Bool) : OutSt := if chB then { o with holdB := true } else { o with holdA := true }

def mism (o : OutSt) (chB : Bool) : Bool := if chB then o.mismB else o.mismA

def setMism (o : OutSt) (chB m : Bool) : OutSt := if chB then { o with mismB := m } else { o with mismA := m }

/-- The switch is the one that a running off-test holds open (08 R249). -/
def offTested (o : OutSt) (chB : Bool) : Bool := o.test == .off chB

/-- The switch states have stood for 1 ms (08 R247). -/
def stood (o : OutSt) (now : Nat) : Bool := decide (o.chg + 200000 ≤ now) || o.chg == 0

/-- The flag that a comparison with the expected pattern of R246 would set (08 R247), from the readback, mid-point and B-drop
comparators; `low` for a low group supply. -/
def wrong (o : OutSt) (rb mid bdrop low : Bool) : Option Nat :=
  let both := o.swA && o.swB
  if rb && !both then some fSTKH
  else if mid && !o.swA then some fMIDF
  else if o.swA && !o.swB && !bdrop then some fBDF
  else if !low && ((both && !rb) || (o.swA && !mid)) then some fONFAIL
  else none

end OutSt

namespace State

/-- VFLOW and GOVC of a group (08 R259). -/
def vfLow (s : State) (g : Bool) : Bool := if g then s.outputs.vfLowB else s.outputs.vfLowA
def govc (s : State) (g : Bool) : Bool := if g then s.outputs.govcB else s.outputs.govcA
def supLow (s : State) (g : Bool) : Bool := if g then s.outputs.supLowB else s.outputs.supLowA

/-- An output trip holds the switches open (08 R255, R259; log entry 10, DEDUCED). -/
def outTripped (s : State) (k : Nat) : Bool := (s.out k).has fOVLD || (s.out k).has fOTEMP || s.govc (outGrpB k)

/-- The modes in which a switch may be closed: zones can enable only there (02 R45, R57). -/
def outModes (s : State) : Bool := s.md.mode == .run || s.md.mode == .commission

/-- A driver's own rail is lost (08 R243). Log entry 123, DEDUCED. -/
def railOut (s : State) (chB : Bool) : Bool := if chB then s.outputs.railOutB else s.outputs.railOutA

/-- A channel may close its switch of an output: the mode, its driver's rail, its own view of the mode lines, no trip, no failed
off-test, no off-test of that switch. -/
def mayClose (s : State) (chB : Bool) (k : Nat) : Bool :=
  s.outModes && !s.railOut chB && !(if chB then s.md.badModeB else s.md.badModeA) && !s.outTripped k && !(s.out k).hold chB
    && !(s.out k).offTested chB

/-- VFLOW of a group is set while the supply is low and either channel demands an output of it on (08 R259). -/
def noteSupply (s : State) (g : Bool) : State :=
  if s.supLow g && !s.vfLow g && (upFrom 6 (if g then 6 else 0)).any (fun k => (s.out k).dmdA || (s.out k).dmdB) then
    let s := if g then { s with outputs := { s.outputs with vfLowB := true } }
             else { s with outputs := { s.outputs with vfLowA := true } }
    s.drive (supplySrc g) (det g.toNat)
  else s

/-- One channel's demand of an output at its output point (01 R19, R20; 08 R250, R253). -/
def demand1 (s : State) (chB : Bool) (k : Nat) (on : Bool) : State :=
  let o := (s.out k).setDmd chB on
  let o := match o.test with
    | .on _ => if on then { o with test := .none } else o
    | .off b => if b = chB ∧ !on then { o with stayOff := true } else o
    | .none => o
  s.setOut k (o.setSw chB (on && s.mayClose chB k) s.now)

/-- The output point of a channel: its twelve demands reach its switch drivers (01 R26). -/
def applyDemands (s : State) (chB : Bool) (dmd : BitVec 12) : State :=
  let s := (upFrom 12 0).foldl (fun (s : State) k => s.demand1 chB k (bit dmd k)) s
  (s.noteSupply false).noteSupply true

/-! ### Comparison (08 R247) -/

/-- One output at a strobe of a channel. -/
def compare1 (s : State) (chB : Bool) (k : Nat) (rb mid bdrop : Bool) : State :=
  let o := s.out k
  if o.test != .none || !o.stood s.now then s
  else
    let g := outGrpB k
    match o.wrong rb mid bdrop (s.supLow g || s.vfLow g) with
    | none =>
      let o := o.setMism chB false
      s.setOut k (if o.swA && o.swB && rb && mid && decide (o.onfailAt < o.chg) then o.clear fONFAIL else o)
    | some f =>
      if o.mism chB then s.setOut k { (o.setMism chB true) with due := putBit o.due f true }
      else s.setOut k (o.setMism chB true)

/-- The comparators of all outputs at a strobe of a channel. -/
def senseOutputs (s : State) (chB : Bool) (rb mid bdrop : BitVec 12) : State :=
  let s := (upFrom 12 0).foldl (fun (s : State) k => s.compare1 chB k (bit rb k) (bit mid k) (bit bdrop k)) s
  if chB then { s with outputs := { s.outputs with rbB := rb, midB := mid } }
  else { s with outputs := { s.outputs with rbA := rb, midA := mid } }

/-- A flag of an output with its source (08 R262). -/
def outFlag (s : State) (k f : Nat) : State :=
  let o := s.out k
  let s := s.setOut k (if f = fONFAIL ∧ !o.has f then { o.set f with onfailAt := s.now } else o.set f)
  if f = fSTKH ∨ f = fOTF ∨ f = fTIED then s.drive (stuckSrc k) (det k)
  else if f = fMIDF ∨ f = fBDF ∨ f = fONTF then s.drive (switchSrc k) (det k)
  else if f = fONFAIL then s.drive (onfailSrc (outGrpB k)) (det k)
  else s.drive (overSrc (outGrpB k)) (det k)

/-- The flags that are due at the end of a col slot (08 R247); while VFLOW of its group is set, ONFAIL is not (R259). -/
def outSlot (s : State) : State :=
  (upFrom 12 0).foldl (fun (s : State) k =>
    let due := (s.out k).due
    if due = 0 then s
    else
      let s := s.setOut k { s.out k with due := 0 }
      [fSTKH, fMIDF, fBDF, fONFAIL].foldl (fun (s : State) f =>
        if bit due f && !(f == fONFAIL && s.vfLow (outGrpB k)) then s.outFlag k f else s) s) s

/-! ### Tests (08 R248-R253, R258) -/

/-- The tag of the cycle whose output point has just passed (01 R35). -/
def doneTag (s : State) : Nat := fld s.col.cnt 0 16

/-- The output on which a test runs. -/
def testedOut (s : State) (off : Bool) : Option (Nat × Bool) :=
  (upFrom 12 0).findSome? (fun k => match (s.out k).test with
    | .off b => if off then some (k, b) else none
    | .on b => if off then none else some (k, b)
    | .none => none)

/-- Another test runs on any output. -/
def testRuns (s : State) : Bool := (upFrom 12 0).any (fun k => (s.out k).test != .none)

/-- Both switches of an output have stood closed, or open, for 1 ms. -/
def bothStood (s : State) (k : Nat) (on : Bool) : Bool :=
  let o := s.out k
  o.swA == on && o.swB == on && o.stood s.now

/-- An off-test of output k is due and may run (08 R248). -/
def offDue (s : State) (k : Nat) : Bool :=
  let c := s.doneTag
  let o := s.out k
  c % 256 == 16 * k + 8 && o.dmdA && o.dmdB && s.bothStood k true && !s.testRuns

/-- The modes of on-tests (08 R251). -/
def onTestModes (s : State) : Bool :=
  match s.md.mode with
  | .idle | .commission | .run | .quiet | .lockout | .service => true
  | _ => false

/-- An on-test of output k is due and may run (08 R251). -/
def onDue (s : State) (k : Nat) : Bool :=
  let c := s.doneTag
  let o := s.out k
  c % 256 == 16 * k && !o.dmdA && !o.dmdB && s.bothStood k false && s.onTestModes && !s.testRuns

/-- The channel that commands the test of the present round (08 R248, R251). -/
def testRound (s : State) : Bool := s.doneTag / 256 % 2 == 1

/-- The outputs found tied to output k: those whose readback moved while their own switches are closed (off-test) or open
(on-test) (08 R258). -/
def tied (s : State) (k : Nat) (moved : BitVec 12) (on : Bool) : List Nat :=
  (upFrom 12 0).filter (fun j => j != k && bit moved j && (s.out j).swA == on && (s.out j).swB == on)

/-- An output is tied to another: TIED and TIEWITH, and its stuck-high source. -/
def tie1 (s : State) (k j : Nat) : State :=
  (s.setOut k { s.out k with diag := putFld (s.out k).diag 12 4 j }).outFlag k fTIED

def tieAll (s : State) (k : Nat) (moved : BitVec 12) (on : Bool) : State :=
  (s.tied k moved on).foldl (fun (s : State) j => (s.tie1 k j).tie1 j k) s

/-- The end of an off-test that passed: the tested switch closes again when its channel has demanded on throughout (08 R249, R250);
that is no switch-on by which ONFAIL clears (08 R260). Log entry 109, DEDUCED. -/
def offPass (s : State) (k : Nat) (chB : Bool) : State :=
  let o := s.out k
  let o := { o with test := .none, onfailAt := if o.has fONFAIL then s.now else o.onfailAt }
  let o := { o with diag := putFld o.diag 16 8 (fld o.diag 16 8 + 1) }
  let s := s.setOut k o
  s.setOut k ({ o with stayOff := false }.setSw chB (o.dmd chB && !o.stayOff && s.mayClose chB k) s.now)

/-- The end of an off-test at its limit: the tested switch stays open (08 R249). -/
def offFail (s : State) (k : Nat) (chB midOn : Bool) : State :=
  let s := s.setOut k { (s.out k).setHold chB with test := .none, stayOff := false }
  let s := s.outFlag k fOTF
  if midOn && !(s.out k).swA then s.outFlag k fMIDF else s

/-! ### Trips (08 R255, R259) -/

/-- An output opens and its trip flag is set (08 R255). -/
def outTrip (s : State) (k : Nat) (temp : Bool) : State :=
  let o := s.out k
  let o := { o with swA := false, swB := false, test := .none, chg := if o.swA || o.swB then s.now else o.chg }
  let s := (s.setOut k o).outFlag k fOVLD
  if temp then s.outFlag k fOTEMP else s

/-- GOVC: every switch of the group opens (08 R259). Log entry 68, DEDUCED. -/
def groupTrip (s : State) (g : Bool) : State :=
  let s := (upFrom 6 (if g then 6 else 0)).foldl (fun (s : State) k =>
    let o := s.out k
    s.setOut k { o with swA := false, swB := false, test := .none, chg := if o.swA || o.swB then s.now else o.chg }) s
  let s := if g then { s with outputs := { s.outputs with govcB := true } } else { s with outputs := { s.outputs with govcA := true } }
  s.drive (overSrc g) (det g.toNat)

/-- No switch of a group is closed. -/
def groupOff (s : State) (g : Bool) : Bool :=
  (upFrom 6 (if g then 6 else 0)).all (fun k => !(s.out k).swA && !(s.out k).swB)

/-! ### OUTOK and the diagnostic words (08 R260, R263-R265) -/

/-- OUTOKk (08 R260), the same in both channels. -/
def outokOf (s : State) (k : Nat) : Bool :=
  (s.out k).diag &&& 0x8FF == 0 && !s.vfLow (outGrpB k) && !s.govc (outGrpB k)

def outok (s : State) : BitVec 12 := (wordOf 12 s.outokOf).setWidth 12

def outSwWord (s : State) : Word :=
  wordOf 12 (fun k => (s.out k).swA) ||| (wordOf 12 (fun k => (s.out k).swB) <<< 16)

def outDiagWord (s : State) (k : Nat) : Word := (s.out k).diag ||| flag 9 ((s.out k).test != .none)

def vfStatWord (s : State) : Word :=
  flag 0 s.outputs.vfLowA ||| flag 1 s.outputs.vfLowB ||| flag 2 s.outputs.govcA ||| flag 3 s.outputs.govcB

end State

/-- OFF_TEST_START (08 R248, R249): the tested switch opens. Log entry 41, DEDUCED. -/
def execOffTestStart (k : Fin 12) (s : State) : Out := .next <|
  if s.offDue k then
    let b := s.testRound
    let o := (s.out k).setSw b false s.now
    s.setOut k { o with test := .off b, stayOff := false, diag := putBit o.diag fLASTSW b }
  else s

/-- OFF_TEST_PASS (08 R249, R250, R258). -/
def execOffTestPass (fell : BitVec 12) (s : State) : Out := .next <|
  match s.testedOut true with
  | none => s
  | some (k, b) => (s.tieAll k fell true).offPass k b

/-- OFF_TEST_TIMEOUT (08 R249, R258). -/
def execOffTestTimeout (fell : BitVec 12) (midOn : Bool) (s : State) : Out := .next <|
  match s.testedOut true with
  | none => s
  | some (k, b) => (s.tieAll k fell true).offFail k b midOn

/-- ON_TEST_START (08 R251, R252). -/
def execOnTestStart (k : Fin 12) (s : State) : Out := .next <|
  if s.onDue k then s.setOut k { s.out k with test := .on s.testRound } else s

/-- ON_TEST_PASS (08 R252, R258). -/
def execOnTestPass (rose : BitVec 12) (s : State) : Out := .next <|
  match s.testedOut false with
  | none => s
  | some (k, _) =>
    let s := s.tieAll k rose false
    let o := s.out k
    s.setOut k { o with test := .none, diag := putFld o.diag 24 8 (fld o.diag 24 8 + 1) }

/-- The on-tests of the power-on run (08 R251; 18 R472 step 9): one of every output; a failed one sets ONTF. -/
def State.postOnTests (s : State) (fail : BitVec 12) : State :=
  (upFrom 12 0).foldl (fun (s : State) k =>
    if bit fail k then s.outFlag k fONTF
    else s.setOut k { s.out k with diag := putFld (s.out k).diag 24 8 (fld (s.out k).diag 24 8 + 1) }) s

/-- A channel's switch drivers lose their rail, or have it again (08 R243): on its loss every switch of the channel opens. -/
def State.driverRail (s : State) (chB bad : Bool) : State :=
  let s := if chB then { s with outputs := { s.outputs with railOutB := bad } } else { s with outputs := { s.outputs with railOutA := bad } }
  if bad then (upFrom 12 0).foldl (fun (s : State) k => s.setOut k ((s.out k).setSw chB false s.now)) s else s

/-- ON_TEST_TIMEOUT (08 R252, R258). -/
def execOnTestTimeout (rose : BitVec 12) (s : State) : Out := .next <|
  match s.testedOut false with
  | none => s
  | some (k, _) =>
    let s := s.tieAll k rose false
    (s.setOut k { s.out k with test := .none }).outFlag k fONTF

/-- OUTPUT_OVERLOAD_TRIP (08 R255). -/
def execOutputOverloadTrip (k : Fin 12) (temp : Bool) (s : State) : Out := .next (s.outTrip k temp)

/-- OUTPUT_OVERLOAD_CLEAR (08 R255): after 100 ms off. -/
def execOutputOverloadClear (k : Fin 12) (s : State) : Out := .next <|
  let o := s.out k
  if o.swA || o.swB then s else s.setOut k ((o.clear fOVLD).clear fOTEMP)

/-- GROUP_CURRENT_TRIP (08 R259). -/
def execGroupCurrentTrip (grpB : Bool) (s : State) : Out := .next (s.groupTrip grpB)

/-- GROUP_CURRENT_CLEAR (08 R259): after 100 ms with the group off. -/
def execGroupCurrentClear (grpB : Bool) (s : State) : Out := .next <|
  if !s.groupOff grpB then s
  else if grpB then { s with outputs := { s.outputs with govcB := false } } else { s with outputs := { s.outputs with govcA := false } }

/-- GROUP_SUPPLY_CHANGE (08 R259). -/
def execGroupSupplyChange (grpB low : Bool) (s : State) : Out := .next <|
  let o := s.outputs
  let o := if grpB then { o with supLowB := low, vfLowB := o.vfLowB && low } else { o with supLowA := low, vfLowA := o.vfLowA && low }
  { s with outputs := o }.noteSupply grpB

end Sys2Proof.Machine
end

