-- ==== Sys2Proof/Machine/Rings.lean ====
section
/-! DEFINITION. The ring network unit (11): configuration, frames that the device originates, egress, the WHOLE status and the
network registers. -/
namespace Sys2Proof.Machine

namespace State

def ring (s : State) (r2 : Bool) : RingSt := if r2 then s.net.r2 else s.net.r1

def setRing (s : State) (r2 : Bool) (r : RingSt) : State :=
  if r2 then { s with net := { s.net with r2 := r } } else { s with net := { s.net with r1 := r } }

def port (s : State) (r2 pB : Bool) : PortSt := if pB then (s.ring r2).b else (s.ring r2).a

def setPort (s : State) (r2 pB : Bool) (p : PortSt) : State :=
  s.setRing r2 (if pB then { s.ring r2 with b := p } else { s.ring r2 with a := p })

/-- Fields of NET.RCFGr (11 R333): EN, LINE topology, manager. -/
def ringCfg (s : State) (r2 : Bool) (i : Nat) : Bool := bit (s.reg (netB + if r2 then 8 else 4)) i
def ringOn (s : State) (r2 : Bool) : Bool := s.ringCfg r2 0
def ringLine (s : State) (r2 : Bool) : Bool := s.ringCfg r2 1
def ringMgr (s : State) (r2 : Bool) : Bool := s.ringCfg r2 2 && !s.ringLine r2

/-- The bypass is closed (11 R321). -/
def bypass (s : State) : Bool :=
  match s.md.mode with
  | .off | .reset | .start => true
  | _ => false

/-- A port is in use: its ring enabled, the bypass open, with link (11 R314, R333). -/
def portUp (s : State) (r2 pB : Bool) : Bool := s.ringOn r2 && !s.bypass && (s.port r2 pB).link

/-- A counter of R335 counts. -/
def ringCount (s : State) (r2 : Bool) (o : Nat) : State := s.countUp (netB + (if r2 then 0x60 else 0x40) + o)

/-- The device's MAC address (11 R313), first byte first. Log entry 59, PRESUMED. -/
def mac (s : State) : List Byte := bytesOfNat 6 (Config.macAddress (look 0 s.otp.vals 129) (look 0 s.otp.vals 130)).toNat

/-- EtherType and HOPS of NET.CFG (11 R332). -/
def etype (s : State) : Nat := fld (s.reg netB) 0 16
def hops (s : State) : Nat := fld (s.reg netB) 16 6

/-! ### Egress (11 R313, R317) -/

/-- A frame waits at an egress port; one without link sends nothing. -/
def egress (s : State) (r2 pB : Bool) (f : OutFrame) : State :=
  if s.portUp r2 pB then s.setPort r2 pB { s.port r2 pB with out := (s.port r2 pB).out ++ [f] } else s

/-- The first 18 bytes of a frame that the device originates (11 R311, R313). -/
def ringHead (s : State) (r2 : Bool) (dest : List Byte) (cls : Nat) : List Byte :=
  padTo 6 dest ++ s.mac ++ [BitVec.ofNat 8 (s.etype / 256), BitVec.ofNat 8 s.etype]
    ++ [BitVec.ofNat 8 ((s.ring r2).rseq.toNat / 256), BitVec.ofNat 8 (s.ring r2).rseq.toNat, BitVec.ofNat 8 s.hops, BitVec.ofNat 8 cls]

abbrev broadcast : List Byte := List.replicate 6 0xFF

/-- A frame of the device's own on the ports given, with the next RSEQ; `qno` is the transmit queue of one that came from there (11
R311, R313, R317, R329). -/
def originate (s : State) (r2 toA toB : Bool) (prio qno : Nat) (dest : List Byte) (cls : Nat) (body : List Byte) (ts : Option Byte) :
    State :=
  let f : OutFrame := { prio := prio, qno := qno, bytes := s.ringHead r2 dest cls ++ body, badFcs := false, ts := ts }
  let s := s.setRing r2 { s.ring r2 with rseq := (s.ring r2).rseq + 1 }
  let s := if toA then s.egress r2 false f else s
  if toB then s.egress r2 true f else s

/-- A frame of the session engine or of the lattice frame ports (11 R313, R317): its PDU padded to the least frame length. -/
def sendPdu (s : State) (r2 : Bool) (cls : Nat) (pdu : List Byte) : State :=
  s.originate r2 true true 2 0 broadcast cls (padTo 42 pdu) none

/-- The place of a waiting frame in the order of 11 R317: a fragment that ends the frame in progress (R316) first, then by the rule's
number, a transmit queue's by the queue number. -/
def OutFrame.rank (f : OutFrame) : Nat := 64 * f.prio + f.qno

/-- The oldest frame of the lowest rank (11 R317). -/
def firstOut : List OutFrame → Option OutFrame
  | [] => none
  | f :: fs =>
    match firstOut fs with
    | some g => some (if OutFrame.rank g < OutFrame.rank f then g else f)
    | none => some f

/-- The frame to send next, and the others. -/
def nextOut (fs : List OutFrame) : Option (OutFrame × List OutFrame) := (firstOut fs).map (fun f => (f, fs.erase f))

/-- A transmit queue entry (11 R329). -/
def sendEntry (s : State) (r2 : Bool) (q : Nat) (e : List Byte) : State :=
  let w := natOfBytes (e.take 4)
  let len := w % 2048
  let ports := w / 2048 % 4
  let body := (e.drop 16).take len
  let cls := (body.getD 17 0).toNat
  if cls < 16 ∨ ports = 0 ∨ len < 60 ∨ 1514 < len then s.ringCount r2 0xC
  else
    let ts := if w.testBit 13 then some (BitVec.ofNat 8 (w / 65536)) else none
    s.originate r2 (ports.testBit 0) (ports.testBit 1) 4 q body cls (body.drop 18) ts

/-- The transmit queues of the ring that come before every frame waiting at the port (11 R317); none for a revoked network DMA
(R331; 10 R301). -/
def pullable (s : State) (r2 pB : Bool) : List Nat :=
  if s.revoked 8 then []
  else
    (upFrom 8 (if r2 then 40 else 32)).filter (fun q => (s.port r2 pB).out.all (fun f => decide (4 * 64 + q < OutFrame.rank f)))

/-- Entries of those queues, lowest queue first, until none comes before the port's frames (11 R317). -/
def pullQueues (r2 pB : Bool) : Nat → State → State
  | 0, s => s
  | k + 1, s =>
    match (s.pullable r2 pB).find? (fun q => s.qAvail q) with
    | none => s
    | some q =>
      match s.qPop q with
      | (t, none) => pullQueues r2 pB k t
      | (t, some e) => pullQueues r2 pB k (t.sendEntry r2 q e)

/-- The transmit DMA fetches those entries under a grant of class 2 (17 R442). -/
def pullGranted (s : State) (r2 pB : Bool) : State :=
  if (s.pullable r2 pB).any (fun q => s.qAvail q) then s.underGrant 2 2 (pullQueues r2 pB 64) else s

/-- A transmit time stamp enters the FIFO (11 R330). -/
def stampTx (s : State) (r2 pB : Bool) (tag : Byte) : State :=
  if 32 ≤ s.net.ts.length then { s with net := { s.net with tsLost := true } }
  else { s with net := { s.net with ts := s.net.ts ++ [{ tag := tag, portB := pB, ring2 := r2, stamp := s.now }] } }

/-- An idle egress port sends its next frame (11 R317, R330). -/
def ringSend (s : State) (r2 pB : Bool) : State :=
  if !s.portUp r2 pB then s
  else
    let s := s.pullGranted r2 pB
    match nextOut (s.port r2 pB).out with
    | none => s
    | some (f, rest) =>
      let s := s.setPort r2 pB { s.port r2 pB with out := rest }
      match f.ts with
      | some tag => s.stampTx r2 pB tag
      | none => s

/-! ### WHOLE (11 R319, R320) -/

/-- WHOLE falls: F099 or F100, and a manager forwards. -/
def wholeFalls (s : State) (r2 : Bool) : State :=
  let r := s.ring r2
  if !r.whole then s
  else
    (s.setRing r2 { r with whole := false, wholeRun := 0, mgrFwd := r.mgrFwd || s.ringMgr r2 }).drive (if r2 then 100 else 99) 0

/-- The windows of a port (11 R319). -/
def PortSt.window (p : PortSt) : PortSt :=
  if p.seen then { p with seen := false, hits := p.hits + 1, misses := 0 } else { p with hits := 0, misses := p.misses + 1 }

/-- A window of 500 us ends (11 R319, R320): check frames of one manager on both ports for three windows set WHOLE, and once it has
been set for three windows more a manager stops forwarding. -/
def checkWindow (s : State) (r2 : Bool) : State :=
  let r := s.ring r2
  if s.ringLine r2 then s
  else
    let one := decide (r.mgrs.length < 2)
    let a := PortSt.window { r.a with seen := r.a.seen && one }
    let b := PortSt.window { r.b with seen := r.b.seen && one }
    let s := s.setRing r2 { r with a := a, b := b, mgrs := [] }
    if !one ∨ 3 ≤ a.misses ∨ 3 ≤ b.misses then s.wholeFalls r2
    else if r.whole || (decide (3 ≤ a.hits) && decide (3 ≤ b.hits) && !r.mgrDup && a.link && b.link) then
      let run := r.wholeRun + 1
      s.setRing r2 { s.ring r2 with whole := true, wholeRun := run, mgrFwd := (s.ring r2).mgrFwd && decide (run < 4) }
    else s

/-- A check frame from another device (11 R319, R320): at a manager a second manager; elsewhere it counts for its port, and one from a
second source in a window tells of two managers. Log entry 119, DEDUCED. -/
def checkSeen (s : State) (r2 pB : Bool) (src : List Byte) : State :=
  if s.ringMgr r2 then (s.setRing r2 { s.ring r2 with mgrDup := true }).wholeFalls r2
  else
    let s := s.setPort r2 pB { s.port r2 pB with seen := true }
    let r := s.ring r2
    let ms := if r.mgrs.contains src then r.mgrs else r.mgrs ++ [src]
    let s := s.setRing r2 { r with mgrs := ms }
    if 2 ≤ ms.length then s.wholeFalls r2 else s

/-- In LINE topology WHOLE is that every port that has had link still has it (11 R319). -/
def lineWhole (s : State) (r2 : Bool) : State :=
  if !s.ringLine r2 then s
  else
    let r := s.ring r2
    if (!r.a.hadLink || r.a.link) && (!r.b.hadLink || r.b.link) then s.setRing r2 { r with whole := true } else s.wholeFalls r2

/-! ### Registers (11 R332-R334) -/

def rstat (s : State) (r2 : Bool) : Word :=
  let r := s.ring r2
  flag 0 r.a.link ||| flag 1 r.b.link ||| flag 2 r.whole ||| flag 3 r.mgrFwd ||| flag 4 s.bypass ||| flag 5 r.mgrDup ||| flag 6 r.phyErr

/-- A read of NET.TSINFO (11 R332). -/
def tsinfo (s : State) : State × Word :=
  let lost := flag 11 s.net.tsLost
  match s.net.ts with
  | [] => ({ s with net := { s.net with tsLost := false } }, lost)
  | e :: es =>
    (({ s with net := { s.net with ts := es, tsLost := false } }.setReg (netB + 0x84) (w32 e.stamp)).setReg (netB + 0x88)
        (w32 (e.stamp / 2 ^ 32)),
      at_ 0 8 e.tag.toNat ||| flag 8 true ||| flag 9 e.portB ||| flag 10 e.ring2 ||| lost)

end State

end Sys2Proof.Machine
end

