-- ==== Sys2Proof/Machine/Sessions.lean ====
section
/-! DEFINITION. Safety sessions (12): the two halves of the table, checks on arrival, delivery at a strobe, the copies a channel
builds, and the col's rules. -/
namespace Sys2Proof.Machine

/-- CRC of a PDU's bytes (12 R341, R348): the path's polynomial, its seed as initial value. -/
def pduCrc (poly seed : Nat) (bs : List Byte) : Nat := (crcBytes 32 poly seed bs) ^^^ 0xFFFFFFFF

abbrev poly1 : Nat := 0xF4ACFB13
abbrev poly2 : Nat := 0x1EDC6F41

/-- A big-endian number. -/
def natOfBE (bs : List Byte) : Nat := natOfBytes bs.reverse
def beOfNat (k n : Nat) : List Byte := (bytesOfNat k n).reverse

/-- The bytes [o, o + k) of a list. -/
def sub (bs : List Byte) (o k : Nat) : List Byte := (bs.drop o).take k

/-- The fail-safe payload (12 R342) and the fail-safe values of a receive session (12 R344). -/
def failSafe : List Byte := [0, 0, 0xFF, 0xFF] ++ List.replicate 12 0
def fsvBytes (v : Nat) : List Byte :=
  [BitVec.ofNat 8 v, BitVec.ofNat 8 (v / 256), ~~~BitVec.ofNat 8 v, ~~~BitVec.ofNat 8 (v / 256)] ++ List.replicate 12 0

/-- The record of a session at an output point (12 R345). -/
def SesChan.record (c : SesChan) (hsf : Bool) : SesRec :=
  { ph := c.ph, seq := c.use.seq, fresh := c.fresh, payload := if hsf then c.deliv else c.use.payload }

/-- A force is set (12 R345). -/
def Ses.force (v : Ses) : Ses := { v with forced := true, clearRun := 0 }

namespace State

def sess (s : State) (n : Nat) : Ses := look {} s.ses.tab n
def setSess (s : State) (n : Nat) (v : Ses) : State := { s with ses := { s.ses with tab := put {} s.ses.tab n v } }

/-! ### The two halves (12 R336, R337; 06 R200, R201) -/

/-- The session engine takes the table of the accepted program image at an address (12 R336); SES.COUNT (R356). -/
def takeSessions (s : State) (b : Nat) : State :=
  let s := (upFrom (s.pgNses b) 0).foldl (fun (s : State) i =>
    let (snum, fsv, addr, seed, wdog, k, px) := s.pgSes b i
    s.setSess (snum % 512)
      { cfgA := true, tx := snum.testBit 9, hsf := snum.testBit 10, ring2 := snum.testBit 11, fsv := BitVec.ofNat 16 fsv,
        addr := w32 addr, seed1 := w32 seed, wdog := wdog, k := k, px := px }) s
  let tx := (s.ses.tab.filter (fun e => e.2.cfgA && e.2.tx)).length
  let rx := (s.ses.tab.filter (fun e => e.2.cfgA && !e.2.tx)).length
  s.setReg (sesB + 8) (at_ 0 10 rx ||| at_ 16 10 tx)

/-- The offset in bank 0 of the entry of session n in channel B's half. -/
def sesEntB (s : State) (n : Nat) : Option Nat :=
  if !s.heldB then none
  else ((upFrom (s.bankNum 0xC 2) 0).map (fun i => 0x20E0 + 12 * i)).find? (fun o => s.bankNum o 2 % 512 == n)

/-- The sessions of channel B's half, in table order, with the offset of each entry. -/
def sessionsB (s : State) : List (Nat × Nat) :=
  if !s.heldB then []
  else (upFrom (s.bankNum 0xC 2) 0).map (fun i => (s.bankNum (0x20E0 + 12 * i) 2 % 512, 0x20E0 + 12 * i))

/-- The sessions of channel A's half. -/
def sessionsA (s : State) : List Nat := (s.ses.tab.filter (fun e => e.2.cfgA)).map (·.1)

def entTx (s : State) (o : Nat) : Bool := (s.bankNum o 2).testBit 9
def entHsf (s : State) (o : Nat) : Bool := (s.bankNum o 2).testBit 10

/-- Watchdog and fail-safe values of a session in a channel. -/
def sesWdog (s : State) (chB : Bool) (n : Nat) : Nat :=
  if chB then (match s.sesEntB n with | some o => s.bankNum (o + 8) 2 | none => 0) else (s.sess n).wdog
def sesFsv (s : State) (chB : Bool) (n : Nat) : Nat :=
  if chB then (match s.sesEntB n with | some o => s.bankNum (o + 2) 2 | none => 0) else (s.sess n).fsv.toNat
def sesSeed (s : State) (chB : Bool) (n : Nat) : Nat :=
  if chB then (match s.sesEntB n with | some o => s.bankNum (o + 4) 4 | none => 0) else (s.sess n).seed1.toNat

def sesCh (s : State) (chB : Bool) (n : Nat) : SesChan := if chB then (s.sess n).b else (s.sess n).a
def setSesCh (s : State) (chB : Bool) (n : Nat) (c : SesChan) : State :=
  s.setSess n (if chB then { s.sess n with b := c } else { s.sess n with a := c })

/-- Sessions are received, and sent, in these modes (12 R351). -/
def sesReceives (s : State) : Bool :=
  match s.md.mode with
  | .commission | .run | .quiet => true
  | _ => false

/-- A channel that has seen an invalid mode code treats the device as being in REACT, in which it receives nothing (02 R43). -/
def sesTakes (s : State) (chB : Bool) : Bool := s.sesReceives && !(if chB then s.md.badModeB else s.md.badModeA)

/-- Sessions are sent in these modes, but not in the idle cycle (01 R22). -/
def sesSends (s : State) : Bool :=
  s.md.tcycValid && match s.md.mode with
  | .commission | .run | .quiet | .react | .lockout | .service => true
  | _ => false

/-! ### Arrival (12 R339, R343, R350) -/

/-- A copy that has passed CRC and form reaches the sequence check; `m` is the modulus of SEQ (12 R343, R350). -/
def acceptCopy (s : State) (chB : Bool) (n m : Nat) (useEpoch : Bool) (c : Copy) : State :=
  let v := s.sesCh chB n
  let d := (c.seq.toNat + m - v.last.toNat % m) % m
  let sameEp := !useEpoch || c.epoch == v.ep
  if v.ph != .new && sameEp && !(decide (1 ≤ d) && decide (d < m / 2)) then
    if chB then s else s.countUp (sesB + 0x14)
  else
    let fresh := useEpoch && (v.ph == .new || !sameEp)
    let s := s.setSesCh chB n { v with last := c.seq, ep := if useEpoch then c.epoch else v.ep, cand := some c }
    if fresh && !chB then s.setSess n { s.sess n with newEp := true } else s

/-- A Suane copy at a channel's checker (12 R340, R341, R343). -/
def checkSuane (s : State) (chB : Bool) (n : Nat) (pdu : List Byte) : State :=
  let b0 := (pdu.getD 0 0).toNat
  let bad := b0 % 16 != 1 || b0 / 16 % 4 != (if chB then 2 else 1)
    || pduCrc (if chB then poly2 else poly1) (s.sesSeed chB n) (pdu.take 28) != natOfBE (sub pdu 28 4)
  if bad then (if chB then s else s.countUp (sesB + 0x10))
  else
    s.acceptCopy chB n (2 ^ 32) true
      { fs := (pdu.getD 1 0).toNat.testBit 0, epoch := pdu.getD 2 0, seq := BitVec.ofNat 32 (natOfBE (sub pdu 8 4)), payload := sub pdu 12 16 }

/-- An HSF frame at a channel's checker (12 R348, R350). Log entry 55, DEDUCED. -/
def checkHsf (s : State) (chB : Bool) (n : Nat) (pdu : List Byte) : State :=
  let b0 := (pdu.getD 0 0).toNat
  let len := b0 / 16
  let seed := s.sesSeed chB n
  let bad := b0 % 16 != 3 || !decide (1 ≤ len) || !decide (len ≤ 12) || natOfBE (sub pdu 2 4) != seed
    || pduCrc poly1 seed (pdu.take 20) != natOfBE (sub pdu 20 4)
  if bad then (if chB then s else s.countUp (sesB + 0x10))
  else
    s.acceptCopy chB n (2 ^ 16) false
      { fs := (pdu.getD 1 0).toNat.testBit 0, seq := BitVec.ofNat 32 (natOfBE (sub pdu 6 2)), payload := padTo 16 ((sub pdu 8 12).take len) }

/-- The receive session that an address names on a ring (12 R339). -/
def sesByAddr (s : State) (hsf r2 : Bool) (addr : Nat) : Option Nat :=
  match s.ses.tab.find? (fun e => e.2.cfgA && !e.2.tx && e.2.hsf == hsf && (!hsf || e.2.ring2 == r2) && e.2.addr.toNat == addr) with
  | some e => some e.1
  | none => none

/-- The receive session to whose checkers the ring network unit hands a frame of CLASS 0x01 or 0x02 (12 R339): none where ADDR
matches no receive session or PATH not the ring. -/
def sesLookup (s : State) (r2 : Bool) (cls : Nat) (pdu : List Byte) : Option Nat :=
  let hsf := decide (cls = 2)
  match s.sesByAddr hsf r2 (natOfBE (sub pdu (if hsf then 2 else 4) 4)) with
  | none => none
  | some n => if !hsf && (pdu.getD 0 0).toNat / 16 % 4 != (if r2 then 2 else 1) then none else some n

/-- A frame of CLASS 0x01 or 0x02 received on a ring (12 R339, R351): one without a session counts in NOADDR in every mode; one with
a session is checked where sessions are received, and not delivered otherwise. Log entry 54, DEDUCED. -/
def sesArrive (s : State) (r2 : Bool) (cls : Nat) (pdu : List Byte) : State :=
  match s.sesLookup r2 cls pdu with
  | none => s.countUp (sesB + 0x18)
  | some n =>
    let chk := fun (s : State) (chB : Bool) =>
      if !s.sesTakes chB then s else if cls = 2 then s.checkHsf chB n pdu else s.checkSuane chB n pdu
    if cls = 2 then chk (chk s false) true else chk s r2

/-- The frame is delivered to a checker (12 R339, R351). -/
def sesDelivers (s : State) (r2 : Bool) (cls : Nat) (pdu : List Byte) : Bool :=
  s.sesReceives && (s.sesLookup r2 cls pdu).isSome

/-! ### Delivery (12 R344) -/

/-- What a channel delivers of a session, from its state and the force it applies. -/
def deliver (s : State) (chB : Bool) (n : Nat) : State :=
  let v := s.sess n
  let c := s.sesCh chB n
  let force := if chB then v.forcedB else v.forcedA
  let live := !force && (c.ph == .live || c.ph == .held) && !c.use.fs
  s.setSesCh chB n { c with live := live, deliv := if live then c.use.payload else fsvBytes (s.sesFsv chB n) }

/-- One receive session at a strobe of a channel (12 R344). -/
def sesStrobe1 (s : State) (chB : Bool) (n : Nat) : State :=
  let c := s.sesCh chB n
  let c := match c.cand with
    | some x => { c with use := x, miss := 0, ph := .live, fresh := true, cand := none }
    | none =>
      if c.ph = .live ∨ c.ph = .held then
        let m := c.miss + 1
        if s.sesWdog chB n ≤ m then { c with miss := m, ph := .expired, wdx := c.wdx + 1, fresh := false }
        else { c with miss := m, ph := .held, fresh := false }
      else { c with fresh := false }
  (s.setSesCh chB n c).deliver chB n

/-- A receive session where sessions are not received delivers its fail-safe values (12 R351; log entry 25, DEDUCED). -/
def sesIdle (s : State) (chB : Bool) (n : Nat) : State :=
  s.setSesCh chB n { s.sesCh chB n with live := false, fresh := false, deliv := fsvBytes (s.sesFsv chB n) }

/-- SESFS (05 R153): the receive sessions that deliver fail-safe values to channel A. -/
def noteSesfs (s : State) : State :=
  let w := (s.ses.tab.filter (fun e => e.2.cfgA && !e.2.tx && !e.2.a.live)).foldl (fun (b : BitVec 512) e => b ||| bitAt 512 e.1) 0
  { s with chA := { s.chA with sesfs := w } }

/-- Every receive session of channel A at its strobe; its record for the col is what it delivered in the cycle that ends. -/
def sesStrobeA (s : State) : State :=
  let s := s.sessionsA.foldl (fun (s : State) n =>
    let v := s.sess n
    if v.tx then s
    else
      let s := s.setSess n { v with ra := v.a.record v.hsf }
      if s.sesTakes false then s.sesStrobe1 false n else s.sesIdle false n) s
  s.noteSesfs

/-- Every session of channel B at its strobe; it applies the force of the verdict before last, to transmit sessions as well (12
R346). -/
def sesStrobeB (s : State) : State :=
  s.sessionsB.foldl (fun (s : State) e =>
    let v := s.sess e.1
    if s.entTx e.2 then s.setSess e.1 { v with forcedB := v.forced }
    else
      let s := s.setSess e.1 { v with rb := v.b.record (s.entHsf e.2), forcedB := v.forced }
      if s.sesTakes true then s.sesStrobe1 true e.1 else s.sesIdle true e.1) s

/-! ### Transmission (12 R342, R348, R349; 06 R206) -/

/-- The PDU of a Suane copy (12 R340). -/
def suanePdu (path poly seed addr : Nat) (c : Copy) : List Byte :=
  let b := [BitVec.ofNat 8 (1 + 16 * path), BitVec.ofNat 8 c.fs.toNat, c.epoch, 0] ++ beOfNat 4 addr ++ beOfNat 4 c.seq.toNat ++ padTo 16 c.payload
  b ++ beOfNat 4 (pduCrc poly seed b)

/-- PDU bytes 0 to 19 of an HSF frame (12 R348). -/
def hsfHead (ident : Nat) (c : Copy) : List Byte :=
  [0xC3, BitVec.ofNat 8 c.fs.toNat] ++ beOfNat 4 ident ++ beOfNat 2 c.seq.toNat ++ padTo 12 c.payload

/-- The next HSF sequence (12 R349): 0 is skipped. -/
def hsfNext (q : BitVec 16) : BitVec 16 := if q + 1 = 0 then 1 else q + 1

/-- A transmit session at channel A's output point; `fs` for the cases of R342 that hold for every session of the channel. -/
def sesSendA (s : State) (n : Nat) (fs : Bool) (cyc : Word) : State :=
  let v := s.sess n
  let sent := look [] s.chA.sent n
  let fs := fs || v.forcedA || sent.isEmpty
  let pay := if fs then failSafe else sent
  if v.hsf then
    if s.ses.cyc % (max 1 v.px) != 0 then s
    else
      let q := hsfNext v.hsfSeq
      s.setSess n { v with hsfSeq := q, hsfDue := true, sentSeq := q.setWidth 32,
                           txA := { fs := fs, epoch := s.chA.epoch, seq := q.setWidth 32, payload := pay.take 12 } }
  else
    let c : Copy := { fs := fs, epoch := s.chA.epoch, seq := cyc + 1, payload := pay }
    (s.setSess n { v with txA := c, sentSeq := c.seq }).sendPdu false 1 (suanePdu 1 poly1 v.seed1.toNat v.addr.toNat c)

/-- Channel A's transmit sessions at its output point: `present` tells whether its record was written. The copies are those of the
cycle that ends; FS is set where the mode of that cycle or at its output point is not RUN (12 R342, 02 R44). -/
def sesOutA (s : State) (present : Bool) : State :=
  let fs := !present || s.chA.entryNow || s.chA.seenMode != some 6 || s.seesMode false != 6
  let cyc := s.chA.cycle
  let s := if s.sesSends then
      s.sessionsA.foldl (fun (s : State) n => if (s.sess n).tx then s.sesSendA n fs cyc else s) s
    else s
  { s with chA := { s.chA with sent := [] } }

/-- A transmit session at channel B's output point: the payload its builder left (06 R201), as a ring 2 copy for Suane. -/
def sesSendB (s : State) (n o : Nat) (fs : Bool) (cyc : BitVec 32) : State :=
  let v := s.sess n
  let fs := fs || v.forcedB
  let pay := if fs then failSafe else v.nextB
  let c : Copy := { fs := fs, epoch := s.lat.epoch, seq := cyc + 1, payload := if s.entHsf o then pay.take 12 else pay }
  let s := s.setSess n { v with txB := c }
  if s.entHsf o then s else s.sendPdu true 1 (suanePdu 2 poly2 (s.bankNum (o + 4) 4) v.addr.toNat c)

/-- Channel B's transmit sessions at its output point. -/
def sesOutB (s : State) (present : Bool) : State :=
  let fs := !present || s.lat.entryNow || s.lat.mode != 6 || s.seesMode true != 6
  let cyc := s.lat.cycle
  if s.sesSends then
    s.sessionsB.foldl (fun (s : State) e => if s.entTx e.2 then s.sesSendB e.1 e.2 fs cyc else s) s
  else s

/-! ### Session events (12 R354) -/

/-- An event of session n; a full queue loses its oldest entry. -/
def sesEvent (s : State) (n kind : Nat) : State :=
  if !bit (s.reg (sesB + 4)) 0 then s
  else
    let q := 48 + n / 32
    let s := if s.qFull q then (s.setBits sesB (flag 1 true)).qDrop q else s
    (s.qPush q (bytesOfNat 4 (n + 4096 * kind + 65536 * s.doneTag) ++ bytesOfNat 4 (s.now % 2 ^ 32))).1

/-! ### The col slot (12 R345, R349; 01 R31, R32) -/

/-- Channel B's check of an assembled HSF frame (12 R349): it is sent, or refused. -/
def hsfCheck (s : State) (n : Nat) (bPresent : Bool) : State :=
  let v := s.sess n
  let q := hsfNext v.hsfSeqB
  let v := { v with hsfSeqB := q, hsfDue := false }
  let head := hsfHead v.addr.toNat v.txA
  let crc := pduCrc poly1 v.addr.toNat head
  let ok := match s.sesEntB n with
    | none => false
    | some o =>
      bPresent && s.entTx o && s.entHsf o && pduCrc poly1 (s.bankNum (o + 4) 4) head == crc && v.txA.seq == q.setWidth 32
        && (v.txA.payload == v.txB.payload || (v.txA.fs && v.txA.payload == failSafe.take 12))
  if ok then (s.setSess n { v with f98 := false, txB := { v.txB with payload := v.txA.payload } }).sendPdu v.ring2 2 (head ++ beOfNat 4 crc)
  else
    let s := (s.setSess n { v with f98 := true }).countUp (sesB + 0xC)
    (s.driveIf (!v.f98) 98 (det n)).sesEvent n 6

/-- A payload compared (01 R31, R32): at its limit F003, once per episode, and the session is forced (12 R345). -/
def sesCompare (s : State) (n : Nat) (same : Bool) : State :=
  let k := look 0 s.col.missSs n
  if same then { s with col := { s.col with missSs := put 0 s.col.missSs n 0 } }
  else
    let s := { s with col := { s.col with missSs := put 0 s.col.missSs n (k + 1), ssDiff := true } }
    if k + 1 = 3 then (s.setSess n (s.sess n).force).drive 3 (det n) else s

/-- The row of R345 of a Suane receive session in cycle j, whose strobe was at time tj; `cyc` is T_cyc in ticks.
Log entry 52, DEDUCED. Log entry 53, DEDUCED. -/
def suaneSlot (s : State) (n tj cyc : Nat) : State :=
  let v := s.sess n
  let a := v.ra
  let b := v.rb
  let up := fun (p : SesPh) => p == .live || p == .held
  let bothUp := up a.ph && up b.ph
  let equal := bothUp && a.seq == b.seq
  let oneExp := (a.ph == .expired && up b.ph) || (b.ph == .expired && up a.ph)
  let bothExp := a.ph == .expired && b.ph == .expired
  let resync := a.ph == .live && b.ph == .live && a.fresh && b.fresh && equal
  let single := (a.fresh && b.ph == .held) || (b.fresh && a.ph == .held)
  let f96 := v.f96
  let f97 := v.f97
  let v := { v with f97 := oneExp || (v.f97 && v.forced) }
  let s := s.setSess n v
  let s :=
    if v.forced then
      if resync && decide (1 ≤ v.clearRun) then s.setSess n { v with forced := false, clearRun := 0, sp := 0, f97 := false }
      else s.setSess n { v with clearRun := if resync then v.clearRun + 1 else 0 }
    else if oneExp then s.setSess n v.force
    else if bothExp then s
    else if equal then (s.setSess n { v with sp := 0 }).sesCompare n (a.payload == b.payload)
    else if single then
      let sp := v.sp + 1
      if v.k ≤ sp then s.setSess n { v.force with sp := sp, f97 := true } else s.setSess n { v with sp := sp }
    else s.setSess n { v with sp := 0 }
  let v := s.sess n
  let paired := if equal then some tj else if bothUp then v.pairedAt else none
  let fail := match paired with
    | some tp => !equal && decide (tp + cyc + 2000 * v.px ≤ tj)
    | none => false
  let v := { v with pairedAt := paired, f96 := bothExp || fail }
  let s := s.setSess n (if fail && !v.forced then v.force else v)
  (s.driveIf (v.f96 && !f96) 96 (det n)).driveIf (v.f97 && !f97) 97 (det n)

/-- An HSF receive session in the col slot (12 R350, R355). -/
def hsfSlot (s : State) (n : Nat) : State :=
  let v := s.sess n
  let a := v.ra
  let b := v.rb
  let one := (a.ph == .expired) != (b.ph == .expired)
  let any := a.ph == .expired || b.ph == .expired
  let resync := a.ph == .live && b.ph == .live && a.fresh && b.fresh && a.seq == b.seq
  let was := v.f96
  let s := s.setSess n { v with f96 := any }
  let s :=
    if v.forced then
      if resync && decide (1 ≤ v.clearRun) then s.setSess n { s.sess n with forced := false, clearRun := 0 }
      else s.setSess n { s.sess n with clearRun := if resync then v.clearRun + 1 else 0 }
    else if one then s.setSess n (s.sess n).force
    else s.sesCompare n (a.payload == b.payload)
  s.driveIf (any && !was) 96 (det n)

/-- One session in the col slot. -/
def sesSlot1 (s : State) (n tj cyc : Nat) (bPresent : Bool) : State :=
  let v := s.sess n
  if v.tx then
    if !s.sesSends then s
    else if v.hsf then
      if v.hsfDue then
        let s := s.hsfCheck n bPresent
        s.sesCompare n ((s.sess n).txA.payload == (s.sess n).txB.payload)
      else s
    else s.sesCompare n (v.txA.payload == v.txB.payload)
  else if !s.sesReceives then s
  else if v.hsf then s.hsfSlot n
  else s.suaneSlot n tj cyc

/-- VSTAT of a session (12 R360). -/
def vstat (v : Ses) : Word :=
  let ph := match v.a.ph with | .new => 0 | .live => 1 | .held => 2 | .expired => 3
  if v.tx then flag 3 v.forced ||| at_ 16 8 v.txA.epoch.toNat
  else at_ 0 3 ph ||| flag 3 v.forced ||| flag 4 v.a.use.fs ||| at_ 8 8 (min v.a.miss 255) ||| at_ 16 8 v.a.ep.toNat ||| at_ 24 4 v.sp

/-- Channel A applies the force as its prologue reads the verdict; the events and mirrors of the slot (12 R346, R354, R357). -/
def sesMirror (s : State) (n : Nat) (was : Bool) : State :=
  let v := s.sess n
  let s := s.setSess n { v with forcedA := v.forced, newEp := false }
  let s := if v.tx then s else s.deliver false n
  let s := if v.newEp then s.sesEvent n 5 else s
  let s := if v.forced != was then s.sesEvent n (if v.forced then 3 else 4) else s
  let wasLive := bit s.ses.liveM n
  let live := !v.tx && (s.sess n).a.live
  let s := if wasLive && !live then s.sesEvent n 1
    else if !wasLive && live && bit (s.reg (sesB + 4)) 1 then s.sesEvent n 2 else s
  let v := s.sess n
  let s := s.setSess n { v with vstatM := vstat v, seqM := if v.tx then v.sentSeq else v.a.last }
  { s with ses := { s.ses with liveM := putBit s.ses.liveM n live, forceM := putBit s.ses.forceM n v.forced } }

/-- Every session of channel A's table in the col slot of a cycle whose strobe was at tj. Log entry 61, DEDUCED. -/
def sesColSlot (s : State) (tj cyc : Nat) (bPresent : Bool) : State :=
  let s := s.sessionsA.foldl (fun (s : State) n =>
    let was := (s.sess n).forced
    (s.sesSlot1 n tj cyc bPresent).sesMirror n was) s
  s.noteSesfs

/-! ### Registers (12 R356-R360) -/

/-- A word of the view of the session that a master has selected. -/
def sesView (s : State) (m o : Nat) : Word :=
  let n := (look 0 s.ses.sel m).toNat % 512
  let v := s.sess n
  if !v.cfgA then 0
  else if o = 0x104 then
    at_ 0 2 (if v.tx then 1 else 2) ||| flag 2 v.hsf ||| flag 3 v.ring2 ||| at_ 8 8 (if v.tx && v.hsf then v.px else 0)
      ||| at_ 16 16 v.fsv.toNat
  else if o = 0x108 then v.addr
  else if o = 0x10C then v.seed1
  else if o = 0x110 then at_ 0 16 v.wdog ||| at_ 16 4 v.k ||| at_ 20 8 (if v.tx && v.hsf then 0 else v.px)
  else if o = 0x114 then v.vstatM
  else if o = 0x118 then at_ 0 16 v.seqM.toNat
  else if o = 0x11C then (if v.hsf then 0 else at_ 0 16 (v.seqM.toNat / 65536))
  else if o = 0x120 then at_ 0 16 v.a.wdx.toNat
  else at_ 0 16 (v.a.wdx.toNat / 65536)

/-- A read in 0x104 to 0x124 (12 R357): a core's reads of the low halves latch the high ones, and its reads of the high halves
take what is latched. -/
def sesRead (s : State) (m o : Nat) : State × Word :=
  if m < 4 then
    if o = 0x118 then
      ({ s with ses := { s.ses with seqLatch := put none s.ses.seqLatch m (some (s.sesView m 0x11C)) } }, s.sesView m o)
    else if o = 0x120 then
      ({ s with ses := { s.ses with wdxLatch := put none s.ses.wdxLatch m (some (s.sesView m 0x124)) } }, s.sesView m o)
    else if o = 0x11C then
      (match look none s.ses.seqLatch m with
        | some w => ({ s with ses := { s.ses with seqLatch := put none s.ses.seqLatch m none } }, w)
        | none => (s, s.sesView m o))
    else if o = 0x124 then
      (match look none s.ses.wdxLatch m with
        | some w => ({ s with ses := { s.ses with wdxLatch := put none s.ses.wdxLatch m none } }, w)
        | none => (s, s.sesView m o))
    else (s, s.sesView m o)
  else (s, s.sesView m o)

end State

end Sys2Proof.Machine
end

