-- ==== Sys2Proof/Machine/Trust.lean ====
section
/-! DEFINITION. The trust engine (20) with slots, updates and commissioning (22): image acceptance, cairns, device key, quotes,
authorisations, the life cycle and its jobs. -/
namespace Sys2Proof.Machine

/-- The bytes of words, each little-endian, and the words of bytes. -/
def wordsOf : Nat → List Byte → List Word
  | 0, _ => []
  | k + 1, bs => w32 (natOfBytes (bs.take 4)) :: wordsOf k (bs.drop 4)

/-- Length of a signature block (20 R500). -/
abbrev blockLen : Nat := 7232

/-- Base and size of an image slot (16 R429): kinds 1 firmware, 2 application, 3 program and parameter. -/
def slotBase (kind slot : Nat) : Nat :=
  match kind with
  | 1 => nvBase + 0x400000 * slot
  | 2 => nvBase + 0x800000 + 0x1000000 * slot
  | _ => nvBase + 0x2800000 + 0x400000 * slot

def slotSize (kind : Nat) : Nat := if kind = 2 then 0x1000000 else 0x400000

/-- The slot number of F163's DETAIL (20 R501). -/
def slotNo (kind slot : Nat) : Nat := 2 * (kind - 1) + slot

namespace State

/-! ### Registers -/

/-- TRU.STAT (20 R520). -/
def truStat (s : State) : Word :=
  flag 0 s.tru.key.isSome ||| flag 1 s.tru.measOk ||| flag 2 s.tru.ext.isSome ||| (s.reg truB &&& 0x38) ||| flag 6 s.tru.advPend

/-- TRU.LC (20 R519). -/
def truLc (s : State) : Word := at_ 0 2 s.lc ||| at_ 4 4 s.lifeWord.toNat ||| flag 8 s.tru.wipePend

/-- TRU.AUTHSTAT (20 R519): whole seconds remaining, rounded down (DEDUCED, log entry 110). -/
def authStat (s : State) : Word :=
  match s.tru.auth with
  | none => 0
  | some a => at_ 0 2 a.kind ||| at_ 2 4 a.scope.toNat ||| at_ 8 24 ((a.expires - s.now) / 200000000)

/-- The journal of a kind. -/
def jrn (s : State) (kind : Nat) : JrnKind := match kind with | 1 => s.upd.fw | 2 => s.upd.app | _ => s.upd.prog

def setJrn (s : State) (kind : Nat) (j : JrnKind) : State :=
  match kind with
  | 1 => { s with upd := { s.upd with fw := j } }
  | 2 => { s with upd := { s.upd with app := j } }
  | _ => { s with upd := { s.upd with prog := j } }

/-- A byte of UPSTAT (22 R561). -/
def upByte (s : State) (kind : Nat) : Nat :=
  let j := s.jrn kind
  let c := match if j.standby1 then j.slot1 else j.slot0 with | .empty => 0 | .writing => 1 | .valid => 2
  (if j.first1 then 1 else 0) + 2 * c + (match s.upd.opened with | some (k, _) => if k = kind then 8 else 0 | none => 0)

/-- TRU.UPSTAT as read (22 R561). Log entry 145, DEDUCED. -/
def upStat (s : State) : Word :=
  at_ 0 8 (s.upByte 1) ||| at_ 8 8 (s.upByte 2) ||| at_ 16 8 (s.upByte 3) ||| at_ 24 8 s.upd.actSeq.toNat

/-- The job window's bytes (20 R519). -/
def winBytes (s : State) (o n : Nat) : List Byte :=
  (upFrom n o).map (fun i => BitVec.ofNat 8 (fld (s.reg (truB + 0x2000 + (i - i % 4))) (8 * (i % 4)) 8))

def winNum (s : State) (o n : Nat) : Nat := natOfBytes (s.winBytes o n)

/-- The window is cleared at the end of every job except QUOTE (20 R522). -/
def clearWin (s : State) : State :=
  { s with regs := s.regs.filter (fun e => e.1 < truB + 0x2000 || truB + 0x4000 ≤ e.1) }

/-- Bytes written to the window from its start. -/
def setWin (s : State) (bs : List Byte) : State :=
  ((wordsOf ((bs.length + 3) / 4) bs).foldl (fun (x : State × Nat) w => (x.1.setReg x.2 w, x.2 + 4)) (s, truB + 0x2000)).1

/-! ### Cairns (20 R503, R504) -/

def cairn (s : State) (c : Nat) : BitVec 512 := look 0 s.tru.cairns c

def cairnBytes (s : State) (c : Nat) : List Byte := bytesOfNat 64 (s.cairn c).toNat

/-- An extend with 64 bytes. -/
def extend (s : State) (c : Nat) (x : List Byte) : State :=
  { s with tru := { s.tru with cairns := put 0 s.tru.cairns c (Config.sha3_512 (s.cairnBytes c ++ x)) } }

/-- The OTP measurement's input (20 R506). -/
def otpMeasured (s : State) : List Byte :=
  (upFrom 12 0).flatMap (fun r => bytesOfWord (s.otpRstat r)) ++ bytesOfWord (w32 s.antiRb) ++ bytesOfWord s.lifeWord
    ++ bytesOfWord (w32 s.otpRepairs) ++ bytesOfWord (w32 s.bforce)
    ++ s.otpBytes 119 8 ++ s.otpBytes 183 8 ++ s.otpBytes 343 8
    ++ (match s.builderBase with | some b => s.otpBytes (b + 119) 8 | none => List.replicate 32 0)

/-! ### Image acceptance (20 R499-R501, R516) -/

/-- Key hash slot `sel` of a key region at word `b`. -/
def keyHash (s : State) (b sel : Nat) : List Byte := s.otpBytes (b + 1 + 16 * sel) 16

/-- A public key is one that a builder image or authorisation may use (20 R501, R514). -/
def builderKey (s : State) (sel : Nat) (pub : List Byte) : Bool :=
  match s.builderBase with
  | none => false
  | some b => decide (sel ≤ 1) && (sel == 0 || s.builderOpt 2) && s.keyHash b sel == shaBytes pub

/-- A public key is one of the VENDOR keys, which act only while their region is LOCKED (19 R487). -/
def vendorKey (s : State) (sel : Nat) (pub : List Byte) : Bool :=
  s.isLocked 4 && decide (sel ≤ 1) && s.keyHash 228 sel == shaBytes pub

/-- The key check of an image (20 R501, R516). -/
def imageKey (s : State) (kind sel : Nat) (pub : List Byte) : Bool :=
  if kind = 1 then s.vendorKey sel pub
  else match s.lc with
    | 0 => true
    | 3 => false
    | _ => s.builderKey sel pub

/-- Bytes of NV that read uncorrectable lie in [a, a + n). -/
def nvBad (s : State) (a n : Nat) : Bool := s.mem.bad.any (fun w => decide (a < w + 8) && decide (w < a + n))

/-- The refusal reason of an image of `len` bytes at `a` with room for `room` bytes, of a KIND code; 0 when it is accepted (20
R501). Log entry 132, DEDUCED. -/
def imageReason (s : State) (kind a len room : Nat) : Nat :=
  let b := a + len
  let pub := s.bytes (b + 8) 2592
  let sel := s.num (b + 4) 1
  if room < len + blockLen then 1
  else if s.nvBad a (len + blockLen) then 5
  else if s.num b 4 ≠ 0x4B534C42 ∨ s.num (b + 5) 1 ≠ kind ∨ s.num (b + 7) 1 ≠ 0 ∨ s.num (b + 7227) 5 ≠ 0
      ∨ (kind ≠ 1 ∧ s.num (b + 6) 1 ≠ 0) then 1
  else if !s.imageKey kind sel pub then 2
  else if !Config.mldsaVerify pub (shaBytes (s.bytes a len) ++ s.bytes b 8) (s.bytes (b + 2600) 4627) then 3
  else if kind = 1 ∧ (s.num (b + 6) 1 < s.antiRb ∨ 128 < s.num (b + 6) 1) then 4
  else 0

/-- The images of a slot: KIND code, address, length and the room left in the slot (22 R554, R557, R559). -/
def slotImages (s : State) (kind slot : Nat) : List (Nat × Nat × Nat × Nat) :=
  let b := slotBase kind slot
  let size := slotSize kind
  match kind with
  | 1 => [(1, b, Config.firmwareLen (s.bytes b 64), size)]
  | 2 => [(2, b, s.num (b + 8) 4, size)]
  | _ =>
    let len := s.num (b + 8) 4
    let q := b + (len + blockLen + 63) / 64 * 64
    [(3, b, len, size), (4, q, s.num (q + 8) 4, b + size - q)]

/-- The refusals of a slot: KIND code and reason of each image refused. An application image whose header is out of order is
refused for its format (22 R557). -/
def slotRefusals (s : State) (kind slot : Nat) : List (Nat × Nat) :=
  ((s.slotImages kind slot).map (fun x =>
    let r := s.imageReason x.1 x.2.1 x.2.2.1 x.2.2.2
    (x.1, if r = 0 ∧ kind = 2 ∧ !s.appOk x.2.1 then 1 else r))).filter (fun x => x.2 != 0)

/-- F163 for each refusal (20 R501). -/
def noteRefused (s : State) (kind slot : Nat) (rs : List (Nat × Nat)) : State :=
  rs.foldl (fun (s : State) x => s.driveItem 163 (det (slotNo kind slot + 256 * x.1 + 4096 * x.2))) s

/-- The slots of a kind in the order in which a start tries them: never one that is not VALID (22 R558). -/
def slotOrder (j : JrnKind) : List Nat :=
  (if j.first1 then [1, 0] else [0, 1]).filter (fun k => (if k = 1 then j.slot1 else j.slot0) == .valid)

/-- The accepted slot of a kind with the state that notes the refusals, and the bits ALT and ROLLBK (20 R501, R521). -/
def tryTake (s : State) (kind : Nat) : List Nat → Bool → Bool → State × Option Nat × Bool × Bool
  | [], alt, rb => (s, none, alt, rb)
  | k :: ks, alt, rb =>
    match s.slotRefusals kind k with
    | [] => (s, some k, alt, rb)
    | rs => (s.noteRefused kind k rs).tryTake kind ks true (rb || rs.any (fun x => x.2 == 4))

/-- A kind's images at start (20 R501, R521; 22 R557 standby). -/
def takeKind (s : State) (kind : Nat) : State × Option Nat :=
  let r := s.tryTake kind (slotOrder (s.jrn kind)) false false
  let byte := match r.2.1 with
    | some k => at_ 0 1 k ||| flag 1 true ||| flag 2 r.2.2.1 ||| flag 3 r.2.2.2
    | none => flag 2 r.2.2.1 ||| flag 3 r.2.2.2
  let t := r.1
  let place := fun (w : Word) (n : Nat) => putFld w (8 * n) 8 byte.toNat
  let w := t.reg (truB + 8)
  let w := match kind with | 1 => place w 0 | 2 => place w 1 | _ => place (place w 2) 3
  let t := (t.setReg (truB + 8) w).setJrn kind { t.jrn kind with standby1 := r.2.1 == some 0 }
  ({ t with tru := { t.tru with slots := put none t.tru.slots kind r.2.1 } }, r.2.1)

/-- An accepted image is measured: its cairn and C9 (20 R504). -/
def measure (s : State) (x : Nat × Nat × Nat × Nat) : State :=
  let m := Config.sha3_512 (s.bytes x.2.1 x.2.2.1)
  let pub := s.bytes (x.2.1 + x.2.2.1 + 8) 2592
  let s := (s.extend (x.1 + 1) (bytesOfNat 64 m.toNat)).extend 9 (shaBytes pub)
  { s with tru := { s.tru with meas := put 0 s.tru.meas x.1 m } }

def measureAll (s : State) (kind slot : Nat) : State := (s.slotImages kind slot).foldl measure s

/-- NV read errors in populated slots are found as every slot is hashed (20 R505 step 3). -/
def hashSlots (s : State) : State :=
  let inSlot := fun (w : Nat) => [1, 2, 3].any (fun k =>
    ((s.jrn k).slot0 != .empty && decide (slotBase k 0 ≤ w) && decide (w < slotBase k 0 + slotSize k))
      || ((s.jrn k).slot1 != .empty && decide (slotBase k 1 ≤ w) && decide (w < slotBase k 1 + slotSize k)))
  let s' := if s.mem.bad.any inSlot then s.memStat 2 else s
  (s.mem.soft.filter inSlot).foldl (fun (t : State) w => (t.unsoft w).satUp (memB + 0x20) 0 16) s'

/-- Steps 1 to 5 of R505, at VERIFY entry: firmware with the runtime and the release of the safety processor (04 R98), the
application image copied for the cores (22 R557), the program and parameter pair with the runtime's and the collector's checks
(05 R138-R141). Without an accepted runtime no program is loaded. Log entry 71, DEDUCED. -/
def verifyImages (s : State) : State :=
  if s.tru.fault then s
  else
    let s := (s.extend 0 (shaBytes s.otpMeasured)).extend 1 (shaBytes (bytesOfWord (s.reg (bstB + 0xC))))
    let s := s.hashSlots
    let fw := s.takeKind 1
    let s := fw.1
    let s := match fw.2 with
      | none => s
      | some k =>
        let x := (s.slotImages 1 k).headD (1, 0, 0, 0)
        let s := s.measureAll 1 k
        { s with md := { s.md with firmwareOk := true }, chA := { s.chA with loadRt := true },
                 tru := { s.tru with arb := s.num (x.2.1 + x.2.2.1 + 6) 1 },
                 sp := { s.sp with run := .running, started := true, pc := 0 } }
    let app := s.takeKind 2
    let s := app.1
    let s := match app.2 with
      | none => s
      | some k =>
        let b := slotBase 2 k
        let s := s.measureAll 2 k
        let s := s.overwrite (s.num (b + 0xC) 4) (s.bytes (b + 0x20) (s.num (b + 8) 4 - 0x20))
        { s with md := { s.md with appEntry := some (w32 (s.num (b + 0x10) 4)) } }
    if fw.2.isNone then s
    else
      let cf := s.takeKind 3
      let s := cf.1
      match cf.2 with
      | none => s
      | some k =>
        let b := slotBase 3 k
        let s := s.measureAll 3 k
        let s := s.loadProgram b
        if s.pgOk b then
          let s := ((s.takeReactions (b + 0x100)).bindAxes).takeSessions b
          { s with md := { s.md with pairOk := true, tcyc := s.pgTcyc b } }
        else s

/-- The parameter image released to the loader: its address and length, with the slot asked for (06 R203). -/
def released (s : State) (slot : Nat) : Option (Nat × Nat) :=
  if look none s.tru.slots 3 = some slot then
    match s.slotImages 3 slot with
    | [_, (_, q, len, _)] => some (q, len)
    | _ => none
  else none

/-! ### Device key, commissioning records, mode decision (20 R505, R508; 22 R565, R566) -/

/-- The device key of this start (20 R508). -/
def makeKey (s : State) : State :=
  let d := Config.sha3_512 (s.otpBytes 131 8 ++ [BitVec.ofNat 8 s.lc])
  let k : BitVec 256 := d.setWidth 256
  let s := { s with tru := { s.tru with key := some k } }
  s.extend 7 (shaBytes (bytesOfNat 2592 (Config.mldsaPublic k).toNat))

/-- The device public key's bytes; none without a key. -/
def devPk (s : State) : List Byte :=
  match s.tru.key with
  | some k => bytesOfNat 2592 (Config.mldsaPublic k).toNat
  | none => []

abbrev recRegion : Nat := nvBase + 0x3000000

/-- Bytes 0 to 191 of a commissioning record (22 R565). -/
def recHead (s : State) (ccv : Nat) (opid date : List Byte) : List Byte :=
  bytesOfNat 4 0x434D5243 ++ bytesOfNat 2 1 ++ [BitVec.ofNat 8 s.lc, BitVec.ofNat 8 ((look none s.tru.slots 3).getD 0)]
    ++ s.serial ++ bytesOfNat 4 s.upd.actSeq.toNat ++ bytesOfNat 4 ccv ++ padTo 16 opid ++ padTo 8 date
    ++ bytesOfNat 64 (look 0 s.tru.meas 3).toNat ++ bytesOfNat 64 (look 0 s.tru.meas 4).toNat ++ List.replicate 16 0

/-- The CCVs of both channels (22 R562, 06 R207). -/
def ccvA (s : State) : Word := s.reg (sioB + 0x30)
def ccvB (s : State) : Word := s.reg (sioB + 0x28)

/-- The record in slot i is valid (22 R566). -/
def recordValid (s : State) (i : Nat) : Bool :=
  let a := recRegion + 8192 * i
  let ccv := s.num (a + 20) 4
  !s.nvBad a 4819 && s.bytes a 192 == s.recHead ccv (s.bytes (a + 24) 16) (s.bytes (a + 40) 8)
    && w32 ccv == s.ccvA && w32 ccv == s.ccvB
    && Config.mldsaVerify s.devPk (s.bytes a 192) (s.bytes (a + 192) 4627)

/-- The newest valid record, searched from the newest slot back (22 R566). -/
def findRecord (s : State) : Option Nat :=
  ((upFrom 128 1).map (fun k => (s.upd.nextRec + 128 - k) % 128)).find? s.recordValid

/-- The mode decision that ends VERIFY with its cause (02 R47, R61; 20 R516): where several conditions for LOCKOUT hold, the cause is
that of the first of them in the order of R47 (log entry 114, DESIGN CHOICE). -/
def decision (s : State) : Mode × Nat :=
  if !s.md.firmwareOk then (.lockout, 0x33)
  else if s.md.latch then (.lockout, 0x31)
  else if s.md.startC3 then (.lockout, 0x36)
  else if s.lc = 3 ∨ !s.md.pairOk then (.idle, 0x21)
  else if s.findRecord.isSome then (.run, 0x23)
  else (.commission, 0x22)

/-- A step from VERIFY into a mode in which both channels run: a configuration in force fixes T_cyc (01 R22, R40). -/
def leaveVerify (s : State) (m : Mode) (cause : Nat) : State :=
  let fixed := m == .run || m == .commission
  let s := { s with md := { s.md with decision := none, tcycValid := fixed, tcyc := if fixed then s.md.tcyc else 3 } }
  (s.firstWindow s.md.tcyc).toMode m cause

/-- The decision as it stands when VHOLD no longer holds it back: a C3 fault received meanwhile leads to LOCKOUT (02 R47, R48; 10
R296). -/
def finalDecision (s : State) (d : Mode × Nat) : Mode × Nat :=
  if s.md.startC3 ∧ d.1 ≠ Mode.lockout then (.lockout, 0x36) else d

/-- Steps 6 to 8 of R505: device key, record, decision. A transition to LOCKOUT does not wait for VHOLD (22 R551). The checks
are complete once the loader has run on a released image. -/
def decideMode (s : State) : State :=
  if s.md.mode ≠ .verify ∨ s.md.decision.isSome ∨ (s.md.pairOk ∧ !s.md.loaderRan) then s
  else
    let s := if s.tru.fault then s else s.makeKey
    let s := match s.findRecord with
      | some i => s.extend 6 (shaBytes (s.bytes (recRegion + 8192 * i) 4819))
      | none => s
    let s := { s with tru := { s.tru with measOk := !s.tru.fault, advPend := s.md.firmwareOk && decide (s.antiRb < s.tru.arb) } }
    let d := s.decision
    let s := if s.sp.rtendSet ∨ !s.md.firmwareOk then s
      else { s with sp := { s.sp with rtendSet := true, rtend := if s.chA.loadProg then w32 s.cbaseA else 0x10000 } }
    if d.1 = Mode.lockout ∨ s.md.vholdCharged then s.leaveVerify d.1 d.2
    else { s with md := { s.md with decision := some d } }

/-! ### Jobs (20 R522, 21 R530) -/

def truBusy (s : State) : Bool := match s.tru.job with | some j => !j.lost | none => false

/-- A TRU job ends (20 R522): its result, and the window cleared for every job but QUOTE. -/
def truEnd (s : State) (ok : Bool) (result : Nat) (keep : Bool) : State :=
  let s := { (s.jobStat (truB + 0x48) ok result) with tru := { s.tru with job := none } }
  if keep then s else s.clearWin

/-- The trust engine serves jobs in these modes: not in START and VERIFY (20 R522). -/
def truModes (s : State) : Bool :=
  match s.md.mode with
  | .off | .reset | .start | .verify => false
  | _ => true

/-- The modes of an update job of a kind (22 R559). -/
def upModes (s : State) (kind : Nat) : Bool :=
  match kind, s.md.mode with
  | 1, .service => true
  | 2, .idle | 2, .commission | 2, .run | 2, .service => true
  | 3, .idle | 3, .commission | 3, .service => true
  | _, _ => false

/-- The pending authorisation is of a kind. -/
def hasAuth (s : State) (kind : Nat) : Bool := match s.tru.auth with | some a => a.kind == kind | none => false

/-- LCADV's conditions (20 R517): the refusal code, or none. -/
def lcRefusal (s : State) (target : Nat) : Option Nat :=
  if target = 0 ∨ 3 < target then some 0x0002
  else
    match s.lc, target, s.md.mode with
    | 0, 1, .idle => if s.isLocked 5 then none else some 0x0004
    | 1, 2, .service => if s.hasAuth 1 then none else some 0x0003
    | 0, 3, .idle | 1, 3, .service | 2, 3, .service => if s.hasAuth 3 then none else some 0x0003
    | _, _, _ => some 0x0001

/-- A job's refusal at its start (20 R522, 22 R559, R560). -/
def truRefusal (s : State) (op arg : Nat) : Option Nat :=
  if s.tru.fault then some 0x0020
  else
    match op with
    | 1 | 2 | 5 => none
    | 3 => s.lcRefusal arg
    | 4 => if s.md.mode = .service then none else some 0x0001
    | 8 | 9 | 10 =>
      if arg < 1 ∨ 3 < arg then some 0x0002 else if s.upModes arg then none else some 0x0001
    | 11 => if s.md.mode = .commission then none else some 0x0001
    | _ => some 0x0002

/-- A TRU.JOBCMD write (20 R522): ignored with a wrong KEY, in START and VERIFY, or while a job runs. LCADV and NVWIPE write their
mark as they start (20 R518, 16 R435). Log entry 144, DESIGN CHOICE. -/
def truCmd (s : State) (op arg key : Nat) : State × Nat :=
  if key ≠ 0x5A ∨ !s.truModes ∨ s.truBusy then (s, stIgnored)
  else
    match s.truRefusal op arg with
    | some c => (s.truEnd false c false, stOk)
    | none =>
      let s := (s.setReg (truB + 0x48) 1)
      ({ s with tru := { s.tru with job := some { op := op, arg := arg }, wipePend := s.tru.wipePend || op == 3 },
                mem := { s.mem with wipe := s.mem.wipe || op == 4 } }, stOk)

/-- Any JOBCMD word. -/
def truJobCmd (s : State) (v : Word) : State × Nat := s.truCmd (fld v 0 4) (fld v 4 4) (fld v 24 8)

/-! ### Quotes (20 R510, R511) -/

/-- SYS.MODECNT (02 R65). -/
def modeCnt (s : State) : Word := at_ 0 8 s.md.reacts ||| at_ 8 8 s.md.locks ||| at_ 16 8 s.md.holds ||| at_ 24 8 s.md.restarts

/-- FLT.CLSCNT (10 R300). -/
def clsCnt (s : State) : Word := at_ 0 8 s.flt.c0 ||| at_ 8 8 s.flt.c1 ||| at_ 16 8 s.flt.c2 ||| at_ 24 8 s.flt.c3

/-- The cairns a mask selects, in ascending order. -/
def maskCairns (mask : Nat) : List Nat := (upFrom 16 0).filter (fun c => mask.testBit c)

/-- A quote's bytes before its signature (20 R510). -/
def quoteHead (s : State) (mask : Nat) (nonce : List Byte) : List Byte :=
  let cs := maskCairns mask
  bytesOfNat 4 0x51545A49 ++ bytesOfNat 2 1 ++ [BitVec.ofNat 8 s.lc, BitVec.ofNat 8 s.md.mode.code] ++ s.serial
    ++ bytesOfNat 8 s.now ++ padTo 32 nonce ++ bytesOfNat 2 mask ++ [BitVec.ofNat 8 s.antiRb, BitVec.ofNat 8 s.bforce]
    ++ bytesOfWord s.clsCnt ++ bytesOfWord s.modeCnt ++ (if s.lat.loaded then bytesOfWord s.ccvB else bytesOfWord 0)
    ++ bytesOfNat 4 (80 + 64 * cs.length + 4627) ++ bytesOfNat 4 0 ++ cs.flatMap s.cairnBytes

/-- A signature with the device key, hedged by fresh entropy (20 R511). -/
def sign (s : State) (msg : List Byte) : State × List Byte :=
  (s.drawn, bytesOfNat 4627 (Config.mldsaSign (s.tru.key.getD 0) (Config.entropy s.fresh) msg).toNat)

/-- A whole quote. -/
def quote (s : State) (mask : Nat) (nonce : List Byte) : State × List Byte :=
  let h := s.quoteHead mask nonce
  let r := s.sign h
  (r.1, h ++ r.2)

/-! ### Authorisations (20 R513-R515) -/

/-- The first check that an authorisation in the window fails (20 R513, R514, R522); 0 when it is accepted. -/
def authResult (s : State) : Nat :=
  let kind := s.winNum 4 1
  let sel := s.winNum 5 1
  let scope := s.winNum 6 2
  let dur := s.winNum 48 4
  let pub := s.winBytes 64 2592
  let nonce := s.winBytes 16 32
  if s.winNum 0 4 ≠ 0x41555448 ∨ kind < 1 ∨ 3 < kind ∨ s.winNum 52 12 ≠ 0 ∨ (if kind = 2 then 15 < scope else scope ≠ 0) then 0x0010
  else if s.winBytes 8 8 ≠ s.serial then 0x0011
  else if (match s.tru.chal with | some c => bytesOfNat 32 c.toNat != nonce | none => true) then 0x0012
  else if !(if kind = 3 then s.vendorKey sel pub else s.builderKey sel pub) then 0x0013
  else if (kind = 1 ∧ !s.builderOpt 0) ∨ (kind = 2 ∧ !s.builderOpt 1) then 0x0014
  else if !Config.mldsaVerify pub (s.winBytes 0 64) (s.winBytes 2656 4627) then 0x0015
  else if dur < 1 ∨ 86400 < dur then 0x0016
  else if !(if kind = 3 then decide (s.lc ≤ 2) else s.lc == 1 || s.lc == 2) then 0x0017
  else 0

/-- The AUTH job: the challenge is consumed whatever the outcome (20 R512-R515). -/
def runAuth (s : State) : State :=
  let r := s.authResult
  if r = 0 then
    let a : Auth := { kind := s.winNum 4 1, scope := BitVec.ofNat 4 (s.winNum 6 2), expires := s.now + s.winNum 48 4 * 200000000 }
    let s := s.extend 8 (shaBytes (s.winBytes 0 64))
    { s with tru := { s.tru with auth := some a, chal := none } }.truEnd true 0 false
  else
    let s := { s with tru := { s.tru with chal := none } }
    ((s.setBits truB (flag 4 true)).driveItem 164 0).truEnd false r false

/-- A halt of core k is allowed with a set of cores that an authorisation names (20 R516, 21 R536). -/
def coreHaltWith (s : State) (named : Bool) : Bool :=
  match s.lc with
  | 0 => s.md.mode != .run
  | 1 => s.md.mode != .run || named
  | 2 => named
  | _ => true

/-- The pending debug authorisation names core k. -/
def debugNames (s : State) (k : Nat) : Bool :=
  match s.tru.auth with
  | some a => a.kind == 2 && bit a.scope k
  | none => false

/-- The debug attachment that the authorisation allowed ends (21 R538): its cores resume and lose their breakpoints. -/
def debugDrop (s : State) : State :=
  (upFrom 4 0).foldl (fun (t : State) k =>
    if s.debugNames k && !s.coreHaltWith false then
      let t := t.resumeCore k
      { t with dbg := { t.dbg with bps := t.dbg.bps.filter (fun e => e.1 / 4 != k) } }
    else t) s

/-- The pending authorisation ends, by expiry or by DEAUTH (20 R515): in SERVICE the device goes to RESET. -/
def authEnd (s : State) : State :=
  let t := s.debugDrop
  let t := { t with tru := { t.tru with auth := none } }
  if s.tru.auth.isSome ∧ s.md.mode = .service then t.toMode .reset 3 else t

/-! ### Updates (22 R558-R560) -/

/-- The standby slot of a kind. -/
def standby (s : State) (kind : Nat) : Nat := if (s.jrn kind).standby1 then 1 else 0

def standbySt (s : State) (kind : Nat) : SlotImg := let j := s.jrn kind; if j.standby1 then j.slot1 else j.slot0

def setStandby (s : State) (kind : Nat) (v : SlotImg) : State :=
  let j := s.jrn kind
  s.setJrn kind (if j.standby1 then { j with slot1 := v } else { j with slot0 := v })

/-- The update of a kind that is open, with its write position. -/
def openOf (s : State) (kind : Nat) : Option Nat :=
  match s.upd.opened with
  | some (k, p) => if k = kind then some p else none
  | none => none

def runUpbegin (s : State) (kind : Nat) : State :=
  let s := s.setStandby kind .writing
  { s with upd := { s.upd with opened := some (kind, 0) } }.truEnd true 0 false

/-- UPDATA: bytes of the window to the standby slot (22 R559). An NV write that fails ends the job as a failed record write
(log entry 7, DEDUCED). -/
def runUpdata (s : State) (kind : Nat) (nvFail : Bool) : State :=
  let n := fld (s.reg (truB + 0x44)) 0 16
  match s.openOf kind with
  | none => s.truEnd false 0x0030 false
  | some p =>
    if n = 0 ∨ 8192 < n then s.truEnd false 0x0037 false
    else if slotSize kind < p + n then s.truEnd false 0x0031 false
    else
      let r := s.nvStore (slotBase kind (s.standby kind) + p) (s.winBytes 0 n)
      if nvFail ∨ !r.2 then ((r.1.memStat 3).drive 137 0).truEnd false 0x0044 false
      else { r.1 with upd := { r.1.upd with opened := some (kind, p + n) } }.truEnd true 0 false

/-- UPACT (22 R559, R560). -/
def runUpact (s : State) (kind : Nat) : State :=
  let other : Bool := match s.upd.opened with | some (k, _) => k != kind | none => false
  if other ∨ (s.upd.opened.isNone ∧ s.standbySt kind = .writing) then s.truEnd false 0x0030 false
  else if s.standbySt kind = .empty then s.truEnd false 0x0038 false
  else
    let k := s.standby kind
    match s.slotRefusals kind k with
    | [] =>
      let s := s.setStandby kind .valid
      let s := s.setJrn kind { s.jrn kind with first1 := k == 1 }
      { s with upd := { s.upd with opened := none, actSeq := if kind = 3 then s.upd.actSeq + 1 else s.upd.actSeq } }.truEnd true 0 false
    | x :: xs => (s.noteRefused kind k (x :: xs)).truEnd false (0x0031 + x.2) false

/-- CONFIRM (22 R563-R565): refused in code order; the record is written to the next slot and C6 extended; RUN follows at the
end of the col slot. A fault received meanwhile refuses the job and leaves the record. -/
def runConfirm (s : State) (nvFail : Bool) : State :=
  let ccv := s.winNum 0 4
  let faulted := s.coincides || (s.md.mode == .react || s.md.mode == .quiet)
  if s.md.mode ≠ .commission ∧ !faulted then s.truEnd false 0x0006 false
  else if s.md.trel.isSome then s.truEnd false 0x0040 false
  else if w32 ccv ≠ s.ccvA then s.truEnd false 0x0041 false
  else if w32 ccv ≠ s.ccvB then s.truEnd false 0x0042 false
  else if s.winNum 4 16 = 0 then s.truEnd false 0x0043 false
  else
    let h := s.recHead ccv (s.winBytes 4 16) (s.winBytes 20 8)
    let r := s.sign h
    let rec_ := h ++ r.2
    let w := r.1.nvStore (recRegion + 8192 * s.upd.nextRec) rec_
    if nvFail ∨ !w.2 then ((w.1.memStat 3).drive 137 0).truEnd false 0x0044 false
    else
      let t := { w.1 with upd := { w.1.upd with nextRec := (w.1.upd.nextRec + 1) % 128 } }
      if faulted then t.truEnd false 0x0045 false
      else { (t.extend 6 (shaBytes rec_)) with md := { t.md with confirmDue := true } }.truEnd true 0 false

/-! ### Life cycle (20 R518) -/

/-- The LIFE words that LCADV burns. -/
def lifeWords (target : Nat) : List Nat := if target = 3 then upFrom 16 208 else upFrom 8 (192 + 8 * (target - 1))

def burnLife (s : State) (target : Nat) (e : BurnEnv) (stop : Bool) : Burn :=
  (lifeWords target).foldl (fun (b : Burn) w => Burn.word e b w 0xFFFFFFFF)
    { s := s, left := if stop || e.vlBad then some e.words.toNat else none }

/-- Steps 3 to 5 of LCADV: the wipe and the RESET always follow the burn (20 R518). -/
def runLcadv (s : State) (target : Nat) (e : BurnEnv) (stop : Bool) : State :=
  let t := (s.burnLife target e stop).s.wipeUser
  { t with tru := { t.tru with wipePend := false, job := none } }.toMode .reset 2

/-- The end of the running TRU job. -/
def truJobEnd (s : State) (j : TruJob) (e : BurnEnv) (nvFail : Bool) : State :=
  if j.lost then
    let s := if j.op = 3 then (s.burnLife j.arg e true).s else s
    { s with tru := { s.tru with job := none } }
  else
    match j.op with
    | 1 =>
      let r := s.quote (fld (s.reg (truB + 0x44)) 0 16) (s.winBytes 0 32)
      (r.1.setWin r.2).truEnd true 0 true
    | 2 => s.runAuth
    | 3 => s.runLcadv j.arg e j.stopped
    | 4 =>
      if j.stopped then s.truEnd false 0x0006 false
      else { s.wipeUser with mem := { s.wipeUser.mem with wipe := false } }.truEnd true 0 false
    | 5 => (s.truEnd true 0 false).authEnd
    | 8 => if s.upModes j.arg then s.runUpbegin j.arg else s.truEnd false 0x0006 false
    | 9 => if s.upModes j.arg then s.runUpdata j.arg nvFail else s.truEnd false 0x0006 false
    | 10 => if s.upModes j.arg then s.runUpact j.arg else s.truEnd false 0x0006 false
    | _ => s.runConfirm nvFail

/-! ### Anti-rollback (20 R502) -/

/-- F162 with its effects (20 R502, R508, R520). -/
def truFault (s : State) : State := (s.noteOutside 162 0).drive 162 0

/-- The thermometer positions still to burn, lowest first. -/
def advBits (s : State) : List Nat := upFrom (s.tru.arb - s.antiRb) s.antiRb

/-- The tally burned bit by bit; the command's word count is the bits burned before an interruption. -/
def advance (s : State) (e : BurnEnv) : State :=
  let b := s.advBits.foldl (fun (b : Burn) p => Burn.word e b (224 + p / 32) (bitAt 39 (p % 32)))
    { s := s, left := if e.vlBad then some e.words.toNat else none }
  if b.failed.isSome then
    { (b.s.setBits truB (flag 5 true)) with tru := { b.s.tru with advPend := false } }.truFault
  else if b.stopped then b.s
  else { b.s with tru := { b.s.tru with advPend := false } }

/-! ### Queued quotes (20 R509) -/

/-- Bytes written to working memory by the trust engine, 8 bytes at a time (16 R426, R427); false on an ERROR response. -/
def truWrite (s : State) (a : Nat) : Nat → List Byte → State × Bool
  | 0, _ => (s, true)
  | k + 1, bs =>
    if bs.isEmpty then (s, true)
    else
      let r := s.ramWrite 9 a (bs.take 8)
      if r.2 = stOk then r.1.truWrite (a + 8) k (bs.drop 8) else (r.1, false)

/-- The result entry of Q125. -/
def quoteResult (rtag status dest len : Nat) : List Byte :=
  [BitVec.ofNat 8 rtag, BitVec.ofNat 8 status, 0, 0] ++ bytesOfNat 4 dest ++ bytesOfNat 4 len

/-- One Q124 entry served. -/
def serveQuote (s : State) (e : List Byte) : State :=
  let n := fun (o k : Nat) => natOfBytes ((e.drop o).take k)
  let dest := n 4 4
  let len := 80 + 64 * (maskCairns (n 0 2)).length + 4627
  let fin := fun (s : State) (status len : Nat) => (s.qPush 125 (quoteResult (n 3 1) status dest len)).1
  if n 2 1 ≠ 1 ∨ n 8 24 ≠ 0 then fin s 1 0
  else if dest % 8 ≠ 0 ∨ 0x10000000 < dest + len then fin s 2 0
  else if s.tru.fault ∨ s.tru.key.isNone then fin s 3 0
  else if s.revoked 9 then fin s 4 0
  else
    let q := s.quote (n 0 2) ((e.drop 32).take 32)
    let w := q.1.truWrite dest (len / 8 + 1) q.2
    if w.2 then fin w.1 0 len else fin w.1 4 0

/-! ### Extends by software (20 R507) -/

/-- A write of EXTCMD. -/
def extCmd (s : State) (v : Word) : State × Nat :=
  if s.tru.ext.isSome ∨ fld v 0 4 < 12 then (s, stIgnored)
  else
    let x := (upFrom 16 0).foldr (fun i acc => acc * 2 ^ 32 + (s.reg (truB + 0x80 + 4 * i)).toNat) 0
    ({ s with tru := { s.tru with ext := some (fld v 0 4, BitVec.ofNat 512 x) } }, stOk)

/-- A read of CHAL (20 R512): a new challenge. Log entry 14, DESIGN CHOICE. -/
def newChal (s : State) : State × Word :=
  let c := Config.entropy s.fresh
  let t := (upFrom 8 0).foldl (fun (t : State) i => t.setReg (truB + 0x20 + 4 * i) (w32 (c.toNat >>> (32 * i)))) s.drawn
  ({ t with tru := { t.tru with chal := some c } }, 1)

end State

/-- A master's TRU.JOBCMD write. -/
def State.truAsk (s : State) (m : Fin 10) (op arg key : Nat) : State :=
  if s.revoked m then s.answer stError [] else let r := s.truCmd op arg key; r.1.answer r.2 []

/-- QUOTE (20 R509, R522). -/
def execTruQuote (m : Fin 10) (key : BitVec 8) (s : State) : Out := .next (s.truAsk m 1 0 key.toNat)

/-- AUTH (20 R513, R522). -/
def execTruAuth (m : Fin 10) (key : BitVec 8) (s : State) : Out := .next (s.truAsk m 2 0 key.toNat)

/-- LCADV (20 R517, R518, R522). -/
def execTruLcadv (m : Fin 10) (target : BitVec 4) (key : BitVec 8) (s : State) : Out := .next (s.truAsk m 3 target.toNat key.toNat)

/-- NVWIPE (16 R435, 20 R522). -/
def execTruNvwipe (m : Fin 10) (key : BitVec 8) (s : State) : Out := .next (s.truAsk m 4 0 key.toNat)

/-- DEAUTH (20 R515, R522). -/
def execTruDeauth (m : Fin 10) (key : BitVec 8) (s : State) : Out := .next (s.truAsk m 5 0 key.toNat)

/-- UPBEGIN (22 R559). -/
def execTruUpbegin (m : Fin 10) (kind : BitVec 4) (key : BitVec 8) (s : State) : Out := .next (s.truAsk m 8 kind.toNat key.toNat)

/-- UPDATA (22 R559). -/
def execTruUpdata (m : Fin 10) (kind : BitVec 4) (key : BitVec 8) (s : State) : Out := .next (s.truAsk m 9 kind.toNat key.toNat)

/-- UPACT (22 R559). -/
def execTruUpact (m : Fin 10) (kind : BitVec 4) (key : BitVec 8) (s : State) : Out := .next (s.truAsk m 10 kind.toNat key.toNat)

/-- CONFIRM (22 R563, R564). -/
def execTruConfirm (m : Fin 10) (key : BitVec 8) (s : State) : Out := .next (s.truAsk m 11 0 key.toNat)

/-- TRU_JOB_END (20 R522, 21 R530), under a grant of class 3 for a quote and of class 4 for another job (17 R442); a job that a mode
change or a reset has stopped ends without one. -/
def execTruJobEnd (e : BurnEnv) (nvFail : Bool) (s : State) : Out := .next <|
  match s.tru.job with
  | none => s
  | some j =>
    if j.stopped || j.lost then s.truJobEnd j e nvFail
    else if j.op = 1 then s.underGrant 4 3 (fun t => t.truJobEnd j e nvFail)
    else s.underGrant 5 4 (fun t => t.truJobEnd j e nvFail)

/-- The oldest entry of Q124 taken and served. -/
def State.nextQuote (s : State) : State :=
  match s.qPop 124 with
  | (t, none) => t
  | (t, some e) => t.serveQuote e

/-- QUOTE_QUEUE_REQUEST (20 R509): served from IDLE on, while no job runs, under a grant of class 3 (17 R442). -/
def execQuoteQueueRequest (s : State) : Out := .next <|
  if !s.truModes ∨ s.truBusy ∨ !s.qAvail 124 then s else s.underGrant 4 3 State.nextQuote

/-- CHALLENGE (20 R512): master m reads TRU.CHAL. -/
def execChallenge (m : Fin 10) (s : State) : Out := .next <|
  if s.revoked m then s.answer stError [0] else let r := s.newChal; r.1.answer stOk [r.2]

/-- CAIRN_EXTEND (20 R507): master m writes TRU.EXTCMD. -/
def execCairnExtend (m : Fin 10) (v : Word) (s : State) : Out := .next <|
  if s.revoked m then s.answer stError [] else let r := s.extCmd v; r.1.answer r.2 []

/-- EXTEND_COMPLETE (20 R507). -/
def execExtendComplete (s : State) : Out := .next <|
  match s.tru.ext with
  | none => s
  | some (c, x) =>
    let t := s.extend c (bytesOfNat 64 x.toNat)
    { t with tru := { t.tru with ext := none } }

/-- ANTI_ROLLBACK_ADVANCE (20 R502): in IDLE or RUN with an advance pending. -/
def execAntiRollbackAdvance (e : BurnEnv) (s : State) : Out := .next <|
  if s.tru.advPend ∧ (s.md.mode = .idle ∨ s.md.mode = .run) then s.advance e else s

/-- AUTHORISATION_EXPIRE (20 R515): DUR seconds after acceptance. -/
def execAuthorisationExpire (s : State) : Out := .next <|
  match s.tru.auth with
  | none => s
  | some a => (s.advanceTo a.expires).authEnd

/-- MODE_DECISION (20 R505 steps 6 to 8, 02 R47). -/
def execModeDecision (s : State) : Out := .next s.decideMode

/-- VHOLD_CHARGED (22 R551): a decision that waits for it takes effect. -/
def execVholdCharged (s : State) : Out := .next <|
  let t := { s with md := { s.md with vholdCharged := true } }
  match s.md.mode, s.md.decision with
  | .verify, some d => t.leaveVerify (t.finalDecision d).1 (t.finalDecision d).2
  | _, _ => t

/-- VHOLD_CHARGE_TIMEOUT (22 R551): F085 with DETAIL 1, and the transition is made anyway. -/
def execVholdChargeTimeout (s : State) : Out := .next <|
  if s.md.mode = .verify ∧ !s.md.vholdCharged then
    match s.md.decision with
    | some d => (s.drive 85 1).leaveVerify (s.finalDecision d).1 (s.finalDecision d).2
    | none => s
  else s

end Sys2Proof.Machine
end

