-- ==== Sys2Proof/Machine/Loader.lean ====
section
/-! DEFINITION. The lattice loader (06 R169-R172, R178-R204, R590; 07 R223, R229; 09 R270, R277): every check on a parameter
image in the order of R590, and the run of the loader on the image that the trust engine releases. -/
namespace Sys2Proof.Machine

/-- An image as the checks read it: the number of k bytes at an offset. -/
abbrev Img := Nat → Nat → Nat

/-- The result of a check: none when it passes, else its code and the offset it reports (06 R204, R590). -/
abbrev Check := Option (Nat × Nat)

def refuseIf (bad : Bool) (code off : Nat) : Check := if bad then some (code, off) else none

/-- The first check of a list that fails. -/
def firstOf (xs : List Check) : Check := xs.findSome? id

/-! ### Cell blocks -/

/-- The offset of cell c's block (06 R197). -/
def cellOff (c : Nat) : Nat := 0x40 + 32 * c

def cellType (g : Img) (c : Nat) : Nat := g (cellOff c) 1 % 16
def cellEn (g : Img) (c : Nat) : Bool := decide (128 ≤ g (cellOff c) 1)

/-- A field of cell c's block. -/
def cellFld (g : Img) (c o k : Nat) : Nat := g (cellOff c + o) k

/-- The number of outputs of a cell type (06 R180-R195). -/
def typeOuts (ty : Nat) : Nat := [2, 2, 3, 3, 3, 2, 2, 3, 4, 4, 4, 2, 2, 2, 2, 4].getD ty 0

/-- The bits that a type defines in byte b of its block, for b from 12 to 31 (06 R180-R195). -/
def typeBits (ty b : Nat) : Nat :=
  let whole := fun (lo hi : Nat) => if lo ≤ b ∧ b ≤ hi then 0xFF else 0
  match ty with
  | 0 | 1 | 2 => if b = 12 then 1 else whole 14 15
  | 3 => if b = 12 then 3 else whole 14 15
  | 4 | 5 | 14 => whole 14 17
  | 6 => whole 14 15
  | 7 => if b = 14 then 7 else whole 12 13 ||| whole 16 22
  | 8 => whole 12 12 ||| whole 14 15
  | 9 => if b = 12 ∨ b = 13 then 0xF else if b = 14 ∨ b = 15 then 7 else whole 16 23
  | 10 => whole 12 12 ||| whole 14 23
  | 11 => whole 12 13
  | 12 => whole 12 12 ||| whole 16 18
  | 13 => if b = 12 then 1 else whole 14 17
  | _ => if b = 12 ∨ b = 15 ∨ b = 17 then 0xF else if b = 13 then 3 else whole 14 19

/-- The inputs that cell c uses, bit n for input n (06 R180-R195). -/
def cellUsed (g : Img) (c : Nat) : Nat :=
  let b12 := cellFld g c 12 1
  match cellType g c with
  | 0 | 1 | 3 | 9 => 3
  | 2 => if b12 % 2 = 1 then 1 else 3
  | 4 | 5 | 15 => 15
  | 6 | 14 => 7
  | 7 => if cellFld g c 14 1 % 4 = 0 then 7 else 15
  | 8 => if b12 = 2 then 3 else 7
  | 10 => 1
  | 11 => if b12 = 2 then 3 else 2 ^ min 4 (cellFld g c 13 1) - 1
  | 12 => 3
  | _ => if b12 % 2 = 1 then 2 else 3

/-- What must be 0 in a block (06 R178, R590). Log entry 43, DEDUCED. -/
def zeroChecks (g : Img) (c : Nat) : Check :=
  let o := cellOff c
  let ty := cellType g c
  if !cellEn g c then
    refuseIf ((upFrom 32 0).any (fun b => g (o + b) 1 != 0)) 5 o
  else
    let used := cellUsed g c
    firstOf
      ([refuseIf (g o 1 / 16 % 8 != 0) 5 o, refuseIf (g (o + 1) 1 / 16 != 0) 5 (o + 1),
        refuseIf (g (o + 10) 1 / 16 % 8 != 0) 5 (o + 10), refuseIf (g (o + 11) 1 != 0) 5 (o + 11)]
      ++ (upFrom 20 12).map (fun b => refuseIf (g (o + b) 1 &&& (255 - typeBits ty b) != 0) 5 (o + b))
      ++ (upFrom 4 0).map (fun n => refuseIf (!used.testBit n && g (o + 2 + 2 * n) 2 != 0) 5 (o + 2 + 2 * n))
      ++ [refuseIf ((upFrom 4 0).any (fun n => !used.testBit n && (g (o + 1) 1).testBit n)) 5 (o + 1),
        refuseIf (ty == 7 && g (o + 14) 1 % 4 == 0 && g (o + 12) 2 != 0) 5 (o + 12),
        refuseIf (ty == 7 && g (o + 14) 1 % 4 == 0 && (g (o + 14) 1).testBit 2) 5 (o + 14),
        refuseIf (ty == 13 && (g (o + 12) 1).testBit 0 && g (o + 14) 2 != 0) 5 (o + 14),
        refuseIf (ty == 13 && (g (o + 12) 1).testBit 0 && g (o + 16) 2 != 0) 5 (o + 16)])

/-- A populated index of the input image (06 R170, 05 R148). -/
def populated (i : Nat) : Bool :=
  decide (i < 64) || (decide (80 ≤ i) && decide (i < 92)) || (decide (96 ≤ i) && decide (i < 108))
    || (decide (128 ≤ i) && decide (i < 131)) || (decide (144 ≤ i) && decide (i < 160))

/-- The check of one SREF (06 R170, R172, R590); `cell` is the reading cell, none for a transmit map. -/
def srefCheck (g : Img) (cell : Option Nat) (off : Nat) : Check :=
  let r := g off 2
  let i := r % 8192
  match r / 8192 with
  | 0 => refuseIf (decide (1 < i)) 6 off
  | 1 => refuseIf (!populated i) 6 off
  | 2 =>
    let t := i / 4 % 256
    firstOf [refuseIf (i / 1024 != 0) 6 off,
      refuseIf (match cell with | some c => decide (c ≤ t) | none => false) 7 off,
      refuseIf (!cellEn g t || decide (typeOuts (cellType g t) ≤ i % 4)) 8 off]
  | 3 => none
  | 4 => refuseIf (i / 512 != 0) 6 off
  | _ => some (6, off)

/-- The offsets of the SREFs that a cell uses, in the order of R590. -/
def cellSrefs (g : Img) (c : Nat) : List Nat :=
  let o := cellOff c
  if !cellEn g c then []
  else
    ((upFrom 4 0).filter (fun n => (cellUsed g c).testBit n)).map (fun n => o + 2 + 2 * n)
      ++ (if cellType g c = 7 ∧ g (o + 14) 1 % 4 ≠ 0 then [o + 12] else [])
      ++ (if cellType g c = 15 then [o + 18] else [])

/-- Times, counts and mode fields of a cell in byte order (06 R176, R180-R195, R590). Log entry 46, DEDUCED. -/
def rangeChecks (g : Img) (c : Nat) : Check :=
  let o := cellOff c
  let f := fun (b k : Nat) => g (o + b) k
  let zero := fun (b k : Nat) => refuseIf (f b k == 0) 9 (o + b)
  match cellType g c with
  | 0 | 2 | 3 | 6 => zero 14 2
  | 1 => firstOf [refuseIf (f 12 1 % 2 != 0) 9 (o + 12), zero 14 2]
  | 4 => zero 16 2
  | 5 => firstOf [zero 14 2, refuseIf (decide (500000 < f 14 2 * (125 * 2 ^ g 6 1))) 0xE (o + 14), zero 16 2]
  | 7 => firstOf [refuseIf (decide (1 < f 14 1 % 4)) 9 (o + 14), zero 16 2,
      refuseIf (decide (f 18 2 ≤ f 16 2)) 9 (o + 18), zero 20 3]
  | 8 => refuseIf (f 12 1 != 2 && f 12 1 != 3) 9 (o + 12)
  | 9 => firstOf [refuseIf (f 14 1 % 4 == 3) 9 (o + 14), zero 22 2]
  | 10 => zero 20 2
  | 11 => firstOf [refuseIf (decide (2 < f 12 1)) 9 (o + 12),
      refuseIf (if f 12 1 = 2 then f 13 1 != 2 else !(decide (1 ≤ f 13 1) && decide (f 13 1 ≤ 4))) 9 (o + 13)]
  | 12 => firstOf [refuseIf (decide (1 < f 12 1)) 9 (o + 12), zero 16 3]
  | 13 => if f 12 1 % 2 = 1 then none else firstOf [zero 14 2, refuseIf (decide (f 16 2 ≤ f 14 2)) 9 (o + 16)]
  | 14 => firstOf [zero 14 2, zero 16 2]
  | _ => none

/-- Rules of a type that concern the block and lower-numbered cells alone (06 R190, R196; 09 R270, R277). -/
def localChecks (g : Img) (c : Nat) : Check :=
  let o := cellOff c
  match cellType g c with
  | 9 => refuseIf (g (o + 12) 1 == g (o + 13) 1 && g (o + 12) 1 % 4 != 0) 0xD (o + 12)
  | 10 =>
    let t := g (o + 12) 1
    refuseIf (!(decide (t < c) && cellEn g t && cellType g t == 9)) 0xD (o + 12)
  | 15 =>
    let ss1 := (g (o + 13) 1).testBit 0
    let om := g (o + 14) 2
    let sm := g (o + 16) 2
    firstOf [refuseIf (sm &&& om != sm || (!ss1 && sm != 0)) 0xA (o + 16), refuseIf (!ss1 && g (o + 6) 2 != 0) 0xA (o + 6)]
  | _ => none

/-- One cell block in full (06 R590 pass 2). -/
def blockCheck (g : Img) (c : Nat) : Check :=
  firstOf [zeroChecks g c, if cellEn g c then firstOf ((cellSrefs g c).map (srefCheck g (some c))) else none,
    if cellEn g c then rangeChecks g c else none, if cellEn g c then localChecks g c else none]

/-! ### Header and tables -/

/-- Pass 1 of R590; a version or a MAGIC in an image of `len` bytes. -/
def headerChecks (g : Img) (len crc : Nat) : Check :=
  let l := g 8 4
  let nses := g 0xC 2
  let ntx := g 0xE 2
  firstOf
    ([refuseIf (g 0 4 != 0x06204C50) 1 0, refuseIf (g 4 2 != 1) 1 4, refuseIf (decide (16384 < l)) 2 8,
      refuseIf (decide (512 < nses)) 2 0xC, refuseIf (decide (32 < ntx)) 2 0xE,
      refuseIf (l != 0x20E0 + 12 * nses + 48 * ntx + 4 || decide (len < l)) 2 8, refuseIf (decide (4 < g 6 1)) 3 6,
      refuseIf (g (l - 4) 4 != crc) 4 (l - 4), refuseIf (g 7 1 != 0) 5 7,
      refuseIf (g 0x18 8 != 0) 5 0x18])

/-- An input table entry (06 R199, 07 R223). -/
def inputCheck (g : Img) (n : Nat) : Check :=
  let o := 0x2040 + 4 * n
  let filt := g o 2
  let src := g (o + 2) 1 % 16
  let used := (g (o + 3) 1).testBit 0
  firstOf [refuseIf (g (o + 2) 1 / 32 != 0) 5 (o + 2), refuseIf (g (o + 3) 1 / 2 != 0) 5 (o + 3),
    refuseIf (used && !(filt % 10 == 0 && decide (50 ≤ filt) && decide (filt ≤ 50000))) 9 o,
    refuseIf (used && src != 15 && (decide (7 < src) || g (0x20C0 + 4 * src) 2 == 0)) 0xC (o + 2)]

/-- The test-pulse table (06 R199; 07 R228, R229). Log entry 72, DEDUCED. -/
def pulseChecks (g : Img) : Check :=
  let at' := fun (k : Nat) => 0x20C0 + 4 * k
  let width := fun (k : Nat) => g (at' k) 2
  let period := fun (k : Nat) => g (at' k + 2) 2
  let named := (upFrom 8 0).filter (fun k => width k != 0)
  let pmin := named.foldl (fun m k => if m = 0 then period k else min m (period k)) 0
  let tc := 125 * 2 ^ g 6 1
  firstOf
    (named.map (fun k => firstOf [refuseIf (!(decide (100 ≤ width k) && decide (width k ≤ 1000))) 9 (at' k),
        refuseIf (!(decide (2 ≤ period k) && decide (period k ≤ 1000))) 9 (at' k + 2)])
    ++ named.map (fun k => refuseIf (period k == pmin && pmin * 1000 % (8 * tc) != 0) 9 (at' k))
    ++ named.map (fun k => refuseIf (period k % pmin != 0) 9 (at' k))
    ++ named.map (fun k => refuseIf (decide (pmin * 1000 / 8 < width k + 80)) 9 (at' k)))

/-- The session table and NTX (06 R198, R200). -/
def sessionChecks (g : Img) : Check :=
  let nses := g 0xC 2
  let at' := fun (i : Nat) => 0x20E0 + 12 * i
  let tx := fun (i : Nat) => (g (at' i) 2).testBit 9
  let entry := fun (i : Nat) =>
    let o := at' i
    firstOf [refuseIf (g (o + 1) 1 / 8 != 0) 5 (o + 1), refuseIf (tx i && g (o + 2) 2 != 0) 5 (o + 2),
      refuseIf (tx i && g (o + 8) 2 != 0) 5 (o + 8), refuseIf (g (o + 10) 2 != 0) 5 (o + 10),
      refuseIf (!tx i && g (o + 8) 2 == 0) 9 (o + 8),
      refuseIf (decide (0 < i) && decide (g o 2 % 512 ≤ g (at' (i - 1)) 2 % 512)) 0xB o]
  firstOf ((upFrom nses 0).map entry
    ++ [refuseIf (((upFrom nses 0).filter tx).length != g 0xE 2) 0xB 0xE])

/-- The entries with TX set, in order: the n-th owns transmit map n (06 R201). -/
def txEntries (g : Img) : List Nat := (upFrom (g 0xC 2) 0).filter (fun i => (g (0x20E0 + 12 * i) 2).testBit 9)

def mapOff (g : Img) (n : Nat) : Nat := 0x20E0 + 12 * g 0xC 2 + 48 * n

/-- The transmit maps (06 R201, R590 pass 6). -/
def mapChecks (g : Img) : Check :=
  let es := txEntries g
  firstOf ((upFrom es.length 0).map (fun n =>
    let o := mapOff g n
    let hsf := (g (0x20E0 + 12 * es.getD n 0) 2).testBit 10
    firstOf ((upFrom 16 0).map (fun j => srefCheck g none (o + 2 * j))
      ++ (upFrom 8 0).map (fun j =>
        refuseIf (decide (2 < g (o + 33 + 2 * j) 1) || (hsf && decide (4 ≤ j) && g (o + 32 + 2 * j) 2 != 0)) 0xB (o + 32 + 2 * j)))))

/-! ### Rules over the whole image (06 R590 pass 7) -/

/-- A session SREF names a session of the table without TX set (06 R200). -/
def sesSrefCheck (g : Img) (off : Nat) : Check :=
  let r := g off 2
  let n := if r / 8192 = 3 then r / 16 % 512 else r % 512
  refuseIf ((r / 8192 == 3 || r / 8192 == 4)
    && !(upFrom (g 0xC 2) 0).any (fun i => g (0x20E0 + 12 * i) 2 % 512 == n && !(g (0x20E0 + 12 * i) 2).testBit 9)) 0xB off

/-- The enabled cells of a type, in order. -/
def cellsOf (g : Img) (ty : Nat) : List Nat := (upFrom 256 0).filter (fun c => cellEn g c && cellType g c == ty)

/-- The inputs of an OSSD pair cell have no test-pulse source (06 R181). -/
def ossdCheck (g : Img) (c : Nat) : Check :=
  firstOf ((upFrom 2 0).map (fun k =>
    let r := cellFld g c (2 + 2 * k) 2
    let n := r % 8192
    let e := g (0x2040 + 4 * n) 4
    refuseIf (r / 8192 == 1 && decide (n < 32) && e.testBit 24 && e / 65536 % 16 != 15) 0xC (cellOff c + 2 + 2 * k)))

/-- The pins a speed cell reads, and whether differentially (09 R270). -/
def speedPins (g : Img) (c : Nat) : List Nat × Bool :=
  let a := cellFld g c 12 1
  let b := cellFld g c 13 1
  if a = b then ([a, a + 1, a + 2, a + 3], true) else ([a, b], false)

/-- A speed cell against the lower ones (06 R189, 09 R270), reported at the cell as a whole (06 R590). -/
def speedCheck (g : Img) (c : Nat) : Check :=
  let low := (cellsOf g 9).filter (· < c)
  let p := speedPins g c
  firstOf [refuseIf (low.any (fun d => cellFld g d 15 1 == cellFld g c 15 1)) 0xD (cellOff c),
    refuseIf (low.any (fun d => (speedPins g d).2 != p.2 && (speedPins g d).1.any (fun x => p.1.contains x))) 0xD (cellOff c)]

/-- The driver of an SS1 zone names a signal in i2 and has a ramp monitor of its zone (09 R277). -/
def rampCheck (g : Img) (c : Nat) : Check :=
  refuseIf ((cellFld g c 13 1).testBit 0
    && (cellFld g c 6 2 == 0 || !(cellsOf g 10).any (fun d => cellFld g d 10 1 == 128 + cellFld g c 12 1))) 0xA (cellOff c)

/-- Drivers, zones and outputs (06 R196, R590). -/
def driverChecks (g : Img) : Check :=
  let ds := cellsOf g 15
  let zone := fun (c : Nat) => cellFld g c 12 1
  let outs := fun (c : Nat) => cellFld g c 14 2
  let zmap := g 0x12 6
  firstOf
    (ds.map (fun c => refuseIf ((ds.filter (· < c)).any (fun d => zone d == zone c)) 0xA (cellOff c + 12))
    ++ ds.map (fun c =>
      refuseIf ((upFrom 12 0).any (fun k => (outs c).testBit k
        && (zmap / 16 ^ k % 16 != zone c || (ds.filter (· < c)).any (fun d => (outs d).testBit k)))) 0xA (cellOff c + 14))
    ++ [refuseIf ((upFrom 16 0).any (fun z => (g 0x10 2).testBit z && !ds.any (fun c => zone c == z))) 0xA 0x10])

/-- Pass 7 of R590. -/
def wholeChecks (g : Img) : Check :=
  firstOf [firstOf ((upFrom 256 0).map (fun c => firstOf ((cellSrefs g c).map (sesSrefCheck g)))),
    firstOf ((upFrom (txEntries g).length 0).map (fun n => firstOf ((upFrom 16 0).map (fun j => sesSrefCheck g (mapOff g n + 2 * j))))),
    firstOf ((cellsOf g 1).map (ossdCheck g)), firstOf ((cellsOf g 9).map (speedCheck g)),
    firstOf ((cellsOf g 15).map (rampCheck g)), driverChecks g]

/-- Every check of the loader in the order of R590; `crc` is the ICRC computed during the stream. -/
def loaderCheck (g : Img) (len crc : Nat) : Check :=
  firstOf [headerChecks g len crc, firstOf ((upFrom 256 0).map (blockCheck g)), firstOf ((upFrom 32 0).map (inputCheck g)),
    pulseChecks g, sessionChecks g, mapChecks g, wholeChecks g]

/-! ### The run of the loader (06 R203) -/

namespace State

/-- The image streamed into bank 0; bank 1 in its initial states. -/
def streamImage (s : State) (bs : List Byte) : State :=
  { s with lat := { s.lat with bank0 := bs.foldl (fun (x : Tab Byte × Nat) b => (put 0 x.1 x.2 b, x.2 + 1)) ([], 0) |>.1,
                               cells := [], outs := [], flts := 0, scanAt := 0, scanCrc := 0xFFFFFFFF } }

/-- A refusal takes the program image with it (06 R203): no pair is in force, and the reaction table, the session table and
the watched times of the image are not. Log entry 47, DEDUCED. -/
def refusePair (s : State) : State :=
  let f : FltSt := {}
  let s := { s with md := { s.md with pairOk := false }
                    flt := { s.flt with matrix := [], q := f.q, limit := f.limit, win := f.win }
                    ses := { s.ses with tab := [] }
                    lnk := { s.lnk with rorig := 0xFF, rimport := 0 } }
  (s.setReg (sesB + 8) 0).setReg (bstB + 4) (regReset (bstB + 4))

/-- The loader on an image at an address with its length. Log entry 42, DEDUCED. -/
def runLoader (s : State) (a len : Nat) : State :=
  let s := s.streamImage (s.bytes a (min len 16384))
  let l := s.bankNum 8 4
  let body := (upFrom (min len l - 4) 0).map (fun i => look 0 s.lat.bank0 i)
  let tail := fun (m : List Byte) => w32 (crc32 (body ++ m))
  let s := { s with md := { s.md with loaderRan := true } }
  match loaderCheck s.bankNum len (crc32 body) with
  | some (code, off) =>
    { (((s.setReg (sioB + 0x20) 3).setReg (sioB + 0x24) (at_ 0 8 code ||| at_ 16 14 off)).setReg (sioB + 0x28) 0).refusePair with
      lat := { s.lat with loaded := false } }
  | none =>
    let s := ((s.setReg (sioB + 0x20) 2).setReg (sioB + 0x24) 0).setReg (sioB + 0x28)
      (tail ((upFrom 32 0x20).map (fun i => look 0 s.lat.bank0 i)))
    let s := s.setReg (sioB + 0x30) (tail ((bytesOfNat 64 (look 0 s.tru.meas 3).toNat).take 32))
    let s := { s with lat := { s.lat with loaded := true } }
    if s.md.pairOk && s.bankNum 6 1 != s.md.tcyc then s.refusePair else s

end State

/-- LOADER_RUN (06 R203; 01 R21): in VERIFY, on the parameter image of the slot that the trust engine has released, whatever
became of the program image; a TCYC that differs from that of an accepted program image refuses the pair. -/
def execLoaderRun (slot : Bool) (s : State) : Out := .next <|
  if s.md.mode ≠ .verify ∨ s.md.loaderRan then s
  else match s.released slot.toNat with
    | none => s
    | some (a, len) => s.runLoader a len

end Sys2Proof.Machine
end

