-- ==== Sys2Proof/Machine/Lattice.lean ====
section
/-! DEFINITION. The logic lattice in service (06 R170-R208; 09 R275-R278): signals, the sixteen cell types, the guards of R161
as channel B applies them, the record, the payloads of the frame builder and the background check. -/
namespace Sys2Proof.Machine

/-- A signal: none when it is invalid (06, Signals). -/
abbrev Sig := Option Bool

/-- A true signal; an invalid one is in its safe position, false (06 R173). -/
def isT (x : Sig) : Bool := x == some true

/-- Not a false signal: an invalid one is in its safe position, true (06 R173). -/
def notF (x : Sig) : Bool := x != some false

/-- What a cell leaves in a cycle: its working state, its outputs and its condition. -/
structure CellOut where
  st : CellSt
  o0 : Sig := some false
  o1 : Sig := some false
  o2 : Sig := some false
  o3 : Sig := some false
  flt : Bool := false
deriving DecidableEq, Repr

/-- The outputs of a cell, two bits each. -/
def CellOut.pack (x : CellOut) : BitVec 8 := sbRes x.o3 ++ sbRes x.o2 ++ sbRes x.o1 ++ sbRes x.o0

/-- All outputs false. -/
abbrev outsFalse : BitVec 8 := 0x55

/-! ### Input pair, guard, lock (06 R180-R184) -/

/-- One cycle of the pair machine (06 R180): `a` and `b` tell whether each channel is in the active position. -/
def pairStep (t : Nat) (a b : Bool) (p : PairSt) : PairSt :=
  match p.ph with
  | .safe => if a && b then { ph := .on } else if a || b then { ph := .closing, age := 0 } else { ph := .safe }
  | .closing =>
    if t ≤ p.age + 1 then { ph := .flt }
    else if a && b then { ph := .on }
    else if !a && !b then { ph := .safe }
    else { p with age := p.age + 1 }
  | .on => if a && b then p else if !a && !b then { ph := .safe } else { ph := .opening, age := 0 }
  | .opening =>
    if t ≤ p.age + 1 then { ph := .flt } else if !a && !b then { ph := .safe } else { p with age := p.age + 1 }
  | .flt => if !a && !b then { ph := .safe } else p

def PairSt.isOn (p : PairSt) : Bool := p.ph == .on
def PairSt.isFlt (p : PairSt) : Bool := p.ph == .flt

def pairOf (c : CellSt) : PairSt := match c with | .pair p => p | .guard p _ => p | .enable p _ => p | _ => {}

/-- Input pair and OSSD pair (06 R180, R181). -/
def stepPair (t : Nat) (a b : Bool) (c : CellSt) : CellOut :=
  let p := pairStep t a b (pairOf c)
  { st := .pair p, o0 := some p.isOn, o1 := some p.isFlt, flt := p.isFlt }

/-- Emergency stop (06 R182). -/
def stepStop (t : Nat) (a b : Bool) (c : CellSt) : CellOut :=
  let p := pairStep t a b (pairOf c)
  { st := .pair p, o0 := some p.isOn, o1 := some (!(a && b)), o2 := some p.isFlt, flt := p.isFlt }

/-- Guard switch (06 R183): stage 0 until SAFE is seen, 1 until ON is seen, 2 from then on. -/
def stepGuard (t : Nat) (stest a b : Bool) (c : CellSt) : CellOut :=
  let p := pairStep t a b (pairOf c)
  let stage := match c with | .guard _ k => k | _ => if stest then 0 else 2
  let stage := if stage = 0 ∧ p.ph = .safe then 1 else if stage = 1 ∧ p.isOn then 2 else stage
  let closed := p.isOn && stage == 2
  { st := .guard p stage, o0 := some closed, o1 := some (!closed), o2 := some p.isFlt, flt := p.isFlt }

/-- Guard lock (06 R184): CLOSED, LOCKED, UNREQ and SAFE. The hold rule of UNLOCKING completes with TUNL 0 in the cycle that
enters it; o0 rises one cycle after a fault has cleared. -/
def stepLock (tunl tlock : Nat) (closed locked unreq safe : Bool) (c : CellSt) : CellOut :=
  let x : LockPh × Nat := match c with | .lock ph age => (ph, age + 1) | _ => (.locking, 0)
  let hold := fun (k : Nat) => if tunl ≤ k then (LockPh.unlocked, 0) else (LockPh.unlocking, k)
  let y : LockPh × Nat :=
    match x.1 with
    | .locked => if !(closed && locked) then (.fault, 0) else if unreq && safe then hold 0 else (.locked, 0)
    | .unlocking => if unreq && safe then hold x.2 else (.locked, 0)
    | .unlocked => if !unreq && closed then (.locking, 0) else (.unlocked, 0)
    | .locking =>
      if tlock ≤ x.2 then (.fault, 0) else if locked then (if closed then (.locked, 0) else (.fault, 0)) else (.locking, x.2)
    | .fault => if closed && locked && !unreq then (.locked, 0) else (.fault, 0)
  { st := .lock y.1 y.2, o0 := some (y.1 == .locked && closed && locked && x.1 != .fault), o1 := some (y.1 == .unlocked)
    o2 := some (y.1 == .fault), flt := y.1 == .fault }

/-! ### Two-hand control, enabling device, muting, mode selector (06 R185-R188) -/

/-- The position of a hand (06 R185): 2 actuated, 1 released, 0 transitional. An invalid contact is taken in its safe position
(R173): the NO contact false, the NC contact true (log entry 21, DEDUCED). -/
def handPos (no nc : Sig) : Nat :=
  if isT no then (if notF nc then 0 else 2) else if notF nc then 1 else 0

/-- Cycles a hand has been transitional. -/
def handAge (pos : Nat) (tr : Option Nat) : Option Nat := if pos = 0 then some (match tr with | some k => k + 1 | none => 0) else none

/-- The transitional time TCONT is over in this cycle, whatever the hand does in it (deadline rule). -/
def handLate (tcont : Nat) (tr : Option Nat) : Bool := match tr with | some k => decide (tcont = k + 1) | none => false

/-- Two-hand control (06 R185). -/
def stepHands (tsync tcont : Nat) (p0 p1 : Nat) (c : CellSt) : CellOut :=
  let go := fun (ph : HandPh) (lead : Bool) (age : Nat) (t0 t1 : Option Nat) (flt : Bool) =>
    let rel := p0 == 1 && p1 == 1
    let act := p0 == 2 && p1 == 2
    let late := handLate tcont t0 || handLate tcont t1
    let flt := (flt && !rel) || late
    let y : HandPh × Bool × Nat :=
      if late then (.blocked, lead, 0)
      else
        match ph with
        | .blocked => if rel then (.ready, lead, 0) else (.blocked, lead, 0)
        | .ready => if act then (.active, lead, 0) else if p0 = 2 then (.one, false, 0) else if p1 = 2 then (.one, true, 0) else (.ready, lead, 0)
        | .one =>
          if tsync ≤ age + 1 ∨ (if lead then p1 else p0) ≠ 2 then (.blocked, lead, 0)
          else if act then (.active, lead, 0) else (.one, lead, age + 1)
        | .active => if act then (.active, lead, 0) else (.blocked, lead, 0)
    ({ st := .hands y.1 y.2.1 y.2.2 (handAge p0 t0) (handAge p1 t1) flt, o0 := some (y.1 == .active), o1 := some flt, flt := flt } : CellOut)
  match c with
  | .hands ph lead age t0 t1 flt => go ph lead age t0 t1 flt
  | _ => go .blocked false 0 none none false

/-- Enabling device (06 R186): an invalid panic contact stops (log entry 21, DEDUCED). -/
def stepEnable (t : Nat) (a b panic : Bool) (c : CellSt) : CellOut :=
  let p := pairStep t a b (pairOf c)
  let was := match c with | .enable _ k => k | _ => false
  let now := panic || (was && (a || b))
  { st := .enable p now, o0 := some (p.isOn && !panic && !now), o1 := some p.isFlt, flt := p.isFlt }

/-- Muting (06 R187): the protective device, the sensors of pair A and of pair B. -/
def stepMute (four bidir : Bool) (tpmin tpmax tmute : Nat) (pd a1 a2 b1 b2 : Bool) (c : CellSt) : CellOut :=
  let quiet := !a1 && !a2 && !b1 && !b2
  let go := fun (ph : MutePh) (leadB second : Bool) (age : Nat) =>
    let x1 := if leadB then b1 else a1
    let x2 := if leadB then b2 else a2
    let other := if leadB then a1 || a2 else b1 || b2
    let y : MutePh × Bool × Bool × Nat :=
      match ph with
      | .idle =>
        if quiet then (.idle, false, false, 0)
        else if (a1 || a2) && (b1 || b2) then (.fault, false, false, 0)
        else if a1 || a2 then (if a1 && a2 then (.fault, false, false, 0) else (.arming, false, a2, 0))
        else if !bidir || (b1 && b2) then (.fault, false, false, 0)
        else (.arming, true, b2, 0)
      | .arming =>
        if tpmax ≤ age + 1 ∨ other then (.fault, leadB, second, 0)
        else if if second then x1 else x2 then
          (if tpmin ≤ age + 1 ∧ pd then (.muted, leadB, second, 0) else (.fault, leadB, second, 0))
        else (.arming, leadB, second, age + 1)
      | .muted =>
        if tmute ≤ age + 1 then (.fault, leadB, second, 0)
        else if (x1 && x2) || (four && (if leadB then a1 && a2 else b1 && b2)) then (.muted, leadB, second, age + 1)
        else (.ending, leadB, second, 0)
      | .ending => if quiet then (.idle, false, false, 0) else (.ending, leadB, second, 0)
      | .fault => if quiet && pd then (.idle, false, false, 0) else (.fault, leadB, second, 0)
    ({ st := .mute y.1 y.2.1 y.2.2.1 y.2.2.2, o0 := some (pd || y.1 == .muted), o1 := some (y.1 == .muted)
       o2 := some (y.1 == .fault), flt := y.1 == .fault } : CellOut)
  match c with
  | .mute ph l k age => go ph l k age
  | _ => go .ending false false 0

/-- Mode selector (06 R188) with the pattern of its contacts. -/
def stepSelect (tstab pat : Nat) (c : CellSt) : CellOut :=
  let single := fun (p : Nat) => p == 1 || p == 2 || p == 4
  let go := fun (age : Nat) (conf : Option Nat) (flt : Bool) =>
    let due := decide (tstab ≤ age)
    let conf := if due && single pat then some (pat / 2) else conf
    let flt := if due then !single pat else flt
    ({ st := .select pat age conf flt, o0 := some (conf == some 0), o1 := some (conf == some 1), o2 := some (conf == some 2)
       o3 := some flt, flt := flt } : CellOut)
  match c with
  | .select p age conf flt =>
    if p = pat then go (age + 1) conf flt
    else go 0 none (flt || (!single p && decide (tstab ≤ age + 1)))
  | _ => go 0 none false

/-! ### Speed and ramp (06 R189, R190; 09 R276, R278) -/

/-- Speed monitor (06 R189): limit select, condition reset, the count change and an error seen by the front end.
Log entry 49, DEDUCED. -/
def stepSpeed (slim1 slim2 stand tstand : Nat) (sel : Sig) (rst : Bool) (d : Int) (err : Bool) (c : CellSt) : CellOut :=
  let x : Bool × Bool × Option Nat := match c with | .speed f dir st _ => (f, dir, st) | _ => (false, false, none)
  let flt := err || (x.1 && !rst)
  let a := d.natAbs
  let lim := match sel with | some true => slim2 | some false => slim1 | none => min slim1 slim2
  let still := if a ≤ stand then some (match x.2.2 with | some k => k + 1 | none => 0) else none
  let dir := if 0 < d then true else if d < 0 then false else x.2.1
  let held := match still with | some k => decide (tstand ≤ k) | none => false
  { st := .speed flt dir still d, o0 := some (decide (a ≤ lim) && !flt), o1 := some (held && !flt), o2 := some dir
    o3 := some flt, flt := flt }

/-- The envelope limit of a ramp in cycle s + k (06 R190, 09 R278). -/
def rampLimit (v0 decel margin tdelay k : Nat) : Nat :=
  if k < tdelay then v0 + margin else v0 - decel * (k - tdelay) / 256 + margin

/-- Ramp monitor (06 R190): a violated ramp is not within its envelope (log entry 22, DEDUCED). -/
def stepRamp (decel margin tdelay tmax stand : Nat) (start : Bool) (a : Nat) (sflt : Bool) (c : CellSt) : CellOut :=
  if !start then { st := .init }
  else
    let x : Nat × Nat × Bool × Bool := match c with | .ramp v0 k t v => (v0, k + 1, t, v) | _ => (a, 0, false, false)
    let viol := x.2.2.2 || decide (rampLimit x.1 decel margin tdelay x.2.1 < a)
    let toff := x.2.2.1 || decide (a ≤ stand) || decide (tmax ≤ x.2.1) || viol || sflt
    { st := .ramp x.1 x.2.1 toff viol, o0 := some (!viol), o1 := some toff, o2 := some viol, o3 := some true }

/-! ### Logic, timer, reset, feedback (06 R191-R194) -/

/-- Logic cell (06 R191): AND and OR of the first NIN inputs; reset-dominant RS. -/
def stepLogic (fn : Nat) (xs : List Sig) (c : CellSt) : CellOut :=
  if fn = 2 then
    let q := match c with | .rs q => q | _ => false
    let q :=
      match xs with
      | [some a, some b] => if b then false else a || q
      | _ => false
    { st := .rs q, o0 := some q, o1 := some (!q) }
  else
    let r : Sig :=
      if xs.any (fun x => x.isNone) then none
      else some (if fn = 0 then xs.all isT else xs.any isT)
    { st := .init, o0 := r, o1 := r.map not }

/-- Timer (06 R192). Log entry 73, DEDUCED. -/
def stepTimer (off : Bool) (t : Nat) (x : Sig) (clr : Bool) (c : CellSt) : CellOut :=
  let y : Bool × Option Nat := match c with | .timer l k => (l, k) | _ => (false, none)
  match x with
  | none => { st := .timer false none, o0 := none }
  | some on =>
    if clr then { st := .timer false none }
    else if !off then
      if !on then { st := .timer false none }
      else
        let k := match y.2 with | some k => k + 1 | none => 0
        { st := .timer true (some k), o0 := some (decide (t ≤ k)), o1 := some (decide (k < t)) }
    else if on then { st := .timer true none, o0 := some true }
    else
      let k : Option Nat := if y.1 then some 0 else y.2.map (· + 1)
      match k with
      | some k => if k < t then { st := .timer false (some k), o0 := some true, o1 := some true } else { st := .timer false none }
      | none => { st := .timer false none }

/-- Reset/restart (06 R193): the press in progress counts from its rise. -/
def stepReset (auto : Bool) (tmin tmax : Nat) (btn cond : Bool) (c : CellSt) : CellOut :=
  match c with
  | .reset lb lc age ok stuck =>
    if auto then { st := .reset false cond none false false, o0 := some (cond && !lc) }
    else
      let age : Option Nat := if btn && !lb then some 0 else age.map (· + 1)
      let ok := cond && (ok || (btn && !lb))
      match age with
      | none => { st := .reset btn cond none false false }
      | some k =>
        if btn then
          let stuck := stuck || decide (tmax ≤ k)
          { st := .reset btn cond (some k) ok stuck, o1 := some stuck }
        else { st := .reset btn cond none false false, o0 := some (ok && !stuck && decide (tmin ≤ k) && decide (k < tmax)) }
  | _ => { st := .reset btn cond none false false }

/-- Contactor feedback (06 R194). -/
def stepEdm (tdrop tpick : Nat) (fb dmd frst : Bool) (c : CellSt) : CellOut :=
  let x : Bool × Option Nat :=
    match c with
    | .edm d k f _ => (f, if d = dmd then k.map (· + 1) else some 0)
    | _ => (false, some 0)
  let flt := x.1 && !(frst && fb)
  let miss := match x.2 with | some k => decide ((if dmd then tpick else tdrop) ≤ k) | none => false
  let age := if miss || fb != dmd then none else x.2
  let flt := flt || miss
  { st := .edm dmd age flt fb, o0 := some (!flt && (dmd || fb)), o1 := some flt, flt := flt }

/-! ### Output and zone driver (06 R195, R161) -/

/-- What the guards of R161 know: ZUSE, MENTRY, the mode code and the zone under test release. -/
structure Guard where
  zuse : Nat
  mentry : Bool
  mode : Nat
  trel : Option Nat
deriving DecidableEq, Repr

/-- The zone state after the guards of R161 (05 R161, 02 R57). -/
def Guard.zone (g : Guard) (z : Nat) (code : BitVec 2) : BitVec 2 :=
  let code := if !g.zuse.testBit z then 0 else if g.mentry && (code == 2 || code == 3) then 1 else code
  if g.mode = 6 then code else if g.mode = 5 ∧ g.trel = some z then code else 0

/-- The driver's own transition (06 R195, 02 R56, R57): automatic restart applies only within RUN. -/
def driveZone (ss1 auto stop reset toff : Bool) (z : BitVec 2) : BitVec 2 :=
  if z = 3 then (if stop then (if ss1 then 2 else 0) else 3)
  else if z = 2 then (if toff then 0 else 2)
  else if z = 0 then (if stop then 0 else if auto then 3 else 1)
  else if stop then 0 else if reset then 3 else 1

/-- Output and zone driver (06 R195). -/
def stepDrive (g : Guard) (zone : Nat) (ss1 auto : Bool) (outs stops : BitVec 12) (stop reset toff demand edm : Bool) (c : CellSt) : CellOut :=
  let z := match c with | .drive z _ => z | _ => 1
  let z := driveZone ss1 auto stop reset toff z
  let dmd : BitVec 12 := if z = 3 ∧ demand ∧ edm then outs else if z = 2 then stops &&& outs else 0
  let r := g.zone zone z
  { st := .drive z dmd, o0 := some (r == 3), o1 := some (r == 2), o2 := some (r == 0 || r == 1), o3 := some (r == 1) }

/-- A zone's code in a word of zone states. -/
def zoneOf (w : Word) (z : Nat) : BitVec 2 := BitVec.ofNat 2 (fld w (2 * z) 2)

/-- Demands after the guards (05 R161): off for every output of a zone that is TORQUE_OFF or AWAIT_RESET. -/
def guardDmd (zmap : Nat) (zones : Word) (dmd : BitVec 12) : BitVec 12 :=
  (wordOf 12 (fun k => bit dmd k && decide (2 ≤ (zoneOf zones (zmap / 16 ^ k % 16)).toNat))).setWidth 12

/-- Sixteen zone codes as a word. -/
def zoneWord (f : Nat → BitVec 2) : Word := (upFrom 16 0).foldl (fun w z => w ||| at_ (2 * z) 2 (f z).toNat) 0

namespace State

/-! ### Signals (06 R170, R171) -/

/-- The bank 0 number at offset o of cell c's block. -/
def cellNum (s : State) (c o k : Nat) : Nat := s.bankNum (cellOff c + o) k

/-- The input image of channel B (06 R170, R171). -/
def imageB (s : State) (i : Nat) : Sig :=
  let l := s.lat
  if i < 32 then (if bit l.inok i then some (bit l.inp i) else none)
  else if i < 64 then some (bit l.inok (i - 32))
  else if 80 ≤ i ∧ i < 92 then some (bit l.sopPrev (i - 80))
  else if 96 ≤ i ∧ i < 108 then some (bit l.outok (i - 96))
  else if i = 128 then some (l.mode == 6)
  else if i = 129 then some l.mentry
  else if i = 130 then some (l.mode == 5 && l.trel.isSome)
  else if 144 ≤ i ∧ i < 160 then some (l.mode == 5 && l.trel == some (i - 144))
  else none

/-- The value of a signal reference. -/
def sigB (s : State) (r : Nat) : Sig :=
  let i := r % 8192
  match r / 8192 with
  | 0 => some (i == 1)
  | 1 => s.imageB i
  | 2 => sbVal (BitVec.ofNat 2 (fld (look outsFalse s.lat.outs (i / 4 % 256)) (2 * (i % 4)) 2))
  | 3 =>
    let p := (s.sess (i / 16)).b.deliv
    let b := i % 16
    some (bit ((if p.isEmpty then fsvBytes (s.sesFsv true (i / 16)) else p).getD (b / 8) 0) (b % 8))
  | _ => some (s.sess (i % 512)).b.live

/-- Input k of cell c after INV (06 R178). -/
def cellIn (s : State) (c k : Nat) : Sig :=
  let x := s.sigB (s.cellNum c (2 + 2 * k) 2)
  if (s.cellNum c 1 1).testBit k then x.map not else x

/-- The guards' knowledge in channel B. -/
def guardB (s : State) : Guard := { zuse := s.bankNum 0x10 2, mentry := s.lat.mentry, mode := s.lat.mode.toNat, trel := s.lat.trel }

/-- The ZONE_STOP line of a zone in use as channel B reads it (09 R268, 10 R295). -/
def zstopB (s : State) (z : Nat) : Bool := bit s.lat.zstop z && (s.bankNum 0x10 2).testBit z

/-! ### The encoder front end (06 R189; 09 R270) -/

/-- The signals A and B of an encoder on the pins that a speed cell names: a pair of single-ended pins, or, with both fields equal,
the positive pins of a differential group. -/
def encSide (pins : BitVec 16) (pa pb : Nat) : Bool × Bool := (bit pins pa, if pa = pb then bit pins (pa + 2) else bit pins pb)

/-- One sample of the front end: the count step and an illegal transition, by EMODE. -/
def encStep (emode : Nat) (old new : Bool × Bool) : Int × Bool :=
  let a := new.1
  let b := new.2
  let rise := a && !old.1
  if emode = 2 then ((if rise then (if b then -1 else 1) else 0), false)
  else if a != old.1 && b != old.2 then (0, true)
  else
    let back := if a != old.1 then a == b else a != b
    let counts := if emode = 0 then a != old.1 || b != old.2 else rise
    ((if counts then (if back then -1 else 1) else 0), false)

/-- The count steps of consecutive samples, and whether one was illegal. -/
def encRun (emode pa pb : Nat) : BitVec 16 → List (BitVec 16) → List Int × Bool
  | _, [] => ([], false)
  | old, x :: xs =>
    let r := encStep emode (encSide old pa pb) (encSide x pa pb)
    let q := encRun emode pa pb x xs
    (r.1 :: q.1, r.2 || q.2)

/-- The steps that the front end counts for a speed cell over samples that follow a level. -/
def cellSteps (s : State) (c : Nat) (old : BitVec 16) (xs : List (BitVec 16)) : List Int × Bool :=
  encRun (s.cellNum c 14 1 % 4) (s.cellNum c 12 1 % 16) (s.cellNum c 13 1 % 16) old xs

/-- The count change of a speed cell between two strobes, before IDIR, and an illegal transition; the first sample of all only gives
the level to start from. -/
def speedCount (s : State) (c : Nat) (xs : List (BitVec 16)) : Int × Bool :=
  let r := match s.lat.encLv, xs with
    | some old, _ => s.cellSteps c old xs
    | none, x :: ys => s.cellSteps c x ys
    | none, [] => ([], false)
  (r.1.foldl (· + ·) 0, r.2)

/-! ### One cell -/

/-- The evaluation of enabled cell c (06 R180-R195); `prev` holds the zone states of the last record. Log entry 48, DEDUCED. -/
def evalCell (s : State) (prev : Word) (encs : List (BitVec 16)) (c : Nat) : CellOut :=
  let st := look .init s.lat.cells c
  let x := s.cellIn c
  let t := fun (k : Nat) => isT (x k)
  let f := s.cellNum c
  match f 0 1 % 16 with
  | 0 => stepPair (f 14 2) (t 0) (if f 12 1 % 2 = 1 then x 1 == some false else t 1) st
  | 1 => stepPair (f 14 2) (t 0) (t 1) st
  | 2 => stepStop (f 14 2) (t 0) (if f 12 1 % 2 = 1 then t 0 else t 1) st
  | 3 => stepGuard (f 14 2) ((f 12 1).testBit 1) (t 0) (if f 12 1 % 2 = 1 then x 1 == some false else t 1) st
  | 4 => stepLock (f 14 2) (f 16 2) (t 0) (t 1) (t 2) (t 3) st
  | 5 => stepHands (f 14 2) (f 16 2) (handPos (x 0) (x 1)) (handPos (x 2) (x 3)) st
  | 6 => stepEnable (f 14 2) (t 0) (t 1) (notF (x 2)) st
  | 7 => stepMute (f 14 1 % 4 == 1) ((f 14 1).testBit 2) (f 16 2) (f 18 2) (f 20 3) (t 0) (t 1) (t 2) (t 3) (isT (s.sigB (f 12 2))) st
  | 8 => stepSelect (f 14 2) ((t 0).toNat + 2 * (t 1).toNat + 4 * (t 2).toNat) st
  | 9 =>
    let n := s.speedCount c encs
    let flip := (f 14 1).testBit 2
    stepSpeed (f 16 2) (f 18 2) (f 20 2) (f 22 2) (x 0) (t 1) (if flip then -n.1 else n.1) (n.2 || bit s.lat.overrate c) st
  | 10 =>
    let z := f 10 1 % 16
    let start := notF (x 0) || (128 ≤ f 10 1 && (s.zstopB z || zoneOf prev z == 2))
    let v : Bool × Int := match look .init s.lat.cells (f 12 1) with | .speed fl _ _ d => (fl, d) | _ => (false, 0)
    stepRamp (f 14 2) (f 16 2) (f 18 2) (f 20 2) (f 22 2) start v.2.natAbs v.1 st
  | 11 => stepLogic (f 12 1) ((upFrom (f 13 1) 0).map x) st
  | 12 => stepTimer (f 12 1 == 1) (f 16 3) (x 0) (notF (x 1)) st
  | 13 => stepReset (f 12 1 % 2 == 1) (f 14 2) (f 16 2) (t 0) (t 1) st
  | 14 => stepEdm (f 14 2) (f 16 2) (t 0) (t 1) (t 2) st
  | _ =>
    let z := f 12 1
    let ss1 := (f 13 1).testBit 0
    let auto := (f 13 1).testBit 1 && s.lat.mode == 6
    stepDrive s.guardB z ss1 auto (BitVec.ofNat 12 (f 14 2)) (BitVec.ofNat 12 (f 16 2)) (!t 0 || s.zstopB z) (t 1)
      (ss1 && notF (x 2)) (t 3) (isT (s.sigB (f 18 2))) st

/-- A cell of bank 0 that is enabled. -/
def cellOn (s : State) (c : Nat) : Bool := decide (128 ≤ s.cellNum c 0 1)

/-- One cell in the evaluation order; a disabled cell leaves its outputs false. -/
def stepCell (prev : Word) (encs : List (BitVec 16)) (s : State) (c : Nat) : State :=
  if !s.cellOn c then s
  else
    let r := s.evalCell prev encs c
    let l := s.lat
    { s with lat := { l with cells := put .init l.cells c r.st, outs := put outsFalse l.outs c r.pack, flts := putBit l.flts c r.flt } }

/-- All 256 cells in ascending order (06 R174). -/
def evalCells (s : State) (prev : Word) (encs : List (BitVec 16)) : State := (upFrom 256 0).foldl (stepCell prev encs) s

/-! ### The record (06 R174, R177, R195; 01 R31, R35) -/

/-- The driver cells. -/
def drivers (s : State) : List Nat := (upFrom 256 0).filter (fun c => s.cellOn c && s.cellNum c 0 1 % 16 == 15)

/-- Zones after the guards: those that the drivers leave, or in an entry cycle AWAIT_RESET for every zone in use. -/
def zonesB (s : State) : Word :=
  if !s.heldB then 0
  else if s.lat.entryNow then
    zoneWord (fun z => s.guardB.zone z (if (s.bankNum 0x10 2).testBit z then 1 else 0))
  else
    let ds := s.drivers
    zoneWord (fun z =>
      match ds.find? (fun c => s.cellNum c 12 1 == z) with
      | some c => s.guardB.zone z (match look .init s.lat.cells c with | .drive d _ => d | _ => 1)
      | none => 0)

/-- Demands after the guards. -/
def dmdB (s : State) (zones : Word) : BitVec 12 :=
  if !s.heldB ∨ s.lat.entryNow then 0
  else guardDmd (s.bankNum 0x12 6) zones
    (s.drivers.foldl (fun (d : BitVec 12) c => match look .init s.lat.cells c with | .drive _ m => d ||| m | _ => d) 0)

/-- The record built in this cycle, held until the output point. -/
def recordB (s : State) : Record :=
  let z := s.zonesB
  let tag := s.lat.cycle.setWidth 16
  { img := s.lat.inp &&& s.lat.inok, zone := z, dmd := s.dmdB z, tag := tag, can := ~~~tag }

/-! ### Frame builder (06 R201, R206) -/

/-- The payload of a transmit map at an offset; 12 bytes count for an HSF session. -/
def mapPayload (s : State) (o : Nat) (zones : Word) : List Byte :=
  let w := ofBits 16 (fun j => isT (s.sigB (s.bankNum (o + 2 * j) 2))) 16
  let tag := s.lat.cycle.toNat
  let byte := fun (j : Nat) =>
    let v := s.bankNum (o + 32 + 2 * j) 1
    BitVec.ofNat 8 (match s.bankNum (o + 33 + 2 * j) 1 with | 0 => v | 1 => tag | _ => tag / 256)
  bytesOfNat 2 w ++ bytesOfNat 2 (65535 - w) ++ bytesOfWord zones ++ (upFrom 8 0).map byte

/-- The payloads of channel B's transmit sessions, in table order; the fail-safe payload in an entry cycle (R177). -/
def buildPayloads (s : State) (zones : Word) : State :=
  let g := s.bankNum
  let es := if s.heldB then txEntries g else []
  (upFrom es.length 0).foldl (fun (s : State) n =>
    let m := g (0x20E0 + 12 * es.getD n 0) 2 % 512
    let v := s.sess m
    s.setSess m { v with nextB := if s.lat.entryNow then failSafe else s.mapPayload (mapOff g n) zones }) s

/-! ### Background check (06 R205, R208) -/

/-- The next 64 bytes of bank 0 enter the running ICRC; at the end of a pass the result is compared, F024 on a mismatch. -/
def scanBank (s : State) : State :=
  if !s.lat.loaded then s
  else
    let l := s.bankNum 8 4
    let at0 := s.lat.scanAt
    let n := min 64 (l - 4 - at0)
    let crc := crcBytes 32 0xF4ACFB13 s.lat.scanCrc ((upFrom n at0).map (fun i => look 0 s.lat.bank0 i))
    if at0 + 64 < l then { s with lat := { s.lat with scanAt := at0 + 64, scanCrc := crc } }
    else
      let ok := s.bankNum (l - 4) 4 == crc ^^^ 0xFFFFFFFF
      let w := s.reg (sioB + 0x20)
      let s := { s with lat := { s.lat with scanAt := 0, scanCrc := 0xFFFFFFFF } }
      (s.setReg (sioB + 0x20) (putFld (putBit w 2 ok) 16 16 (fld w 16 16 + 1))).driveIf (!ok) 24 0

/-! ### Output point and strobe of channel B (06 R174, R177, R179; 01 R24, R26) -/

/-- DETAIL of F026 for a cell (10 R291). -/
def cellDetail (s : State) (c : Nat) : BitVec 16 :=
  let b := s.cellNum c 10 1
  det (c + 256 * (b % 16) + 4096 * (b / 128))

/-- Channel B's output point, `rc` trimmed RC periods after its previous strobe: its record is published, its demands reach its
drivers, rising conditions are noted. An evaluation that has taken longer has left no record in time: channel B is late, and its
demands count as off (01 R26, R27). -/
def outPointB (s : State) (rc : Nat) : State :=
  let rec_ := if s.lat.evalT.toNat ≤ rc then s.lat.rec_ else none
  let dmd := match rec_ with | some r => r.dmd | none => 0
  let s := (upFrom 256 0).foldl (fun (s : State) c =>
    if bit s.lat.flts c && !bit s.lat.cond c then s.driveItem 26 (s.cellDetail c) else s) s
  let s := s.applyDemands true dmd
  let s := if s.lat.seen then s.sesOutB rec_.isSome else s
  { s with lat := { s.lat with cond := s.lat.flts, sopPrev := dmd },
           col := { s.col with recB := rec_, dueB := s.lat.seen, slotOpen := true, openB := true } }

/-- A channel's strobe begins an entry cycle (05 R146): the first after VERIFY, the first in RUN, the first in COMMISSION from
QUIET, the start of a test release. `now` is the mode the channel latches, `last` that of the strobe before, none before the first;
`trel` the zone under test release latched then. -/
def entersNow (s : State) (now : BitVec 4) (last : Option (BitVec 4)) (trel : Option Nat) : Bool :=
  match last with
  | none => true
  | some m => (now == 6 && m != 6) || (now == 5 && m == 8) || (now == 5 && s.trelLine.isSome && s.trelLine != trel)

/-- No verdict has reached channel B since its last output point (01 R35): while it is locked, F010. -/
def noVerdictB (s : State) : State := s.driveIf (s.col.openB && s.col.dueB && s.lat.locked) 10 0

/-- Channel B's strobe, `rc` trimmed RC periods after its last one: the image, the sessions, the cells, the payloads and the record
(06 R174, R177), and the next acceptance window (01 R24). -/
def strobeB (s : State) (e : StrobeEnvB) (rc : Nat) : State :=
  let prev := match s.lat.rec_ with | some r => r.zone | none => 0
  let s := s.outPointB rc
  let s := (s.latchInputs true e.rev).senseOutputs true e.rb e.mid e.bdrop
  let l := s.lat
  let last := if l.seen then some l.mode else none
  let mode := s.seesMode true
  let entry := s.entersNow mode last l.trel
  let toRun := (mode == 6 && last != some 6) || last.isNone
  let cycle : BitVec 32 := if toRun then 0 else l.cycle + 1
  let inp := s.inputs.inb
  let inok := s.inputs.inokb
  let s := { s with lat := { l with inp := inp, inok := inok, outok := s.outok, mode := mode, trel := if mode = 5 then s.trelLine else none, seen := true
                                    epoch := s.md.epoch, sopPrev := if entry then 0 else l.sopPrev
                                    winLo := 97 * l.rcN / 100, winHi := 103 * l.rcN / 100
                                    entryNow := entry, mentry := l.mentryDue, mentryDue := entry, cycle := cycle
                                    zstop := s.zoneLines, evalT := e.evalT, refcnt := e.refcnt } }
  let s := s.sesStrobeB
  let s := if entry then { s with lat := { s.lat with cells := [], outs := [], flts := 0 } }
    else if s.heldB then s.evalCells prev e.encs else s
  let s := { s with lat := { s.lat with encLv := (e.encs.getLast?).orElse (fun _ => s.lat.encLv) } }
  let r := s.recordB
  let s := s.buildPayloads r.zone
  { s with lat := { s.lat with rec_ := some r, overrate := 0 } }.scanBank

/-! ### SIO mirrors of the lattice (06 R207; 09 R286, R287) -/

/-- The speed cell of an encoder. -/
def speedCell (s : State) (i : Nat) : Option Nat :=
  if !s.heldB then none
  else (upFrom 256 0).find? (fun c =>
    s.cellOn c && s.cellNum c 0 1 % 16 == 9 && s.cellNum c 15 1 % 4 == i / 2 && s.cellNum c 15 1 / 4 == i % 2)

/-- SPDB of an encoder. -/
def spdB (s : State) (i : Nat) : Nat :=
  match s.speedCell i with
  | none => 0x8000
  | some c =>
    match look .init s.lat.cells c with
    | .speed flt _ _ d => if flt || decide (32767 < d.natAbs) then 0x8000 else (BitVec.ofInt 16 d).toNat
    | _ => 0x8000

/-- SPDA of an encoder. Log entry 62, DEDUCED. -/
def spdA (s : State) (i : Nat) : Nat :=
  match dualVal (s.axis i).delta with
  | some v => if (s.axis i).bound then v.toNat else 0x8000
  | none => 0x8000

/-- SIO.ZSTOP. -/
def zstopWord (s : State) : Word :=
  let act := fun (z : Nat) => s.heldB && (upFrom 256 0).any (fun c =>
    s.cellOn c && s.cellNum c 0 1 % 16 == 10 && s.cellNum c 10 1 == 128 + z && (look outsFalse s.lat.outs c).toNat / 64 == 2)
  s.lat.zstop.setWidth 32 ||| (wordOf 16 act <<< 16)

/-! ### The stuck-high source and the contactors (08 R257) -/

/-- A contactor feedback cell on output k shows its contactor still energised. -/
def edmShows (s : State) (k : Nat) : Bool :=
  s.heldB && (upFrom 256 0).any (fun c =>
    s.cellOn c && s.cellNum c 0 1 % 16 == 14 && s.cellNum c 4 2 == 0x2000 + 80 + k
      && (match look .init s.lat.cells c with | .edm _ _ _ fb => !fb | _ => !isT (s.cellIn c 0)))

/-- The raise of the stuck-high source of an output sets EDMHOLD while a contactor of it is energised. -/
def noteEdm (s : State) (n : Nat) : State :=
  if 48 ≤ n ∧ n < 60 ∧ s.edmShows (n - 48) then s.setOut (n - 48) ((s.out (n - 48)).set fEDMHOLD) else s

end State

/-- ENCODER_RATE_INTERVAL (09 R592): the island judges a bound channel by its own count steps, channel B its speed cell by
those of its front end. -/
def execEncoderRateInterval (axis : Fin 4) (enc : Fin 2) (lv : List (BitVec 16)) (s : State) : Out := .next <|
  let i := 2 * axis.val + enc.val
  let t := s.islandRate i
  match t.speedCell i, lv with
  | some c, x :: xs =>
    if 10 < ((t.cellSteps c x xs).1.filter (· ≠ 0)).length then { t with lat := { t.lat with overrate := putBit t.lat.overrate c true } }
    else t
  | _, _ => t

end Sys2Proof.Machine
end

