-- ==== Sys2Proof/Machine/ModeRows.lean ====
section
/-! DEFINITION. Supplies, resets and the device mode (02 R43-R67, 01 R36, 10 R288-R299, 18 R472-R473, 22 R550): the commands
that report supply and reset events, faults and their recovery, mode requests and test releases. -/
namespace Sys2Proof.Machine

/-! ### Supplies and resets -/

/-- POWER_UP (02 R47). -/
def execPowerUp (s : State) : Out := .next <| if s.md.mode = .off then s.toMode .reset 0 else s

/-- LOGIC_RAIL_FAIL (02 R47): from START, RESET and HOLDUP. -/
def execLogicRailFail (s : State) : Out := .next <|
  match s.md.mode with
  | .start | .reset | .holdup => s.toMode .off 0
  | _ => s

/-- RST_N_LOW (02 R47, R50). -/
def execRstNLow (s : State) : Out := .next <| if s.md.mode = .off then s else s.latchNow.toMode .reset 1

namespace State

/-- The ridge ID is taken and the PLL locks (13 R362, 21 R539). -/
def startClock (s : State) (straps : BitVec 3) (pll : Bool) : State :=
  { s with lnk := { s.lnk with id := straps.toNat, opened := pll }, tmr := { s.tmr with lock := pll }, md := { s.md with powerValid := true } }

/-- An NV wipe that is due or was interrupted (16 R435, 20 R518). -/
def wipeDue (s : State) : State :=
  if s.tru.wipePend ∨ s.mem.wipe then
    let t := s.wipeUser
    { t with tru := { t.tru with wipePend := false }, mem := { t.mem with wipe := false } }
  else s

end State

/-- RESET_RELEASE (02 R47; 13 R362; 16 R435; 19 R483; 21 R539; 22 R550): START begins; the PLL locks, OTP is sensed and the
memories are wiped. An NV wipe that is due or was interrupted runs before VERIFY (20 R518), and the recorder resumes (16 R434). -/
def execResetRelease (straps : BitVec 3) (pll : Bool) (weak : List WeakWord) (s : State) : Out := .next <|
  if s.md.mode = .reset then (((s.toMode .start 5).startClock straps pll).otpSense weak).wipeStart.wipeDue.recResume else s

namespace State

/-- The steps 1 to 10 that failed: step 9 fails with the on-test of any output (18 R472, R473). -/
def postFailed (e : PostEnv) : BitVec 10 := putBit e.failed 8 (e.onFail != 0)

/-- BST.POST after a run (18 R478). -/
def postWord (e : PostEnv) : Word :=
  let step := match firstIdx (fun i => bit (postFailed e) i) 10 0 with | some i => i + 1 | none => 0
  flag 0 true ||| flag 1 (postFailed e != 0) ||| at_ 8 8 step ||| at_ 16 16 e.time.toNat

/-- The faults of steps 11 and 12, which let the start go on (18 R473). -/
def postFaults (s : State) (e : PostEnv) : State :=
  let s := (upFrom 4 0).foldl (fun (s : State) n => if bit e.phyFail n then (s.noteOutside 102 (det n)).drive 102 (det n) else s) s
  let s := (upFrom 4 0).foldl (fun (s : State) n => s.driveIf (bit e.loopFail n) (114 + n) 0) s
  s.driveIf e.capLow 85 0

end State

/-- POWER_ON_RUN_COMPLETE (18 R472, R473; 02 R47): LOCKOUT, or VERIFY with the trust engine's steps at its entry (20 R505). -/
def execPowerOnRunComplete (e : PostEnv) (s : State) : Out := .next <|
  if s.md.mode ≠ .start then s
  else
    let s := (((s.setReg (bstB + 0xC) (State.postWord e)).allDone).postOnTests e.onFail).postFaults e
    if State.postFailed e ≠ 0 then (s.firstWindow 3).toMode .lockout 0x32
    else if !s.isLocked 0 || !s.isLocked 1 then (s.firstWindow 3).toMode .lockout 0x34
    else (s.toMode .verify 4).verifyImages

/-- HOLDUP_ENTRY (02 R46, R47, R50, R53): from VERIFY and every later mode but HOLDUP. -/
def execHoldupEntry (s : State) : Out := .next <|
  match s.md.mode with
  | .off | .reset | .start | .holdup => s
  | _ =>
    let s := s.latchNow.toMode .holdup 0x30
    { s with md := { s.md with powerValid := false, vholdCharged := false } }

/-- HOLDUP_FLUSH_COMPLETE (02 R47, R53): with VL valid again the device enters RESET. -/
def execHoldupFlushComplete (s : State) : Out := .next <|
  if s.md.mode ≠ .holdup ∨ s.md.flushed then s
  else
    let s := s.recFlush
    let s := { s with md := { s.md with flushed := true } }
    if s.md.powerValid then s.toMode .reset 6 else s

/-- POWER_VALID (02 R46, R47, R53): in HOLDUP, with the flush ended, the device enters RESET. -/
def execPowerValid (s : State) : Out := .next <|
  let t := { s with md := { s.md with powerValid := true } }
  if s.md.mode = .holdup ∧ s.md.flushed then t.toMode .reset 6 else t

/-- POWER_CYCLE_DETECT (02 R46, R50, R65; 10 R299, R300): the lockout latch, the entry counters, the occurrences and the class
totals are cleared. -/
def execPowerCycleDetect (s : State) : Out := .next <|
  let m := s.md
  { s with md := { m with latch := false, lcause := 0, reacts := 0, locks := 0, holds := 0, restarts := 0, vholdCharged := false }
           flt := { s.flt with stamps := [], c0 := 0, c1 := 0, c2 := 0, c3 := 0 }
           tmr := { s.tmr with age := 0 } }

/-- VL_OVERVOLTAGE (01 R36, 10 R290): the return below the level is reported by SOURCE_CLEAR. -/
def execVlOvervoltage (high : Bool) (s : State) : Out := .next (s.driveIf (high && s.md.mode != .off) 80 0)

/-- CORE_RAIL_FAULT (01 R36, 08 R243, 10 R290): VCA or VCB leaves its window, or returns to it. -/
def execCoreRailFault (railB bad : Bool) (s : State) : Out :=
  .next (if s.md.mode = .off then s else (s.driverRail railB bad).driveIf bad (if railB then 82 else 81) 0)

/-- JUNCTION_OVERTEMP (01 R36, 10 R290). -/
def execJunctionOvertemp (sensor : Fin 8) (hot : Bool) (s : State) : Out :=
  .next (s.driveIf (hot && s.md.mode != .off) 83 (det sensor))

/-- VIO_FAULT (10 R290). -/
def execVioFault (bad : Bool) (s : State) : Out := .next (s.driveIf (bad && s.md.mode != .off) 84 0)

/-! ### Faults and recovery -/

/-- WIRING_FAULT (10 R288). -/
def execWiringFault (n : BitVec 8) (detail : BitVec 16) (s : State) : Out := .next (s.settleQuiet.wiringFault n.toNat detail)

/-- OUTPUTS_CONFIRMED_OFF (02 R47, R49): REACT ends. -/
def execOutputsConfirmedOff (s : State) : Out := .next <|
  if s.md.mode ≠ .react then s
  else if s.mustLock then s.toMode .lockout 0x11
  else s.toMode .quiet 0x14

/-- REACT_CONFIRM_TIMEOUT (02 R47, R49). -/
def execReactConfirmTimeout (s : State) : Out := .next <| if s.md.mode = .react then s.toMode .lockout 0x12 else s

/-- QUIET_PERIOD_COMPLETE (10 R295, R297): at the end of the source's window; a window that has not run to its end completes
nothing. -/
def execQuietPeriodComplete (n : BitVec 8) (s : State) : Out := .next <|
  match s.windowEnd n.toNat with
  | none => s
  | some t => let u := s.advanceTo t; if u.now < t then s else u.quietDone n.toNat

/-! ### Mode requests -/

namespace State

/-- A request is refused (02 R63). -/
def refuseMode (s : State) (r : Nat) : State := { s with md := { s.md with reqState := 3, reqRefuse := r } }

/-- Every zone reads TORQUE_OFF or AWAIT_RESET in both channels (02 R51). -/
def zonesStopped (s : State) : Bool := ((s.reg (sysB + 0x10C) ||| s.reg (sysB + 0x110)) &&& 0xAAAAAAAA) == 0

/-- A write of SYS.MODEREQ (02 R51, R62, R63). Log entry 67, DEDUCED. Log entry 138, DESIGN CHOICE. -/
def modeReq (s : State) (target : Nat) : State × Nat :=
  if s.md.reqState = 1 then (s, stIgnored)
  else
    let ref := if s.md.mode = .react ∨ s.md.mode = .quiet then 5 else if s.md.mode = .holdup then 4 else 1
    match target with
    | 1 =>
      match s.md.mode with
      | .verify | .idle | .commission | .run | .lockout => (s.toMode .reset 2, stOk)
      | _ => (s.refuseMode ref, stOk)
    | 2 => if s.md.mode = .service then (s.toMode .reset 3, stOk) else (s.refuseMode 1, stOk)
    | 10 =>
      match s.md.mode with
      | .idle | .commission | .run | .lockout =>
        if !s.hasAuth 1 then (s.refuseMode 2, stOk)
        else if s.md.mode = .run ∧ !s.zonesStopped then (s.refuseMode 3, stOk)
        else if s.coincides then (s.refuseMode 6, stOk)
        else ({ s with md := { s.md with reqState := 1, reqRefuse := 0 } }, stOk)
      | _ => (s.refuseMode ref, stOk)
    | _ => (s.refuseMode 1, stOk)

/-- The outcome of a pending service request at the end of a col slot (02 R48, R51): a mode that a fault has changed, or an
authorisation that has ended, refuses it. Log entry 69, DEDUCED. -/
def serviceEntry (s : State) : State :=
  if s.md.reqState ≠ 1 then s
  else
    match s.md.mode with
    | .idle | .commission | .run | .lockout =>
      if s.coincides then s.refuseMode 6 else if !s.hasAuth 1 then s.refuseMode 2 else s.toMode .service 0x24
    | _ => s.refuseMode 6

/-- The zone is in use in the committed images (02 R66). -/
def zoneUsed (s : State) (z : Nat) : Bool := s.zuseA.testBit z

/-- A refused write of SYS.TESTREL (02 R66, R67). Log entry 139, DESIGN CHOICE. -/
def refuseTrel (s : State) (r : Nat) : State × Nat := ({ s with md := { s.md with trelRefuse := r } }, stIgnored)

/-- A write of SYS.TESTREL (02 R66): STOP wins over START. Log entry 139, DESIGN CHOICE. -/
def testRel (s : State) (v : Word) : State × Nat :=
  let z := fld v 0 4
  if fld v 24 8 ≠ 0x5A ∨ fld v 6 18 ≠ 0 then s.refuseTrel 5
  else if bit v 5 then
    (if s.md.trel.isSome ∨ s.md.trelStart.isSome then { s with md := { s.md with trelStop := true } } else s, stOk)
  else if !bit v 4 then (s, stOk)
  else if s.md.mode ≠ .commission then s.refuseTrel 1
  else if s.md.trel.isSome ∨ s.md.trelStart.isSome then s.refuseTrel 2
  else if !s.zoneUsed z then s.refuseTrel 3
  else if s.coincides then s.refuseTrel 4
  else ({ s with md := { s.md with trelStart := some z } }, stOk)

/-- The masters that may write SYS.TESTREL (02 R66): K-mode cores, the host port and the debug port. -/
def mayTestRel (s : State) (m : Nat) : Bool := if m < 4 then (s.core m).st.mode == 1 else m == 5 || m == 6

/-- A write of SYS.TESTREL by a master; one that may not write it is answered IGNORED, for none of the reasons of R67 (log entry 118,
DEDUCED). -/
def testRelBy (s : State) (m : Nat) (v : Word) : State × Nat := if s.mayTestRel m then s.testRel v else (s, stIgnored)

/-- Test releases at the end of a col slot (02 R54, R66). -/
def trelSlot (s : State) : State :=
  if s.md.trelStop then s.releaseOff
  else match s.md.trelStart with
    | none => s
    | some z =>
      if s.md.mode = .commission then
        { s with md := { s.md with trelStart := none, trel := some (z, s.now + 12000000000), trelZone := z } }
      else s.releaseOff

/-- SYS.MODE, MODESTAT and TESTSTAT as read (02 R60, R63, R67). -/
def modeWord (s : State) : Word :=
  at_ 0 4 s.md.mode.code ||| at_ 4 4 s.md.prev.code ||| at_ 8 8 s.md.cause ||| flag 16 s.md.latch ||| at_ 24 8 s.md.lcause

def modeStatWord (s : State) : Word := at_ 0 2 s.md.reqState ||| at_ 8 8 s.md.reqRefuse

def testStatWord (s : State) : Word :=
  let remain := match s.md.trel with | some (_, t) => (t - s.now + 1999999) / 2000000 | none => 0
  flag 0 s.md.trel.isSome ||| at_ 1 4 s.md.trelZone ||| at_ 8 8 s.md.trelRefuse ||| at_ 16 16 remain

end State

/-- A write of SYS.MODEREQ by a master whose port is open. -/
def State.askMode (s : State) (m : Fin 10) (target : Nat) : State :=
  if s.revoked m then s.answer stError [] else let r := s.modeReq target; r.1.answer r.2 []

/-- SOFTWARE_RESTART (02 R62). -/
def execSoftwareRestart (m : Fin 10) (s : State) : Out := .next (s.askMode m 1)

/-- SERVICE_EXIT (02 R52, R62). -/
def execServiceExit (m : Fin 10) (s : State) : Out := .next (s.askMode m 2)

/-- SERVICE_REQUEST (02 R51). -/
def execServiceRequest (m : Fin 10) (s : State) : Out := .next (s.askMode m 10)

/-- TEST_RELEASE_START (02 R66). -/
def execTestReleaseStart (m : Fin 10) (v : Word) (s : State) : Out := .next <|
  if s.revoked m then s.answer stError [] else let r := s.testRelBy m (v ||| 0x10); r.1.answer r.2 []

/-- TEST_RELEASE_STOP (02 R66). -/
def execTestReleaseStop (m : Fin 10) (v : Word) (s : State) : Out := .next <|
  if s.revoked m then s.answer stError [] else let r := s.testRelBy m (v ||| 0x20); r.1.answer r.2 []

/-- TEST_RELEASE_EXPIRE (02 R54): 60 s after the start. -/
def execTestReleaseExpire (s : State) : Out := .next <|
  match s.md.trel with
  | none => s
  | some (_, t) => (s.advanceTo t).releaseOff

end Sys2Proof.Machine
end

