-- ==== Sys2Proof/Machine/Cycle.lean ====
section
/-! DEFINITION. The safety cycle (01 R21-R42; 05 R137-R168): channel A's strobe, the runtime's prologue and epilogue, the col
slot with its verdict and its mirrors, and channel B's strobe. The runtime is Berelm's code: what the spec says it does in a
cycle is the effect of the commands at which it does it (log entry 20, DESIGN CHOICE). -/
namespace Sys2Proof.Machine

namespace State

/-! ### The safety I/O image (05 R148-R151) -/

/-- A word of sixteen safe booleans of the image, from index `lo` up. -/
def sbWord (p : Nat → BitVec 2) : Word := (upFrom 16 0).foldl (fun w i => w ||| at_ (2 * i) 2 (p i).toNat) 0

/-- A safe boolean of the image. -/
def imgSb (s : State) (n : Nat) : BitVec 2 := BitVec.ofNat 2 (fld (s.ioW (4 * (n / 16))) (2 * (n % 16)) 2)

/-- A safe boolean of the image written. -/
def setImgSb (s : State) (n : Nat) (v : BitVec 2) : State :=
  s.setIo (4 * (n / 16)) (putFld (s.ioW (4 * (n / 16))) (2 * (n % 16)) 2 v.toNat)

/-- DMD0 to DMD11 at the strobe (05 R150): all false. -/
abbrev dmdReset : Word := 0x00555555

/-- The safe-boolean section at a strobe of channel A (05 R148, R149). -/
def latchImage (s : State) (mentry : Bool) : State :=
  let i := s.inputs.ina
  let k := s.inputs.inoka
  let ok := s.outok
  let m := s.seesMode false == 6
  let t := s.seesMode false == 5 && s.md.trel.isSome
  let inp := fun (n : Nat) => if bit k n then sbOf (bit i n) else 0
  let s := (s.setIo 0 (sbWord inp)).setIo 4 (sbWord (fun n => inp (16 + n)))
  let s := (s.setIo 8 (sbWord (fun n => sbOf (bit k n)))).setIo 0xC (sbWord (fun n => sbOf (bit k (16 + n))))
  let s := (s.setIo 0x10 dmdReset).setIo 0x18 (sbWord (fun n => if n < 12 then sbOf (bit ok n) else 0))
  let s := s.setIo 0x20 (sbWord (fun n => if n = 0 then sbOf m else if n = 1 then sbOf mentry else if n = 2 then sbOf t else 0))
  s.setIo 0x24 (sbWord (fun n => sbOf (t && s.trelLine == some n)))

/-! ### Channel A's strobe (01 R23, R26; 05 R146, R150, R154, R159) -/

/-- The modes in which the channels run their cycle: all after the decision that ends VERIFY (01 R22). -/
def cycles (s : State) : Bool :=
  match s.md.mode with
  | .off | .reset | .start | .verify => false
  | _ => true

/-- Channel A's output point: the record it has published, or none, its demands and its session frames (01 R26, R27). -/
def outPointA (s : State) : State :=
  let a := s.chA
  let r : Record := { img := a.recIn, zone := a.recZone, dmd := a.recDmd.setWidth 12, tag := a.recTag.setWidth 16, can := a.recCan.setWidth 16 }
  let s := s.applyDemands false (if a.published then r.dmd else 0)
  let s := if a.seenMode.isSome then s.sesOutA a.published else s
  { s with col := { s.col with recA := if a.published then some r else none, dueA := a.seenMode.isSome, slotOpen := true
                               openA := true, aSeen := true, strobeAt := s.now, cnt := a.cycle } }

/-- No verdict has reached channel A since its last output point: F009 (01 R35). -/
def noVerdictA (s : State) : State := s.driveIf (s.col.openA && s.col.dueA) 9 0

/-- The mode to which QUIET returns: that from which the device entered REACT, which is RUN or COMMISSION (02 R47). -/
def returnsTo (s : State) : Mode := if s.md.returnMode = .commission then .commission else .run

/-- QUIET ends at a channel A strobe when every source is quiet, unless a new fault has been raised (02 R47, R48, 10 R297). -/
def leaveQuiet (s : State) : State :=
  if s.md.mode = .quiet ∧ s.allQuiet ∧ !s.coincides then s.toMode s.returnsTo 0x13 else s

/-- The safety processor at a strobe (04 R124): a processor that waits in CYCEND resumes at 0x40. -/
def resumeA (s : State) : State :=
  let go := fun (r : RunSt) => { s.sp with run := r, pc := 0x40, rets := [], loops := [], st := { s.sp.st with exc := false } }
  match s.sp.run with
  | .waitStrobe => { s with sp := go .running }
  | .halted .waitStrobe => { s with sp := go (.halted .running) }
  | _ => s

/-- Everything that channel A latches at its strobe, and the words that are cleared (05 R149-R154). -/
def latchA (s : State) (e : StrobeEnv) : State :=
  let resumes := s.sp.run == .waitStrobe || s.sp.run == .halted .waitStrobe
  let s := (s.latchInputs false e.rev).senseOutputs false e.rb e.mid e.bdrop
  let s := (s.captureAxes).sesStrobeA
  let a := s.chA
  let mode := s.seesMode false
  let entry := s.entersNow mode a.seenMode a.seenTrel
  let toRun := (mode == 6 && a.seenMode != some 6) || a.seenMode.isNone
  let cycle : Word := if toRun then 0 else a.cycle + 1
  let s := s.latchImage a.mentryDue
  let s := ((s.setIo 0x100 cycle).setIo 0x104 (mode.setWidth 32)).setIo 0x108 (w32 s.now)
  let s := ((s.setIo 0x10C (w32 (s.now / 2 ^ 32))).setIo 0x110 0).setIo 0x114 0xFFFFFFFF
  { s with chA := { s.chA with recIn := 0, recZone := 0, recDmd := 0, recTag := 0, recCan := 0, published := false, verdictUp := false
                               slots := 0, slotBase := 0, seenMode := some mode, seenTrel := if mode = 5 then s.trelLine else none
                               epoch := s.md.epoch, entryNow := entry
                               mentryDue := entry, skipCheck := toRun, cycle := cycle, crcOk := e.crcOk
                               restored := false
                               suspended := s.chA.suspended && !entry
                               phase := if resumes then .prologue else s.chA.phase }
           bst := { s.bst with used := false }
           col := { s.col with hint := some e.rc }
           ses := { s.ses with cyc := if a.seenMode.isNone then 0 else s.ses.cyc + 1 } }.resumeA

/-- Channel A's strobe: WC0 fires. -/
def strobeA (s : State) (e : StrobeEnv) : State :=
  let s := ((s.advanceTo (s.wc 0).nextV).wcFire 0).noVerdictA
  (s.outPointA.leaveQuiet).latchA e

/-! ### The runtime's fault outputs (05 R164) -/

/-- The sources that FLTA drives, by bit. -/
def fltaSrc (i : Nat) : Nat := [16, 17, 18, 19, 20, 9].getD i 16

def setFlta (s : State) (v : BitVec 6) : State :=
  let s := { s with chA := { s.chA with flta := v } }
  (upFrom 6 0).foldl (fun (s : State) i => s.driveIf (bit v i) (fltaSrc i) 0) s

/-! ### The mailbox and the image (04 R111; 05 R148, R151-R156) -/

/-- An IOLD's answer; a word that only takes writes reads 0 (log entry 51, DEDUCED). -/
inductive IoAns where
  | value (w : Word)
  /-- it completes later (05 R153, R155) -/
  | wait
  /-- ACCESS -/
  | bad
deriving DecidableEq, Repr

def ioRead (s : State) (a : Nat) : IoAns :=
  let c := s.chA
  let o := a - 0x300000
  if 0x200000 ≤ a ∧ a < 0x200100 then .value (s.ioW (a - 0x200000))
  else if (0x200100 ≤ a ∧ a < 0x200118) ∨ (0x200120 ≤ a ∧ a < 0x2001A0) then .value (s.ioW (a - 0x200000))
  else if a < 0x300000 then .bad
  else if o = 0 then .value c.recIn
  else if o = 4 then .value c.recZone
  else if o = 8 then .value c.recDmd
  else if o = 0xC then .value c.recTag
  else if o = 0x10 then .value c.recCan
  else if o = 0x20 then (if c.verdictUp then .value c.verdict else .wait)
  else if o = 0x24 then (if c.verdictUp then .value c.vtags else .wait)
  else if o = 0x28 then (if c.verdictUp then .value c.vcans else .wait)
  else if o = 0x30 then .value (w32 (c.slotBase + c.slots))
  else if o = 0x34 then .value c.pace
  else if o = 0x40 then .value (c.flta.setWidth 32)
  else if o = 0x48 then (if c.restoring then .wait else .value (flag 0 c.restoreDone))
  else if o = 0x4C then .value (flag 0 c.loadRt ||| flag 1 c.loadProg)
  else if o = 0x14 ∨ o = 0x38 ∨ o = 0x44 then .value 0
  else if 0x100 ≤ o ∧ o < 0x140 then .value (w32 (fld c.sesfs (8 * (o - 0x100)) 32))
  else .bad

/-- REC_DONE: the record words as they stand are the record (05 R154). -/
def publish (s : State) : State := { s with chA := { s.chA with published := true } }

/-- A valid CYCSET: WC0 is set to the first multiple of the cycle length at least one cycle away (05 R157). -/
def setCycle (s : State) (code : Nat) : State :=
  let len := 25000 * 2 ^ code
  let next := ((s.now + len + len - 1) / len) * len
  let s := { s with chA := { s.chA with cycset := BitVec.ofNat 3 code, cycsetLock := true }
                    tmr := { s.tmr with cycLen := len } }
  let s := ((s.setReg (wcA 0 0) 1).setReg (wcA 0 4) (w32 next)).setReg (wcA 0 8) (w32 (next / 2 ^ 32))
  (s.setReg (wcA 0 0xC) (w32 len)).setWc 0 { nextV := next, armed := true }

/-- RESTORE starts the restore engine in an entry cycle (05 R146). -/
def startRestore (s : State) : State := { s with chA := { s.chA with restoring := true, restoreDone := false } }

/-- An IOST; none where it raises ACCESS. -/
def ioWrite (s : State) (a : Nat) (v : Word) : Option State :=
  let c := s.chA
  let o := a - 0x300000
  if a = 0x200110 ∨ a = 0x200114 then some (s.setIo (a - 0x200000) v)
  else if a < 0x300000 then none
  else if o ≤ 0x10 ∧ o % 4 = 0 then
    if c.published then none
    else
      some { s with chA := match o with
        | 0 => { c with recIn := v } | 4 => { c with recZone := v } | 8 => { c with recDmd := v } | 0xC => { c with recTag := v }
        | _ => { c with recCan := v } }
  else if o = 0x14 then some s.publish
  else if o = 0x38 then (if c.cycsetLock ∨ 4 < v.toNat then none else some (s.setCycle v.toNat))
  else if o = 0x40 then some (s.setFlta (v.setWidth 6))
  else if o = 0x44 then (if c.entryNow then some s.startRestore else none)
  else none

/-- A word of the mailbox written by the runtime, at the command that names it. -/
def runtimeWrites (s : State) (a : Nat) (v : Word) : State :=
  if s.sp.run ≠ .running then s
  else match s.ioWrite a v with
    | some t => t
    | none => s.raiseExc .safety { code := 4, eval := w32 a }

/-! ### The epilogue and the handler (05 R161-R166) -/

/-- The guards' knowledge in channel A. -/
def guardA (s : State) : Guard :=
  { zuse := if s.heldA then s.zuseA else 0, mentry := s.imgSb 129 == 2, mode := fld (s.ioW 0x104) 0 4
    trel := if s.imgSb 130 = 2 then s.chA.seenTrel else none }

/-- ZMAP as the runtime knows it. -/
def zmapWord (s : State) : Nat := s.tcmNum (pgCopy + 0x10) 6

/-- REC_IN (05 R162). -/
def recInWord (s : State) : Word := wordOf 32 (fun n => s.imgSb n == 2)

/-- The record of an epilogue: input image, tag and canary with the given zones and demands (05 R162). -/
def putRecord (s : State) (zones : Word) (dmd : BitVec 12) : State :=
  let tag := w32 (fld (s.ioW 0x100) 0 16)
  let s := s.setIo 0x10 (sbWord (fun n => if n < 12 then sbOf (bit dmd n) else 0))
  { s with chA := { s.chA with recIn := s.recInWord, recZone := zones, recDmd := dmd.setWidth 32, recTag := tag, recCan := tag } }

/-- A runtime fault found in this cycle. -/
def dueFault (s : State) (i : Nat) (c : Bool) : State :=
  if c then { s with chA := { s.chA with dueFlt := putBit s.chA.dueFlt i true } } else s

/-- The end of an epilogue: FLTA, then REC_DONE. -/
def endEpilogue (s : State) : State :=
  let s := s.setFlta s.chA.dueFlt
  { s with chA := { s.chA with dueFlt := 0, phase := .done } }.publish

/-- The program has run longer than its worst path (05 R165). -/
def overran (s : State) : Bool := s.heldA && decide (s.wpathA + 8 < s.chA.slots)

/-- The record of a cycle in which the program ran (05 R161, R165). -/
def programRecord (s : State) : State :=
  let zone := s.ioW 0x110
  let broken := (zone ^^^ s.ioW 0x114) != 0xFFFFFFFF
  let s := (s.dueFault 4 broken).dueFault 3 s.overran
  if broken || s.overran then s.putRecord 0 0
  else
    let z := zoneWord (fun n => s.guardA.zone n (zoneOf zone n))
    s.putRecord z (guardDmd s.zmapWord z ((wordOf 12 (fun k => s.imgSb (64 + k) == 2)).setWidth 12))

/-- The record of an entry cycle (05 R146). -/
def entryRecord (s : State) : State :=
  let s := { s with sp := { s.sp with sb := [] } }
  let z := zoneWord (fun n => if s.guardA.zuse.testBit n then 1 else 0)
  let s := (s.setIo 0x110 z).setIo 0x114 (~~~z)
  s.putRecord (zoneWord (fun n => s.guardA.zone n (zoneOf z n))) 0

/-- The FLTA bit of an S-mode exception (05 R164). -/
def excBit (s : State) : Nat :=
  if s.sp.epc.toNat < s.sp.rtend.toNat then 2
  else if fld s.sp.ecause 0 8 = 0xB ∨ fld s.sp.ecause 0 8 = 0xC then 0 else 1

/-- The runtime's exception handler (05 R166). -/
def handler (s : State) : State :=
  let s := s.setFlta (putBit s.chA.dueFlt s.excBit true)
  let s := if s.chA.published then s else (s.putRecord 0 0).publish
  { s with sp := { s.sp with sb := [] }, chA := { s.chA with dueFlt := 0, suspended := true, phase := .done } }

/-- The epilogue writes its record and publishes it; with the record published already in this cycle its first write to a record word
raises ACCESS (05 R154; that the first word is REC_IN is log entry 112, DEDUCED). -/
def writeRecord (s : State) (build : State → State) : State :=
  if s.chA.published then s.raiseExc .safety { code := 4, eval := 0x300000 } else (build s).endEpilogue

/-- REC_DONE at the end of an epilogue: the program has returned, or the restore of an entry cycle has ended, or no program was
called (05 R146, R159, R166). -/
def epilogue (s : State) : State :=
  match s.chA.phase with
  | .program => if s.sp.rets.isEmpty then s.writeRecord programRecord else s
  | .entry => if s.heldA && !s.chA.restored then s else s.writeRecord entryRecord
  | .allOff => s.writeRecord (fun s => s.putRecord 0 0)
  | _ => s

/-! ### The prologue's second part (05 R159, R160) -/

/-- The verdict of the previous cycle is as R160 requires. -/
def verdictOk (s : State) : Bool :=
  let c := s.chA
  let tag := (c.cycle - 1).setWidth 16
  bit c.verdict 5 || bit c.verdict 6
    || (bit c.verdict 4 && c.vtags.setWidth 16 == tag && (c.vtags >>> 16).setWidth 16 == tag
        && c.vcans.setWidth 16 == tag && (c.vcans >>> 16).setWidth 16 == ~~~tag)

/-- CALL of the user call slot (05 R139, R165): one return-stack entry, six slots since SLOTCNT was read as s0. -/
def callProgram (s : State) : State :=
  { s with sp := { s.sp with pc := 0xC0, rets := [Config.runtimeReturn], loops := [] }
           chA := { s.chA with phase := .program, slotBase := Config.prologueSlots s.fresh, slots := 6 } }.drawn

/-- What the prologue does once the verdict is up: R137, R160, ZSTOPA (09 R268), then step 5 of R159. Where the safety processor
has left 0x40 its code is executed instruction by instruction, and the prologue is those instructions (log entry 20, DESIGN CHOICE).
Log entry 24, DEDUCED. -/
def prologue (s : State) : State :=
  if s.chA.phase ≠ .prologue ∨ s.sp.pc ≠ 0x40 ∨ s.sp.run ≠ .running then s
  else
    let s := (s.dueFault 4 (!s.chA.crcOk)).dueFault 5 (!s.chA.skipCheck && !s.verdictOk)
    let s := s.tcmPut 0x10FFF0 (bytesOfWord (dual s.zoneLines))
    if s.chA.entryNow then { s with chA := { s.chA with phase := .entry } }
    else if s.chA.suspended || !s.heldA then { s with chA := { s.chA with phase := .allOff } }
    else s.callProgram

/-- An IOLD that waits completes once its word can be read (05 R153, R155). -/
def wakeRead (s : State) : State :=
  match s.sp.run with
  | .waitRead rd a =>
    match s.ioRead a with
    | .value w => (({ s with sp := { s.sp.w rd w with run := .running } }).flowOn .safety s.sp.pc).settleStep .safety
    | _ => s
  | _ => s

/-! ### The col slot (01 R26-R35, R39-R42) -/

/-- The count of one compared item; its fault is raised once per episode (01 R31). -/
def missStep (limit : Nat) (same : Bool) (t : Tab Nat) (i : Nat) : Tab Nat × Bool :=
  if same then (put 0 t i 0, false) else (put 0 t i (look 0 t i + 1), look 0 t i + 1 == limit)

/-- Items 0 to k - 1 of one kind compared, with their source on reaching the limit. -/
def compareItems (s : State) (k limit n : Nat) (same : Nat → Bool) (get : ColSt → Tab Nat) (set : ColSt → Tab Nat → ColSt) : State :=
  (upFrom k 0).foldl (fun (s : State) i =>
    let r := missStep limit (same i) (get s.col) i
    { s with col := set s.col r.1 }.driveIf r.2 n (det i)) s

/-- The two records compared; a missing record counts as zones TORQUE_OFF and demands off (01 R27, R31, R32). Log entry 108,
DEDUCED. -/
def compareRecords (s : State) (ra rb : Option Record) : State :=
  let a := ra.getD {}
  let b := rb.getD {}
  let s := if ra.isNone || rb.isNone then s
    else s.compareItems 32 2 0 (fun i => bit a.img i == bit b.img i) (·.missIn) (fun c t => { c with missIn := t })
  let s := s.compareItems 16 3 1 (fun i => zoneOf a.zone i == zoneOf b.zone i) (·.missZn) (fun c t => { c with missZn := t })
  s.compareItems 12 3 2 (fun i => bit a.dmd i == bit b.dmd i) (·.missDm) (fun c t => { c with missDm := t })

/-- CANOK: the tags agree and the canaries disagree (01 R35). -/
def canOk (ra rb : Option Record) : Bool :=
  match ra, rb with
  | some a, some b => a.tag == b.tag && a.can != b.can
  | _, _ => false

/-- COLSTAT (01 R41, R42): TAG with both records missing is the cycle count's. -/
def colstat (s : State) (ra rb : Option Record) : Word :=
  let a := ra.getD {}
  let b := rb.getD {}
  let both := ra.isSome && rb.isSome
  flag 0 (both && a.img != b.img) ||| flag 1 (a.zone != b.zone) ||| flag 2 (a.dmd != b.dmd) ||| flag 3 s.col.ssDiff
    ||| flag 4 (canOk ra rb) ||| flag 5 ra.isNone ||| flag 6 rb.isNone
    ||| at_ 16 16 (match ra, rb with | some r, _ => r.tag.toNat | none, some r => r.tag.toNat | none, none => s.col.cnt.toNat)

/-- Late channels, a stalled channel A and the col self-check of channel B (01 R27, R35; 05 R168). Log entry 50, DEDUCED. -/
def lateChecks (s : State) (ra rb : Option Record) : State :=
  let lateA := s.col.dueA && ra.isNone
  let k := if !s.col.dueA then s.chA.misses else if lateA then s.chA.misses + 1 else 0
  let s := { s with chA := { s.chA with misses := k } }
  let s := ((s.driveIf lateA 4 0).driveIf (s.col.dueB && rb.isNone) 5 0).driveIf (64 ≤ k) 11 0
  let bad := ra.isSome && rb.isSome && !canOk ra rb
  { s with col := { s.col with badVerdictB := bad } }.driveIf bad 10 0

/-- Pace checks (01 R28, R29): 120 M slots/s and 20 M cells/s, in 0.1 M/s. -/
def paceChecks (s : State) (paceA paceB : Nat) : State :=
  (s.driveIf (s.col.dueA && decide (paceA < 1200)) 6 0).driveIf (s.col.dueB && decide (paceB < 200)) 7 0

/-- FLT.ACTIVE word w (10 R305). -/
def activeWord (s : State) (w : Nat) : Word :=
  wordOf 32 (fun i => match (s.src (32 * w + i)).st with | .fault | .wiring => true | _ => false)

/-- Registers of SIO at consecutive offsets. -/
def sioPut (s : State) (o : Nat) : List Word → State
  | [] => s
  | w :: ws => (s.setReg (sioB + o) w).sioPut (o + 4) ws

/-- The T_cyc code that both channels run with after the mode decision (01 R22): the headers' in RUN and COMMISSION, the idle cycle's
otherwise. -/
def cycCode (s : State) : Nat := if s.md.tcycValid then s.md.tcyc else 3

/-- The modes in which a zone can read other than TORQUE_OFF: RUN, and COMMISSION with a test release (02 R57). -/
def zonesFollow (s : State) : Bool := s.md.mode == .run || (s.md.mode == .commission && s.md.trel.isSome)

/-- The mirrors in SIO and SYS.ZONEA and ZONEB, written in one update (01 R39, R42; 02 R64; 06 R207; 07 R239; 08 R263; 09 R286;
10 R305). -/
def mirrors (s : State) (ra rb : Option Record) (paceA paceB : Nat) : State :=
  let cyc := at_ 0 3 s.cycCode ||| flag 3 s.md.tcycValid ||| flag 4 s.lat.locked ||| at_ 8 8 s.lat.lostCnt
  let p := s.inputs
  let o := s.outputs
  let two := fun (a b : BitVec 12) => a.setWidth 32 ||| (b.setWidth 32 <<< 16)
  let s := s.sioPut 0 [cyc, s.col.cnt, s.colstat ra rb, at_ 0 16 paceA, at_ 0 16 paceB, s.lat.refcnt]
  let s := (s.sioPut 0x2C [s.lat.evalT.setWidth 32]).sioPut 0x40 ((upFrom 8 0).map (fun w => w32 (fld s.lat.cond (32 * w) 32)))
  let s := s.sioPut 0x80 [p.ina, p.inb, p.inoka, p.inokb, wordOf 32 (fun n => (s.inp n).rev), s.inSpareWord]
  let s := (s.sioPut 0xA0 ((upFrom 32 0).map s.inDiagWord)).sioPut 0x120 ((upFrom 8 0).map s.tpDiagWord)
  let s := s.sioPut 0x140 [s.outSwWord, two o.rbA o.rbB, two o.midA o.midB, two s.outok s.outok, s.vfStatWord]
  let s := s.sioPut 0x160 ((upFrom 12 0).map s.outDiagWord)
  let s := s.sioPut 0x190 ((upFrom 8 0).map (fun i => at_ 0 16 (s.spdA i) ||| at_ 16 16 (s.spdB i)))
  let s := (s.sioPut 0x1B0 [s.zstopWord]).sioPut 0x1C0 ((upFrom 8 0).map s.activeWord)
  let zone := fun (r : Option Record) => match r with | some r => if s.zonesFollow then r.zone else 0 | none => 0
  (s.setReg (sysB + 0x10C) (zone ra)).setReg (sysB + 0x110) (zone rb)

/-- The verdict reaches channel A's mailbox (05 R153). -/
def verdictA (s : State) (ra rb : Option Record) (paceA : Nat) : State :=
  let a := ra.getD {}
  let b := rb.getD {}
  { s with chA := { s.chA with verdict := s.colstat ra rb, vtags := a.tag.setWidth 32 ||| (b.tag.setWidth 32 <<< 16)
                               vcans := a.can.setWidth 32 ||| (b.can.setWidth 32 <<< 16), pace := w32 paceA } }

/-- A confirmed commissioning takes effect (22 R564): RUN, unless a fault coincides, in which case the job fails. -/
def confirmSlot (s : State) : State :=
  if !s.md.confirmDue then s
  else
    let s := { s with md := { s.md with confirmDue := false } }
    if s.md.mode = .commission ∧ !s.coincides then s.toMode .run 0x20
    else s.setReg (truB + 0x48) (2 ||| at_ 16 16 0x45)

/-- The readback of reaction lines and mode lines in the slot (10 R292). -/
def lineReadback (s : State) (reactDiff modeDiff : Bool) : State :=
  ({ s with col := { s.col with reactDiff := reactDiff, modeDiff := modeDiff } }.driveIf reactDiff 240 0).driveIf modeDiff 241 0

/-- The end of a col slot, 5 us after the output point (01 R26). Log entry 29, DESIGN CHOICE. Log entry 137, DEDUCED. -/
def colSlot (s : State) (paceA paceB : Nat) (reactDiff modeDiff : Bool) : State :=
  let s := s.advanceTo (s.col.strobeAt + 1000)
  let ra := s.col.recA
  let rb := s.col.recB
  let both := s.col.dueA && s.col.dueB
  let due := s.col.dueA || s.col.dueB
  let s := { s with col := { s.col with ssDiff := false } }
  let s := if both then s.compareRecords ra rb else s
  let s := if due then s.sesColSlot (s.col.strobeAt - s.tmr.cycLen) s.tmr.cycLen rb.isSome else s
  let s := if due then ((s.lateChecks ra rb).paceChecks paceA paceB).verdictA ra rb paceA else s
  let s := (s.lineReadback reactDiff modeDiff).outSlot
  let s := if due then s.mirrors ra rb paceA paceB else s
  let s := (s.serviceEntry.trelSlot).confirmSlot
  let c := { s.col with recA := none, recB := none, dueA := false, dueB := false, slotOpen := false, openA := false, openB := false }
  let s := { s with col := c, chA := { s.chA with verdictUp := true } }
  (s.wakeRead.prologue).safePoint 0x88

end State

/-- CYCLE_STROBE (01 R23, R26): WC0, once CYCSET has set it, fires at its next value. -/
def execCycleStrobe (e : StrobeEnv) (s : State) : Out := .next <|
  if s.cycles && s.tmr.lock && (s.wc 0).armed then s.strobeA e else s

/-- CHANNEL_B_STROBE_LOCKED (01 R24): channel A's strobe falls inside the acceptance window; a count outside it is no such strobe. -/
def execChannelBStrobeLocked (e : StrobeEnvB) (s : State) : Out := .next <|
  match s.col.hint with
  | none => s
  | some rc =>
    if s.cycles && decide (s.lat.winLo ≤ rc.toNat) && decide (rc.toNat < s.lat.winHi) then
      let s := s.noVerdictB
      { s with lat := { s.lat with locked := true }, col := { s.col with aSeen := false, hint := none } }.strobeB e rc.toNat
    else s

namespace State

/-- Channel B strobes at its window's close, unlocked (01 R24, R40); a channel A that has not strobed since has no record due at
this output point but a missing one, with its demands off (R27). -/
def closeWindow (s : State) (e : StrobeEnvB) : State :=
  let missing := !s.col.aSeen && s.chA.seenMode.isSome
  let cnt := s.lat.cycle
  let s := s.noVerdictB
  let s := { s with lat := { s.lat with locked := false, lostCnt := satInc 255 s.lat.lostCnt } }.drive 8 0
  let s := if missing then s.applyDemands false 0 else s
  let s := { s with col := { s.col with aSeen := false, hint := none, dueA := s.col.dueA || missing
                                        strobeAt := if s.col.slotOpen then s.col.strobeAt else s.now
                                        cnt := if s.col.slotOpen then s.col.cnt else cnt } }
  s.strobeB e s.lat.winHi

end State

/-- ACCEPTANCE_WINDOW_CLOSE (01 R22, R24). -/
def execAcceptanceWindowClose (e : StrobeEnvB) (s : State) : Out := .next <| if s.cycles then s.closeWindow e else s

/-- EARLY_STROBE_IGNORED (01 R24): channel A's strobe before the window opens is ignored; channel B is unlocked; F008. -/
def execEarlyStrobeIgnored (s : State) : Out := .next <|
  match s.col.hint with
  | none => s
  | some rc =>
    if s.cycles && decide (rc.toNat < s.lat.winLo) then
      { s with lat := { s.lat with locked := false }, col := { s.col with hint := none } }.drive 8 0
    else s

/-- COL_SLOT_END (01 R26, R29). -/
def execColSlotEnd (paceA paceB : BitVec 16) (reactDiff modeDiff : Bool) (s : State) : Out := .next <|
  if s.col.slotOpen then s.colSlot paceA.toNat paceB.toNat reactDiff modeDiff else s

/-- REC_DONE (05 R154, R159, R166). -/
def execRecDone (s : State) : Out := .next <|
  if s.sp.run ≠ .running then s else if s.sp.st.exc then s.handler else s.epilogue

/-- CYCSET (05 R140, R156, R157): ACCESS after the first valid write and for a code above 0b100. The runtime writes the code that 01
R22 selects and no other valid one (log entry 113, DEDUCED). -/
def execCycset (code : BitVec 32) (s : State) : Out := .next <|
  if code.toNat ≤ 4 ∧ code.toNat ≠ s.cycCode then s else s.runtimeWrites 0x300038 code

/-- RESTORE (05 R146, R153): ACCESS outside an entry cycle. -/
def execRestore (s : State) : Out := .next (s.runtimeWrites 0x300044 1)

/-- RESTORE_COMPLETE (05 R146): DATALEN bytes of the shadow are in data TCM from 0x0011_0000. -/
def execRestoreComplete (s : State) : Out := .next <|
  if !s.chA.restoring then s
  else
    let n := if s.heldA then s.dataLenA else 0
    let s := s.tcmPut 0x110000 ((upFrom n (0x80000 - n)).map (fun i => look 0 s.chA.tcm i))
    { s with chA := { s.chA with restoring := false, restoreDone := true, restored := true } }.wakeRead

/-- FLTA (05 R164). -/
def execFlta (v : BitVec 6) (s : State) : Out := .next (s.runtimeWrites 0x300040 (v.setWidth 32))

end Sys2Proof.Machine
end

