-- ==== Sys2Proof/Machine/Governor.lean ====
section
/-! DEFINITION. The budget governor (17): the computation at each window boundary, settlement of grants, heat. -/
namespace Sys2Proof.Machine

namespace State

/-- A value of a GOV field kept within its range (17 R457). -/
def govClamp (s : State) (o len lo hi : Nat) : State :=
  let v := fld (s.reg (govB + o)) 0 len
  if v < lo then (s.setReg (govB + o) (w32 lo)).setBits govB (flag 4 true)
  else if hi < v then (s.setReg (govB + o) (w32 hi)).setBits govB (flag 4 true)
  else s

/-- What a commit of GOV does (17 R457): values outside their range are applied as the nearest limit. -/
def govApply (s : State) : State :=
  ((((s.govClamp 4 14 1000 9000).govClamp 8 8 90 120).govClamp 0xC 8 10 200).govClamp 0x10 10 0 500).govClamp 0x18 8 20 250

def sensor (e : GovEnv) (n : Nat) : SensorSample := e.sensors.getD n { peak := 0, last := 0, pred := 0 }

/-- The last sample lies in -40 C to 160 C; every sample of the window does; the last one differs from the prediction by more than
15 C (17 R447, R459). -/
def sensorValid (x : SensorSample) : Bool := decide (-40 ≤ sgn' x.last) && decide (sgn' x.last ≤ 160)
where sgn' (b : BitVec 10) : Int := b.toInt

def sensorGood (x : SensorSample) : Bool := sensorValid x && decide (x.peak.toInt ≤ 160)

def sensorDiff (x : SensorSample) : Bool := decide (15 < (x.last.toInt - x.pred.toInt).natAbs)

/-- The sensors of the window that closes: TSENn, F148 (17 R447, R459). -/
def govSensors (s : State) (e : GovEnv) : State :=
  let s := (upFrom 8 0).foldl (fun s n =>
    let x := sensor e n
    let s := s.setReg (govB + 0x40 + 4 * n)
      (at_ 0 10 x.last.toNat ||| at_ 10 10 x.pred.toNat ||| flag 20 (sensorValid x) ||| flag 21 (sensorDiff x))
    { s with gov := { s.gov with diffRun := put 0 s.gov.diffRun n (if sensorDiff x then look 0 s.gov.diffRun n + 1 else 0) } }) s
  let bad := (upFrom 8 0).any (fun n => !sensorGood (sensor e n) || decide (100 ≤ look 0 s.gov.diffRun n))
  let calm := (upFrom 8 0).all (fun n => sensorGood (sensor e n) && !sensorDiff (sensor e n))
  let okRun := if calm then s.gov.okRun + 1 else 0
  let err := bad || (s.gov.sensErr && decide (okRun < 100))
  let s := { s with gov := { s.gov with okRun := okRun, sensErr := err } }
  let sel := fun (n : Nat) => !sensorGood (sensor e n) || decide (100 ≤ look 0 s.gov.diffRun n)
  let s := if bad then s.setBits govB (flag 2 true) else s
  (upFrom 8 0).foldl (fun (t : State) n => if sel n then t.drive 148 (det n) else t) s

/-- The highest value of a list of signed numbers with its place. -/
def highest : List (Int × Nat) → Int × Nat
  | [] => (0, 0)
  | [x] => x
  | x :: xs => let y := highest xs; if y.1 ≤ x.1 then x else y

/-- Tmax of the window with its sensor (17 R447): the highest sample, or the highest prediction where that is higher while
F148 is raised. -/
def govTmax (s : State) (e : GovEnv) : Int × Nat :=
  let m := highest ((upFrom 8 0).map (fun n => ((sensor e n).peak.toInt, n)))
  let p := highest ((upFrom 8 0).map (fun n => ((sensor e n).pred.toInt, n)))
  if s.gov.sensErr && decide (m.1 < p.1) then p else m

/-- K after a window (17 R446), in 1/4096, from P_logic in mW and the model energy in pJ; a window without model energy leaves it. -/
def govK (k pLogic eModel : Nat) : Nat :=
  if eModel = 0 then k
  else
    let kw : Int := (pLogic * 1000000 * 4096 / eModel : Nat)
    let v : Int := k + (kw - k) / 16
    if v < 0xC00 then 0xC00 else if 0x1800 < v then 0x1800 else v.toNat

/-- F147 (17 R452): 10 consecutive windows above CAP + 0.2 W raise it; 10 at or below CAP end it. -/
def govCap (s : State) (pPkg cap : Nat) : State :=
  let g := s.gov
  let s := { s with gov := { g with overRun := if cap + 200 < pPkg then g.overRun + 1 else 0,
                                    underRun := if pPkg ≤ cap then g.underRun + 1 else 0 } }
  if 10 ≤ s.gov.overRun then (s.setBits govB (flag 1 true)).drive 147 0 else s

/-- Words 0 to 127 of OTP, the MFG region (19 R479). -/
def mfgWords (s : State) : List Word := (upFrom 128 0).map (look 0 s.otp.vals)

/-- Handshakes of unit u in the window: those of the commands and those below them (17 R445). -/
def handOf (s : State) (e : GovEnv) (u : Nat) : Hand :=
  let h := look {} s.gov.hand u
  match e.hidden[u]? with
  | some x => { h0 := h.h0 + x.h0.toNat, h1 := h.h1 + x.h1.toNat, h2 := h.h2 + x.h2.toNat, h3 := h.h3 + x.h3.toNat }
  | none => h

/-- Model energy of unit u in the window in pJ (17 R445): its counts by its coefficients, and its static power for 1 ms. -/
def unitEnergy (s : State) (e : GovEnv) (u : Nat) : Nat :=
  let h := s.handOf e u
  let m := s.mfgWords
  h.h0 * Config.handCoef m u 0 + h.h1 * Config.handCoef m u 1 + h.h2 * Config.handCoef m u 2 + h.h3 * Config.handCoef m u 3
    + Config.staticPower m u

/-- Units of the model (log entry 120, DESIGN CHOICE), and those whose work is of class 0 (17 R442): the safety processor, the
lattice, and the units that serve every class. -/
abbrev govUnits : List Nat := upFrom 16 0
def classZero (u : Nat) : Bool := u == 4 || decide (10 ≤ u)

/-- Model energy of the units that a test selects, in pJ. -/
def modelEnergy (s : State) (e : GovEnv) (sel : Nat → Bool) : Nat :=
  ((govUnits.filter sel).map (s.unitEnergy e)).foldl (· + ·) 0

/-- Energy of those units with the correction K, in nJ (17 R446). -/
def unitsEnergy (s : State) (e : GovEnv) (sel : Nat → Bool) : Nat :=
  s.modelEnergy e sel * fld (s.reg (govB + 0x30)) 0 16 / 4096 / 1000

/-- The pace of core k under grant in 0.1 MIPS (17 R456): the instructions it completed, over the time for which it ran. -/
def corePace (s : State) (e : GovEnv) (k : Nat) : Nat := min 65535 (look 0 s.gov.instrs k * 2000 / (e.ranFor.getD k 0).toNat)

/-- The boundary that opens a window (17 R446-R452, R456): what was reported of the window that closes, then the budget of
the one that opens, then the waiting requests. -/
def govWindow (s : State) (e : GovEnv) : State :=
  let pPkg := e.pLogic.toNat + e.dField.toNat
  let cap := fld (s.reg (govB + 4)) 0 14
  let e0 := s.unitsEnergy e classZero
  let e1 := s.unitsEnergy e (fun u => !classZero u)
  let k := govK (fld (s.reg (govB + 0x30)) 0 16) e.pLogic.toNat (s.modelEnergy e (fun _ => true))
  let s := (s.govSensors e).govCap pPkg cap
  let tm := s.govTmax e
  let tlim : Int := fld (s.reg (govB + 8)) 0 8
  let theta : Int := fld (s.reg (govB + 0xC)) 0 8
  let excess : Int := max 0 (((pPkg : Int) - s.gov.peff) * 1000)
  let peff : Int := min (cap : Int) ((pPkg : Int) + (tlim - tm.1) * 10000 / theta)
  let res : Int := (fld (s.reg (govB + 0x10)) 0 10 * 1000 : Nat)
  let left := peff * 1000 - (e0 : Int) - (e.dField.toNat * 1000 : Nat) - res - excess
  let s := s.countUp (govB + 0x20)
  let s := s.setReg (govB + 0x24) (at_ 0 16 pPkg ||| at_ 16 16 peff.toNat)
  let s := s.setReg (govB + 0x28) (at_ 0 16 e.dField.toNat)
  let s := s.setReg (govB + 0x2C) (at_ 0 16 (e0 / 1000) ||| at_ 16 16 (e1 / 1000))
  let s := s.setReg (govB + 0x30) (at_ 0 16 k)
  let s := s.setReg (govB + 0x34) (at_ 0 16 e.vl.toNat ||| at_ 16 16 e.iin.toNat)
  let s := s.setReg (govB + 0x60) ((BitVec.ofInt 10 tm.1).setWidth 32 ||| at_ 10 3 tm.2)
  let s := (upFrom 4 0).foldl (fun s k => s.setReg (govB + 0x70 + 4 * k) (at_ 0 16 (s.corePace e k))) s
  let g := s.gov
  let s := { s with gov := { g with opened := s.now / 200000, hand := [], instrs := [], carry := 0, carryRes := 0
                                    left := left + g.carry, res := res + g.carryRes, peff := peff, hot := g.hot && !decide (tm.1 < tlim)
                                    deniedLast := g.denied, denied := false, forcedLast := g.forced, forced := false } }
  s.redecide

/-- GOV.STAT as read (17 R458). -/
def govStat (s : State) : Word := (s.reg govB &&& 0x17) ||| flag 3 s.gov.hot ||| flag 5 s.gov.deniedLast

/-- Interrupt 52 stands (17 R458). -/
def govIrq (s : State) : Bool :=
  let ctl := s.reg (govB + 0x1C)
  (bit ctl 4 && bit (s.reg govB) 1) || (bit ctl 5 && bit (s.reg govB) 2) || (bit ctl 6 && s.gov.hot)

/-- The first grant of a worker and the others. -/
def takeGrant (w : Worker) : List Grant → Option (Grant × List Grant)
  | [] => none
  | g :: gs =>
    if g.who = w then some (g, gs)
    else match takeGrant w gs with
      | some (x, r) => some (x, g :: r)
      | none => none

/-- Energy returned to the pool a grant was drawn from, or taken from it (17 R449): in the instant of a boundary, to that of the
window that opens there (R444). -/
def giveBack (s : State) (fromRes : Bool) (back : Int) : State :=
  let v := s.gov
  { s with gov :=
      if s.boundaryDue then
        (if fromRes then { v with carryRes := v.carryRes + back } else { v with carry := v.carry + back })
      else if fromRes then { v with res := v.res + back }
      else { v with left := v.left + back } }

/-- The settlement of a grant (17 R449): the difference between estimate and measured energy returns to its pool; a core whose
context still runs asks again, and a denied context goes to the head of its ready queue (R450); waiting requests are decided
again when energy returned. The handler of an idle core goes on being charged until its RFE. -/
def settleGrant (s : State) (w : Worker) (energy : Int) : State :=
  match takeGrant w s.gov.grants with
  | none => s
  | some (g, rest) =>
    let back := g.cost - energy
    let s := { s with gov := { s.gov with grants := rest } }.giveBack g.fromRes back
    let s :=
      match w with
      | .core k =>
        match (s.core k).task with
        | none => if g.ended || g.cls != 0 then s else { s with gov := { s.gov with grants := s.gov.grants ++ [g] } }
        | some x =>
          if g.ended then s
          else
            let c := s.ctx x
            let cost := s.taskCost c.energy.toNat
            match s.decideAsk w c.cls.toNat cost false with
            | some t => t
            | none =>
              if (s.core k).st.exc || (s.core k).run != .running then s
              else (((s.saveCtx k x).requeueHead k x).idleCore k).deny w c.cls.toNat cost
      | .job _ => s
    if 0 < back then s.redecide else s

/-- At a job boundary the grants of the hardware jobs end, but that of a slice in progress and that of a forced slice (17 R451). -/
def endJobs (s : State) : State :=
  let runs := fun (g : Grant) => g.forced || (g.who == .job 0 && s.bst.active.isSome) || g.who.isCore
  { s with gov := { s.gov with grants := s.gov.grants.map (fun (g : Grant) => if runs g then g else { g with ended := true }) } }

/-- HOT is set (17 R451): grants of classes 1 to 4 end; their contexts return to the heads of their ready queues, one whose core waits
within an instruction or for an interrupt when that wait ends. -/
def goHot (s : State) : State :=
  let s := { s with gov := { s.gov with hot := true } }.endJobs
  (upFrom 4 0).foldl (fun s k =>
    match (s.core k).run, (s.core k).task with
    | .halted _, _ | _, none => s
    | .running, some x =>
      if (s.core k).st.exc then s
      else
        let c := s.ctx x
        ((((s.saveCtx k x).requeueHead k x).endGrant (.core k)).idleCore k).deny (.core k) c.cls.toNat (s.taskCost c.energy.toNat)
    | _, _ => s.endGrant (.core k)) s

end State

/-- RESERVE_RELEASE (17 R448): 0.5 ms into the window what remains of the reserve joins the shared budget. -/
def execReserveRelease (s : State) : Out :=
  let t := s.now / 200000 * 200000 + 100000
  .next <|
    if !s.tmr.lock then s
    else
      let s := if s.now < t then s.advanceTo t else s
      { s with gov := { s.gov with left := s.gov.left + s.gov.res, res := 0 } }

/-- GRANT_END (17 R449, R450). -/
def execGrantEnd (who : GrantRef) (energy : BitVec 32) (s : State) : Out :=
  .next (s.settleGrant (match who with | .core k => .core k.val | .job n => .job n.toNat) energy.toNat)

/-- HOT_ENTRY (17 R451): a sample at or above TLIM + 5 C. -/
def execHotEntry (sensor : Fin 8) (temp : BitVec 10) (s : State) : Out :=
  .next <|
    if decide ((fld (s.reg (govB + 8)) 0 8 : Int) + 5 ≤ temp.toInt) then
      (s.setReg (govB + 0x40 + 4 * sensor) (putFld (s.reg (govB + 0x40 + 4 * sensor)) 0 10 temp.toNat)).goHot
    else s

end Sys2Proof.Machine
end

