-- ==== Sys2Proof/Machine/Loop.lean ====
section
/-! DEFINITION. The current-loop outputs and their FSK modems (14). -/
namespace Sys2Proof.Machine

namespace State

def lp (s : State) (n : Nat) : LpSt := look {} s.loop.lps n
def setLp (s : State) (n : Nat) (v : LpSt) : State := { s with loop := { s.loop with lps := put {} s.loop.lps n v } }

end State

/-- The driver is at high impedance in these modes (02 R45, 14 R390). -/
def Mode.loopsOff : Mode → Bool
  | .off | .reset | .start | .verify => true
  | _ => false

/-- The NE 43 low alarm of 3.50 mA (14 R388). -/
abbrev alarmCode : BitVec 16 := 0x2555

/-- The lowest code of 0.5 mA or more, and of 0.1 mA or more (14 R389: 366.2 nA per code). -/
abbrev halfMilli : Nat := 1366
abbrev tenthMilli : Nat := 274

/-- A 16-bit value as signed. -/
def sgn {n : Nat} (b : BitVec n) : Int := b.toInt

namespace State

/-- ITGT and high impedance at a DAC update (14 R390). -/
def loopTarget (s : State) (n : Nat) (c : LpSt) : BitVec 16 × Bool :=
  let ctl := s.reg (lpA n 0)
  if bit c.live 3 then (0, true)
  else if s.md.mode.loopsOff then (0, true)
  else if s.md.mode = .lockout ∨ s.md.mode = .holdup then (alarmCode, c.switching)
  else if !bit ctl 0 then (0, true)
  else if bit c.live 4 || (bit ctl 2 && fld (s.reg (lpA n 0xC)) 0 3 != 0) then (alarmCode, c.switching)
  else (BitVec.ofNat 16 (fld (s.reg (lpA n 4)) 0 16), c.switching)

/-- The mean of the last 250 readbacks (14 R391); samples before the first update count as 0. -/
def loopMean (xs : List (BitVec 16)) : Nat := (xs.map (·.toNat)).foldl (· + ·) 0 / 250

/-- The conditions of 14 R392 after the sample of one update; BACKFEED is set and cleared by its own commands. Updates of the blanking
leave LOWI and its run; one of a target below 0.5 mA counts as not low. Log entry 121, DEDUCED. -/
def loopLive (s : State) (n : Nat) (c : LpSt) (x : LoopSample) : LpSt :=
  let sink := bit (s.reg (lpA n 0)) 1
  let samples := (x.rb :: c.samples).take 250
  let complyRun := if sgn x.head < 150 then c.complyRun + 1 else 0
  let comply := decide (5 ≤ complyRun)
  let counted := c.blank == 0
  let low := decide (halfMilli ≤ c.itgt.toNat) && decide (loopMean samples * 100 < c.itgt.toNat * 99)
  let lowRun := if counted then (if low then c.lowRun + 1 else 0) else c.lowRun
  let lowi := if counted then decide (25 ≤ lowRun) else bit c.live 1
  let none_ := decide (x.rb.toNat < tenthMilli)
  let openRun := if x.low && none_ then c.openRun + 1 else 0
  let open_ := if sink then decide (5 ≤ openRun) else comply && none_ && decide (halfMilli ≤ c.itgt.toNat)
  let ltemp := if sgn x.temp > 150 then true else if sgn x.temp < 130 then false else bit c.live 4
  let live : BitVec 5 := BitVec.ofNat 5 (comply.toNat + 2 * lowi.toNat + 4 * open_.toNat + 8 * (bit c.live 3).toNat
    + 16 * ltemp.toNat)
  { c with rb := x.rb, samples := samples, head := x.head, vp := x.vp, temp := x.temp, pdiss := x.pdiss, live := live,
           complyRun := complyRun, lowRun := lowRun, openRun := openRun, blank := c.blank - 1 }

/-- One channel at a DAC update: its conditions, their sticky bits and source, then its effective target; a change of ITGT
blanks LOWI for 5 ms (14 R390-R395). -/
def loopUpdate (s : State) (n : Nat) (x : LoopSample) : State :=
  let c := s.loopLive n (s.lp n) x
  let s := s.setBits (lpA n 0xC) (at_ 0 5 c.live.toNat)
  let r := s.loopTarget n c
  let c := { c with itgt := r.1, hiz := r.2, blank := if r.1 = c.itgt then c.blank else 249 }
  (s.setLp n c).driveIf (c.live != 0) (114 + n) 0

/-- A DAC update of the four channels (14 R390-R393); one with a pending write in a held commit waits for the apply (03 R78; 14
R389). -/
def dacUpdate (s : State) (s0 s1 s2 s3 : LoopSample) (vlLow : Bool) : State :=
  let s := { s with loop := { s.loop with vlLow := vlLow } }
  let upd := fun (s : State) (n : Nat) (x : LoopSample) => if s.waitsApply 1 (lpA n 0) (lpA (n + 1) 0) then s else s.loopUpdate n x
  upd (upd (upd (upd s 0 s0) 1 s1) 2 s2) 3 s3

/-- The modem runs (14 R396). -/
def fskOn (s : State) (n : Nat) : Bool :=
  bit (s.reg (lpA n 0)) 3 && !s.md.mode.loopsOff && s.md.mode != .holdup

/-- A transmission is on the line (14 R402 TXBUSY). -/
def txBusy (c : LpSt) : Bool :=
  match c.ph with
  | .idle | .pending => false
  | _ => true

/-- A push to the transmit FIFO (14 R398): a full one ignores it and sets TXOVF. -/
def loopTxd (s : State) (n : Nat) (v : Word) : State × Nat :=
  let c := s.lp n
  if 64 ≤ c.tx.length then (s.setBits (lpA n 0xC) (flag 7 true), stIgnored)
  else (s.setLp n { c with tx := c.tx ++ [BitVec.ofNat 8 (fld v 0 8)] }, stOk)

/-- A write of LPn_TXCMD (14 R398): ABORT wins over START; a START with an empty FIFO or while TXBUSY is set has no effect. -/
def loopTxcmd (s : State) (n : Nat) (v : Word) : State × Nat :=
  let c := s.lp n
  if bit v 1 then
    ((s.setBits (lpA n 0xC) (flag 5 true ||| flag 6 true)).setLp n
      { c with tx := [], ph := if txBusy c then .aborted else .idle }, stOk)
  else if bit v 0 && !txBusy c && !c.tx.isEmpty then (s.setLp n { c with ph := .pending }, stOk)
  else (s, stOk)

/-- A read of LPn_RXD (14 R403): the word it answers. -/
def loopRxd (s : State) (n : Nat) : State × Word :=
  let c := s.lp n
  match c.rx with
  | [] => (s, 0)
  | e :: es =>
    (s.setLp n { c with rx := es },
     at_ 0 8 e.data.toNat ||| flag 8 true ||| flag 9 e.perr ||| flag 10 e.ferr ||| flag 11 e.gap)

/-- LPn_STAT as read (14 R402). -/
def loopStat (s : State) (n : Nat) : Word :=
  let c := s.lp n
  at_ 0 9 (s.reg (lpA n 0xC)).toNat ||| at_ 9 5 c.live.toNat ||| flag 14 (txBusy c && s.fskOn n) ||| flag 15 (c.cd && s.fskOn n)
    ||| at_ 16 7 c.tx.length ||| at_ 24 7 c.rx.length

/-- The modem of a channel has stopped (14 R396): its transmission ends and its carrier detect falls. Log entry 122, DEDUCED. -/
def fskStop (s : State) (n : Nat) : State := s.setLp n { s.lp n with ph := .idle, line := [], cd := false, gap := false }

/-- What a commit does to a channel whose CTL it changed: a change of MODE switches the driver to high impedance for 1 ms
(14 R389); FSKEN 0 stops the modem (R396). -/
def loopApply (s : State) (n : Nat) (oldCtl : Word) : State :=
  let ctl := s.reg (lpA n 0)
  let s := if bit oldCtl 1 != bit ctl 1 then s.setLp n { s.lp n with switching := true, hiz := true } else s
  if bit oldCtl 3 && !bit ctl 3 then s.fskStop n else s

/-- The interrupt of a loop channel stands (14 R395, R401). -/
def loopIrq (s : State) (n : Nat) : Bool :=
  let ctl := s.reg (lpA n 0)
  let st := s.loopStat n
  (bit ctl 8 && fld st 0 5 != 0)
    || (bit ctl 9 && (bit st 5 || (bit st 14 && decide (fld st 16 7 ≤ fld ctl 16 6))))
    || (bit ctl 10 && (fld st 24 7 != 0 || bit st 8))

end State

/-- LOOP_BACKFEED (14 R394): both switches open, the driver at high impedance, BACKFEED live and sticky. -/
def execLoopBackfeed (n : Fin 4) (s : State) : Out :=
  let c := s.lp n
  .next (((s.setLp n { c with live := c.live ||| 8, hiz := true }).setBits (State.lpA n 0xC) (flag 3 true)).drive (114 + n) 0)

/-- LOOP_BACKFEED_CLEAR (14 R394): the switches close after 100 ms without a condition. -/
def execLoopBackfeedClear (n : Fin 4) (s : State) : Out :=
  let c := s.lp n
  .next (s.setLp n { c with live := c.live &&& 0x17 })

/-- LOOP_MODE_SWITCH_END (14 R389). -/
def execLoopModeSwitchEnd (n : Fin 4) (s : State) : Out :=
  .next (s.setLp n { s.lp n with switching := false })

/-- TRANSMIT_DATA (14 R398): master m writes LPn_TXD. -/
def execTransmitData (m : Fin 10) (n : Fin 4) (v : Word) (s : State) : Out :=
  .next <| if s.revoked m then s.answer stError [] else let r := s.loopTxd n v; r.1.answer r.2 []

/-- FSK_TX_START (14 R398): master m writes LPn_TXCMD with START. -/
def execFskTxStart (m : Fin 10) (n : Fin 4) (v : Word) (s : State) : Out :=
  .next <| if s.revoked m then s.answer stError [] else let r := s.loopTxcmd n (v ||| 1); r.1.answer r.2 []

/-- FSK_ABORT (14 R398): master m writes LPn_TXCMD with ABORT. -/
def execFskAbort (m : Fin 10) (n : Fin 4) (v : Word) (s : State) : Out :=
  .next <| if s.revoked m then s.answer stError [] else let r := s.loopTxcmd n (v ||| 2); r.1.answer r.2 []

/-- A byte on the line (14 R397): the start bit 0, eight bits with the least significant first, a parity bit as FSKCFG.PAR sets, and
the stop bit 1; without parity 10 bits. -/
def fskFrame (par : Nat) (b : Byte) : List Bool :=
  let bits := (upFrom 8 0).map (bit b)
  let odd := bits.foldl xor true
  [false] ++ bits ++ (if par = 2 then [] else [if par = 1 then !odd else odd]) ++ [true]

/-- FSKCFG.PAR of a channel (14 R400). -/
def State.fskPar (s : State) (n : Nat) : Nat := fld (s.reg (State.lpA n 8)) 8 2

/-- FSK_TX_BEGIN (14 R398 step 1): a waiting message starts once no carrier is detected. -/
def execFskTxBegin (n : Fin 4) (s : State) : Out :=
  let c := s.lp n
  .next <|
    match c.ph, c.tx with
    | .pending, b :: bs =>
      if c.cd || !s.fskOn n then s
      else s.setLp n { c with tx := bs, ph := .sending (some b), line := fskFrame (s.fskPar n) b }
    | _, _ => s

/-- FSK_TX_BYTE (14 R397, R398 steps 3 and 4): the byte in progress has been sent; the next one starts, or the trailer. -/
def execFskTxByte (n : Fin 4) (s : State) : Out :=
  let c := s.lp n
  .next <|
    if !s.fskOn n then s
    else match c.ph with
      | .sending _ =>
        match c.tx with
        | [] => s.setLp n { c with ph := .trailer, line := [] }
        | b :: bs => s.setLp n { c with tx := bs, ph := .sending (some b), line := fskFrame (s.fskPar n) b }
      | _ => s

/-- Timer ticks of a bit time at 1200 bit/s (14 R396). -/
abbrev bitTicks : Nat := 166667

/-- FSK_TX_END (14 R398 step 5, R399): the carrier is off; TXBUSY cleared, TXDONE set after a trailer; the receiver stays muted for
two bit times. -/
def execFskTxEnd (n : Fin 4) (s : State) : Out :=
  let c := s.lp n
  let off := s.setLp n { c with ph := .idle, line := [], muteTo := s.now + 2 * bitTicks }
  .next <|
    if !s.fskOn n then s
    else match c.ph with
      | .trailer => off.setBits (State.lpA n 0xC) (flag 5 true)
      | .aborted => off
      | _ => s

/-- FSK_CARRIER_DETECT (14 R396, R399): the next byte after a rise carries GAP. -/
def execFskCarrierDetect (n : Fin 4) (up : Bool) (s : State) : Out :=
  let c := s.lp n
  .next (if s.fskOn n then s.setLp n { c with cd := up, gap := (up && !c.cd) || c.gap } else s)

/-- A received byte with its flags (14 R397): the data bits, least significant first; the parity bit against PAR; the stop bit. -/
def fskRead (par : Nat) (data : Byte) (parity stop gap : Bool) : RxEnt :=
  { data := data, perr := par != 2 && (fskFrame par data).getD 9 true != parity, ferr := !stop, gap := gap }

/-- A byte that ends now began while the receiver was muted (14 R399): its stop bit is sampled half a bit before its end. -/
def State.fskMuted (s : State) (n : Nat) : Bool :=
  let c := s.lp n
  State.txBusy c || decide (s.now < c.muteTo + (if s.fskPar n = 2 then 19 else 21) * bitTicks / 2) && c.muteTo != 0

/-- FSK_RX_BYTE (14 R397, R399): pushed with its flags while carrier is detected and the receiver is not muted; a full FIFO drops it
with RXOVF. Log entry 122, DEDUCED. -/
def execFskRxByte (n : Fin 4) (data : Byte) (parity stop : Bool) (s : State) : Out :=
  let c := s.lp n
  .next <|
    if !s.fskOn n || !c.cd || s.fskMuted n then s
    else if 64 ≤ c.rx.length then (s.setLp n { c with gap := false }).setBits (State.lpA n 0xC) (flag 8 true)
    else s.setLp n { c with rx := c.rx ++ [fskRead (s.fskPar n) data parity stop c.gap], gap := false }

/-- RXD_POP (14 R403): master m reads LPn_RXD. -/
def execRxdPop (m : Fin 10) (n : Fin 4) (s : State) : Out :=
  .next <| if s.revoked m then s.answer stError [0] else let r := s.loopRxd n; r.1.answer stOk [r.2]

end Sys2Proof.Machine
end

