-- ==== Sys2Proof/Machine/FaultRows.lean ====
section
/-! DEFINITION. Fault receipts and source clearances (10 R288, R297), the fault collector's registers (10 R301, R304-R308) and
the commands on them. -/
namespace Sys2Proof.Machine

namespace State

/-! ### When a detector's pair may read OK again -/

/-- A flag of R262 stands on output k: `n` flags in a list. -/
def anyFlag (s : State) (k : Nat) (fs : List Nat) : Bool := fs.any (fun f => (s.out k).has f)

/-- A flag stands on an output of a group. -/
def groupFlag (s : State) (g : Bool) (fs : List Nat) : Bool := (upFrom 6 (if g then 6 else 0)).any (fun k => s.anyFlag k fs)

/-- A count of the col has reached its limit (01 R31, R32). -/
def missed (t : Tab Nat) (limit : Nat) : Bool := t.any (fun e => decide (limit ≤ e.2))

/-- A flag of the test-pulse sources or of the inputs of a group of eight. -/
def inGroup (s : State) (g : Nat) (p : InSt → Bool) : Bool := (upFrom 8 (8 * g)).any (fun i => p (s.inp i))

/-- Conditions of the channels and the col (01 R24-R35; 05 R164, R168; 06 R205). -/
def standsCol (s : State) (n : Nat) : Bool :=
  match n with
  | 0 => missed s.col.missIn 2
  | 1 => missed s.col.missZn 3
  | 2 => missed s.col.missDm 3
  | 3 => missed s.col.missSs 3
  | 4 => bit s.chA.verdict 5
  | 5 => bit s.chA.verdict 6
  | 6 => decide (fld (s.reg (sioB + 0xC)) 0 16 < 1200)
  | 7 => decide (fld (s.reg (sioB + 0x10)) 0 16 < 200)
  | 8 => !s.lat.locked
  | 9 => bit s.chA.flta 5
  | 10 => s.col.badVerdictB
  | 11 => decide (64 ≤ s.chA.misses)
  | 12 | 24 | 25 => true
  | 16 | 17 | 18 | 19 | 20 => bit s.chA.flta (n - 16)
  | _ => false

/-- A failure of a sequence is confirmed, and stays reported until reset (18 R462). -/
def confirmedAny (s : State) (q : Nat) : Bool := !(s.seq q).confirmed.isEmpty

/-- Conditions of inputs and outputs (07 R238; 08 R262; 18 R462). -/
def standsIo (s : State) (n : Nat) : Bool :=
  if 32 ≤ n ∧ n < 36 then s.inGroup (n - 32) (fun i => i.a.pmiss || i.b.pmiss || i.a.forn || i.b.forn)
  else if 36 ≤ n ∧ n < 40 then s.inGroup (n - 36) (fun i => i.a.cmp || i.b.cmp || i.cmps || i.ilim)
  else if n = 40 then (upFrom 8 0).any (fun k => (s.tp k).ovl || (s.tp k).stuck) || s.confirmedAny 2
  else if n = 41 then (upFrom 32 0).any (fun i => (s.inp i).rev)
  else if 48 ≤ n ∧ n < 60 then s.anyFlag (n - 48) [fSTKH, fOTF, fTIED]
  else if 60 ≤ n ∧ n < 72 then s.anyFlag (n - 60) [fMIDF, fBDF, fONTF] || (s.seq 1).confirmed.contains (n - 60)
  else if n = 72 ∨ n = 73 then s.groupFlag (n == 73) [fOVLD, fOTEMP] || s.govc (n == 73)
  else if n = 74 ∨ n = 75 then s.vfLow (n == 75)
  else s.groupFlag (n == 77) [fONFAIL]

/-- Conditions of the units (01 R36; 11 R319, R331; 12 R355; 13 R363, R375; 14 R395; 15 R407; 17 R447, R452; 18 R462-R471; 19 R483; 20
R520; 21 R544-R545; 10 R292, R304). -/
def standsUnit (s : State) (n : Nat) : Bool :=
  match n with
  | 81 => s.outputs.railOutA
  | 82 => s.outputs.railOutB
  | 102 => s.confirmedAny 9
  | 96 => s.ses.tab.any (fun e => e.2.f96)
  | 97 => s.ses.tab.any (fun e => e.2.f97)
  | 98 => s.ses.tab.any (fun e => e.2.f98)
  | 99 => !s.net.r1.whole
  | 100 => !s.net.r2.whole
  | 112 => (upFrom 16 0).any (fun k => bit (s.reg (tcA k 0x20)) 5)
  | 113 => !s.tmr.lock
  | 114 | 115 | 116 | 117 => (s.lp (n - 114)).live != 0 || (s.seq 10).confirmed.contains (n - 114)
  | 118 => s.gioFault
  | 119 => s.gio.wdexp
  | 144 => s.bst.seqs.any (fun e => e.2.overdue)
  | 145 => true
  | 146 => s.bst.deferred
  | 147 => decide (s.gov.underRun < 10)
  | 148 => s.gov.sensErr
  | 160 => !s.otp.marg.isEmpty
  | 161 => s.regSt 5 == 3 || s.regSt 6 == 3 || s.regSt 7 == 3 || s.regSt 8 == 3 || s.regSt 9 == 3 || s.regSt 10 == 3
  | 162 => s.tru.fault
  | 176 => s.lnk.err
  | 177 => s.lnk.lost
  | 178 => s.lnk.rimport != 0 && (s.remoteLines &&& s.lnk.rimport) != 0
  | 240 => s.col.reactDiff
  | 241 => s.col.modeDiff
  | _ => decide (224 ≤ n) && decide (n < 240) && bit (s.reg (fltB + 0xC4)) (n - 224)

/-- The detector of source n, as far as it lies in the state, still shows its condition; a source whose items are events reads
OK whenever the command says so. -/
def standing (s : State) (n : Nat) : Bool :=
  if n < 32 then s.standsCol n else if n < 80 then s.standsIo n else s.standsUnit n

/-- PHYERR of a ring falls with F102 (11 R334). -/
def phyOk (s : State) : State :=
  { s with net := { s.net with r1 := { s.net.r1 with phyErr := false }, r2 := { s.net.r2 with phyErr := false } } }

/-- The R214 lines of the inputs of a group read right again (07 R214). -/
def linesOk (s : State) (g : Nat) : State :=
  (upFrom 8 (8 * g)).foldl (fun (t : State) i => if (t.inp i).wiring then t.setInp i { t.inp i with wiring := false } else t) s

/-- A Fault code that returns to OK before it has been held for 100 ns changes nothing (10 R288). -/
def withdraw (s : State) (n : Nat) : State :=
  let s := if (s.src n).rail = .ok then s else s.setSrc n { s.src n with rail := .ok }
  { s with flt := { s.flt with raised := s.flt.raised.filter (fun e => e.src != n) } }

/-- The code of a source returns to OK (10 R297, R302): its clearance is logged; it goes to CLEARING while it is being recovered
or holds ZONE_STOP lines. -/
def clearSrc (s : State) (n : Nat) : State :=
  let v := s.src n
  if s.standing n then s
  else if v.st ≠ .fault ∧ v.st ≠ .wiring then s.withdraw n
  else
    let s := s.setSrc n { v with rail := .ok, clearAt := s.now, st := if v.causing || v.zline then .clearing else .ok }
    let s := if n = 102 then s.phyOk else if 36 ≤ n ∧ n ≤ 39 then s.linesOk (n - 36) else s
    s.log n v.cls false 2 0 v.detail

/-! ### Registers (10 R304-R308) -/

/-- A write of USRRAISE (10 R304): each bit that becomes 1 drives its source; the pair of one that becomes 0 before its receipt
returns to (1,0). -/
def setUser (s : State) (v : Word) : State :=
  let v := v &&& 0xFFFF
  let s := s.setReg (fltB + 0xC4) v
  (upFrom 16 0).foldl (fun (s : State) u =>
    if bit v u then s.drive (224 + u) (det u) else if s.readsOk (224 + u) then s.withdraw (224 + u) else s) s

/-- The value that a direct write or an alias gives a register that reads `old` (03 R73). -/
def aliased (kind : WriteKind) (old v : Word) : Word :=
  match kind with
  | .direct => v
  | .set => old ||| v
  | .clr => old &&& ~~~v
  | .tgl => old ^^^ v

/-- A write of the SET alias of REVOKE by master m (10 R301): a 1 for the safety processor window or for m is not applied. -/
def revokeSet (s : State) (m : Nat) (v : Word) : State × Nat :=
  let asked := fld v 0 10
  let ok := (upFrom 10 0).filter (fun k => asked.testBit k && k != 4 && k != m)
  let s := ok.foldl (fun (s : State) k => if s.revoked k then s else s.revoke k 0xFF 0) s
  (s, if asked.testBit 4 || asked.testBit m then stIgnored else stOk)

/-- A write of the CLR alias of REVOKE by master m (10 R301): the ports of other masters reopen. -/
def revokeClr (s : State) (m : Nat) (v : Word) : State :=
  (upFrom 10 0).foldl (fun (s : State) k => if bit v k && k != m && s.revoked k then s.reopen k else s) s

/-- WIRE word w (10 R305). -/
def wireWord (s : State) (w : Nat) : Word := wordOf 32 (fun i => (s.src (32 * w + i)).st == .wiring)

/-- The sources in FAULT or WIRING. -/
def activeSrcs (s : State) : List (Nat × Src) := s.flt.srcs.filter (fun e => e.2.st == .fault || e.2.st == .wiring)

/-- STAT (10 R306). -/
def fltStat (s : State) : Word :=
  let act := s.activeSrcs
  at_ 0 9 act.length ||| at_ 9 2 (act.foldl (fun m e => max m e.2.cls) 0)
    ||| flag 11 (s.flt.srcs.any (fun e => e.2.st == .clearing)) ||| at_ 16 8 s.flt.first

/-- MATRIXn (10 R307); 0 for a reserved number. -/
def matrixWord (s : State) (n : Nat) : Word :=
  match srcDefault n with
  | none => 0
  | some (_, fl) =>
    let e := s.matEnt n
    at_ 0 2 e.cls ||| at_ 2 2 fl ||| flag 4 (s.srcIrq n) ||| flag 5 e.zstop ||| flag 6 e.dsto ||| flag 7 (srcRevokes n)
      ||| at_ 16 16 e.zmask.toNat

/-- SRCSTATn (10 R308). -/
def srcStatWord (s : State) (n : Nat) : Word :=
  let v := s.src n
  let code := match v.st with | .ok => 0 | .fault => 1 | .wiring => 2 | .clearing => 3
  let left :=
    if v.st ≠ .clearing then 0
    else match s.windowEnd n with
      | some t => (t - s.now + 199999) / 200000
      | none => if v.quiet then 0 else s.flt.q
  at_ 0 2 code ||| at_ 8 8 (min (s.occurrences n) 255) ||| at_ 16 16 (min left 65535)

end State

/-- FAULT_RECEIPT (10 R288, R295-R299, R303; 08 R257): quiet periods that have ended are complete first, and faults whose pairs took
their codes at the same instant are received in source order. -/
def execFaultReceipt (n : BitVec 8) (wiring : Bool) (detail : BitVec 16) (s : State) : Out := .next <|
  let s := s.settleQuiet
  let s := match State.takeRaised n.toNat s.flt.raised with
    | some (e, _) =>
      let lower := s.flt.raised.filter (fun (r : Raised) => r.time == e.time && decide (r.src < n.toNat))
      (lower.foldl (fun (t : State) (r : Raised) => t.noteEdm r.src) s).takeLower n.toNat e.time s.flt.raised.length
    | none => s
  let t := if s.takes n.toNat wiring then s.noteEdm n.toNat else s
  t.receipt n.toNat wiring detail

/-- SOURCE_CLEAR (10 R297). -/
def execSourceClear (n : BitVec 8) (s : State) : Out := .next (s.clearSrc n.toNat)

/-- USRRAISE (10 R304): master m writes FLT.USRRAISE, directly or through an alias. -/
def execUsrraise (m : Fin 10) (kind : WriteKind) (v : Word) (s : State) : Out := .next <|
  if s.revoked m then s.answer stError []
  else (s.setUser (State.aliased kind (s.reg (fltB + 0xC4)) v)).answer stOk []

/-- REVOKE_SET (10 R301). -/
def execRevokeSet (m : Fin 10) (v : Word) (s : State) : Out := .next <|
  if s.revoked m then s.answer stError [] else let r := s.revokeSet m v; r.1.answer r.2 []

/-- REVOKE_CLEAR (10 R301). -/
def execRevokeClear (m : Fin 10) (v : Word) (s : State) : Out := .next <|
  if s.revoked m then s.answer stError [] else (s.revokeClr m v).answer stOk []

end Sys2Proof.Machine
end

