-- ==== Sys2Proof/Machine/Jobs.lean ====
section
/-! DEFINITION. The jobs of the HST block (21 R530-R532; 18 R474): start, partial results and their acknowledgement, the record
search, the full run, abort and end. -/
namespace Sys2Proof.Machine

namespace State

/-- HST.JOBSTAT, JOBPART and JOBOWN (21 R548). -/
abbrev hjStat : Nat := hstB + 0x24
abbrev hjPart : Nat := hstB + 0x28
abbrev hjOwn : Nat := hstB + 0x30

/-- HST.JOBSTAT as read: PARTIAL while the job is unfinished and results stand (21 R531); the progress of a search is the share of
the ring that it has examined. Log entry 135, DEDUCED. -/
def hstJobStat (s : State) : Word :=
  match s.host.job with
  | none => s.reg hjStat
  | some j => at_ 0 4 (if s.reg hjPart != 0 then 2 else 1) ||| at_ 4 12 (min 4095 (j.pos * 4096 / recCount))

/-- An HST interrupt of a job that ends or posts (21 R548). -/
def hstIrqJob (s : State) : State := s.setBits (hstB + 8) (flag 0 true)

/-- A partial result in slot (k mod c) of the window (21 R531). -/
def hstPost (s : State) (c : Nat) (bs : List Byte) : State :=
  let o := hstB + 0x2000 + (s.host.posted % c) * bs.length
  let s := ((wordsOf (bs.length / 4) bs).foldl (fun (x : State × Nat) w => (x.1.setReg x.2 w, x.2 + 4)) (s, o)).1
  let s := { s with host := { s.host with posted := s.host.posted + 1 } }
  (s.setReg hjPart (s.reg hjPart + 1)).hstIrqJob

/-- An HST job ends. -/
def hstEnd (s : State) (ok : Bool) (result : Nat) : State :=
  let s := s.jobStat hjStat ok result
  { s with host := { s.host with job := none }, bst := { s.bst with fullRun := false } }.hstIrqJob

/-! ### RECSEARCH (21 R532) -/

/-- Position of a ring index from the oldest record on (16 R433: RECPOS is the next one to be written). -/
def recAge (s : State) (i : Nat) : Nat := (i + recCount - (s.reg (memB + 0x30)).toNat) % recCount

/-- Ring indexes of the records that hold anything, each once, in the order of the ring. -/
def recIndexes (s : State) : List Nat :=
  (s.mem.cells.foldl (fun (l : List Nat) e =>
    if recRing ≤ e.1 ∧ e.1 < recRing + 64 * recCount then
      let i := (e.1 - recRing) / 64
      if l.head? = some i then l else i :: l
    else l) []).reverse

/-- The records from the oldest on. Log entry 89, DEDUCED. -/
def recOrder (s : State) : List Nat :=
  let p := (s.reg (memB + 0x30)).toNat
  let l := s.recIndexes
  l.filter (fun i => decide (p ≤ i)) ++ l.filter (fun i => decide (i < p))

/-- The search's arguments select a record: its CRC is right, its words read, its time stamp and type match (21 R532, 16 R433). -/
def recMatches (s : State) (i : Nat) : Bool :=
  let a := recRing + 64 * i
  let arg := fun (k : Nat) => (s.reg (hstB + 0x40 + 4 * k)).toNat
  let t := s.num (a + 4) 8
  let ty := fld (s.reg (hstB + 0x50)) 0 8
  !s.nvBad a 64 && crc32 (s.bytes a 60) == s.num (a + 60) 4 && decide (arg 0 + 2 ^ 32 * arg 1 ≤ t) && decide (t < arg 2 + 2 ^ 32 * arg 3)
    && (ty == 0 || (s.byte (a + 12)).toNat == ty)

/-- The search goes on until the window is full or the last record is examined; records before `pos` are done. -/
def searchOn : List Nat → State → State
  | [], s => { s with host := { s.host with job := s.host.job.map (fun (j : HstJob) => { j with pos := recCount }) } }
  | i :: is, s =>
    match s.host.job with
    | none => s
    | some j =>
      if s.recAge i < j.pos then searchOn is s
      else if !s.recMatches i then searchOn is s
      else if 128 ≤ (s.reg hjPart).toNat then { s with host := { s.host with job := some { j with pos := s.recAge i } } }
      else
        let s := { s with host := { s.host with job := some { j with pos := s.recAge i + 1, found := j.found + 1 } } }
        searchOn is (s.hstPost 128 (s.bytes (recRing + 64 * i) 64))

/-- A running search continues. -/
def search (s : State) : State :=
  match s.host.job with
  | some j => if j.op = 2 then searchOn s.recOrder s else s
  | none => s

/-! ### Commands (21 R530-R532) -/

/-- The modes of RECSEARCH: IDLE and later. -/
def searchModes (s : State) : Bool :=
  match s.md.mode with
  | .off | .reset | .start | .verify => false
  | _ => true

/-- The cores and the safety processor are held for the full run (18 R474). -/
def holdAll (s : State) : State :=
  let f := fun (c : Cpu) => { c with run := .held }
  { s with ac0 := f s.ac0, ac1 := f s.ac1, ac2 := f s.ac2, ac3 := f s.ac3, sp := f s.sp }

/-- A job is accepted for a master: a refusal ends it at once (log entry 33, DEDUCED). Log entry 144, DESIGN CHOICE. -/
def hstStart (s : State) (m op : Nat) (allowed : Bool) : State :=
  let s := (((s.setReg hjStat 1).setReg hjPart 0).setReg hjOwn (w32 m))
  let s := { s with host := { s.host with job := some { op := op }, posted := 0 } }
  if op ≠ 1 ∧ op ≠ 2 then s.hstEnd false 2
  else if !allowed then s.hstEnd false 1
  else if op = 1 then { s.holdAll.abortSlice with bst := { s.abortSlice.bst with fullRun := true } }
  else s.search

/-- A write of HST.JOBCMD by master m (21 R530, R532). -/
def hstCmd (s : State) (m op key : Nat) : State × Nat :=
  if key ≠ 0x5A then (s, stIgnored)
  else if op = 0xF then
    if s.host.job.isNone ∨ s.reg hjOwn ≠ w32 m then (s, stIgnored) else (s.hstEnd false 7, stOk)
  else if s.host.job.isSome then (s, stIgnored)
  else (s.hstStart m op (if op = 1 then s.md.mode == .service else s.searchModes), stOk)

def hstJobCmd (s : State) (m : Nat) (v : Word) : State × Nat := s.hstCmd m (fld v 0 4) (fld v 24 8)

/-- A write of HST.JOBACK by master m (21 R531). -/
def hstAck (s : State) (m : Nat) (v : Word) : State × Nat :=
  let n := fld v 0 9
  let p := (s.reg hjPart).toNat
  if s.reg hjOwn ≠ w32 m then (s, stIgnored)
  else if p < n then ((s.setReg hjPart 0).search, stIgnored)
  else ((s.setReg hjPart (w32 (p - n))).search, stOk)

/-! ### The end of a job -/

/-- Result entry of a step of the full run; its measured values are free (18 R475; log entry 1, DESIGN CHOICE). -/
def fullEntry (s : State) (failed : BitVec 12) (i : Nat) : State :=
  let f := fun (k : Nat) => Config.freeWord (s.fresh + k)
  let bs := s.bstEntry (0x81 + i) 0 (if bit failed i then 2 else 1) 0 (f 0) (f 1) (f 2)
  s.drawn.drawn.drawn.hstPost 256 bs

/-- The end of the full run (18 R474): results, code TCM destroyed, working memory at zero, every sequence complete. -/
def fullEnd (s : State) (failed : BitVec 12) : State :=
  let s := (upFrom 12 0).foldl (fun (s : State) i => s.fullEntry failed i) s
  let out := fun (w : Nat) => decide (0x10000000 ≤ w)
  let s := { s with mem := { s.mem with cells := wipeCells 0 0x10000000 s.mem.cells, bad := s.mem.bad.filter out, soft := s.mem.soft.filter out }
                    chA := { s.chA with tcm := wipeCells 0 0x80000 s.chA.tcm, tcmLost := true } }
  let code := match firstIdx (fun i => bit failed i) 12 0 with | some i => i + 1 | none => 0
  s.allDone.hstEnd (code == 0) code

/-- The running job has come to its end: a full run that a mode change has stopped ends FAILED (21 R530), a search waits while its
window is full (R531). -/
def hstFinish (s : State) (failed : BitVec 12) : State :=
  match s.host.job with
  | none => s
  | some j =>
    if j.op = 1 then (if s.md.mode = .service then s.fullEnd failed else s.hstEnd false 6)
    else
      let t := s.search
      match t.host.job with
      | some k => if k.pos < recCount then t else t.hstEnd true (min k.found 65535)
      | none => t

end State

/-- FULLTEST (18 R474, 21 R532). -/
def execHstFulltest (m : Fin 10) (key : BitVec 8) (s : State) : Out := .next <|
  if s.revoked m then s.answer stError [] else let r := s.hstCmd m 1 key.toNat; r.1.answer r.2 []

/-- RECSEARCH (21 R532). -/
def execHstRecsearch (m : Fin 10) (key : BitVec 8) (s : State) : Out := .next <|
  if s.revoked m then s.answer stError [] else let r := s.hstCmd m 2 key.toNat; r.1.answer r.2 []

/-- ABORT (21 R532). -/
def execHstAbort (m : Fin 10) (key : BitVec 8) (s : State) : Out := .next <|
  if s.revoked m then s.answer stError [] else let r := s.hstCmd m 0xF key.toNat; r.1.answer r.2 []

/-- HST_JOB_END (21 R530, 18 R474). -/
def execHstJobEnd (failed : BitVec 12) (s : State) : Out := .next (s.hstFinish failed)

/-- JOBACK (21 R531). -/
def execJoback (m : Fin 10) (v : Word) (s : State) : Out := .next <|
  if s.revoked m then s.answer stError [] else let r := s.hstAck m v; r.1.answer r.2 []

end Sys2Proof.Machine
end

