-- ==== Sys2Proof/Machine/RingRows.lean ====
section
/-! DEFINITION. The rings' commands (11 R311-R331): a frame that arrives at a port, egress, check frames and their windows,
link changes, the time stamp FIFO. -/
namespace Sys2Proof.Machine

/-- The address is a group or broadcast address (IEEE 802.3: first bit sent is 1; log entry 30, PRESUMED). -/
def groupAddr (bs : List Byte) : Bool := bit (bs.getD 0 0) 0

/-- HOPS of a forwarded frame reduced by 1 (11 R315). -/
def hopDown (bs : List Byte) : List Byte := bs.set 16 (bs.getD 16 0 - 1)

namespace State

/-- Receive queue of a class group on a ring (11 R327). -/
def rxQueue (s : State) (r2 : Bool) (g : Nat) : Nat :=
  (if r2 then 16 else 0) + fld (s.reg (netB + if r2 then 0x10 else 0xC)) (4 * g) 4

/-- A receive queue entry: the header of R327 and the frame. -/
def rxEntry (s : State) (pB : Bool) (bs : List Byte) : List Byte :=
  bytesOfNat 4 (bs.length + if pB then 2048 else 0) ++ bytesOfNat 8 s.now ++ [0, 0, 0, 0] ++ bs

/-- A frame for a receive queue (11 R327, R328, R331): dropped when the network DMA is revoked or cannot write it (`fail`), or when
the queue is full. -/
def toRxQueue (s : State) (r2 pB fail : Bool) (q : Nat) (bs : List Byte) : State :=
  if s.revoked 8 then s.ringCount r2 8
  else if fail then ((s.ringCount r2 8).setBits (netB + 0x18) (flag 1 true)).drive 101 0
  else
    let r := s.qPush q (s.rxEntry pB bs)
    if r.2 then r.1.ringCount r2 0 else r.1.ringCount r2 8

/-- A CLASS that is reserved (11 R312). -/
def reservedClass (cls : Nat) : Bool := cls == 0 || (decide (4 ≤ cls) && decide (cls < 16)) || decide (128 ≤ cls)

/-- Local handling of a ring frame that is addressed to the device (11 R312, R315, R319, R320, R327, R335; 12 R339, R351). Log entry
60, DEDUCED. -/
def ringDeliver (s : State) (r2 pB fail : Bool) (f : RingFrame) : State :=
  let cls := (f.bytes.getD 17 0).toNat
  let pdu := f.bytes.drop 18
  if reservedClass cls then s
  else if !f.fcsOk then s.ringCount r2 0x10
  else if cls = 3 then s.checkSeen r2 pB (sub f.bytes 6 6)
  else if cls < 3 then (if s.sesDelivers r2 cls pdu then s.ringCount r2 0 else s).sesArrive r2 cls pdu
  else s.toRxQueue r2 pB fail (s.rxQueue r2 (cls / 16)) f.bytes

/-- The egress port of a frame that R314 does not forward, while idle, has begun its preamble: the frame is ended at once, with an
invalid FCS and before its ring tag (11 R316). Log entry 141, DEDUCED. -/
def ringStop (s : State) (r2 pB : Bool) (f : RingFrame) : State :=
  if (s.port r2 (!pB)).out.isEmpty then
    s.egress r2 (!pB) { prio := 0, bytes := f.bytes.take 14, badFcs := true }
  else s

/-- Forwarding of a ring frame of another device's (11 R314-R317). -/
def ringForward (s : State) (r2 pB : Bool) (f : RingFrame) : State :=
  let cls := (f.bytes.getD 17 0).toNat
  if f.bytes.getD 16 0 = 0 then (s.ringCount r2 0x1C).ringStop r2 pB f
  else if (s.ringMgr r2 && !(s.ring r2).mgrFwd) || f.bytes.take 6 == s.mac then s.ringStop r2 pB f
  else if !s.portUp r2 (!pB) then s
  else
    (s.ringCount r2 4).egress r2 (!pB)
      { prio := if 1 ≤ cls ∧ cls ≤ 3 then 1 else 3, bytes := hopDown f.bytes, badFcs := !f.fcsOk }

/-- A frame arrives at a port (11 R311-R316). Log entry 56, PRESUMED. Log entry 57, DEDUCED. -/
def ringReceive (s : State) (r2 pB fail : Bool) (f : RingFrame) : State :=
  if !s.portUp r2 pB then s
  else if f.fragment ∨ f.bytes.length < 60 then s.ringCount r2 0x14
  else
    let et := natOfBE (sub f.bytes 12 2)
    let cls := (f.bytes.getD 17 0).toNat
    let mine := f.bytes.take 6 == s.mac || groupAddr f.bytes
    if et = 0x88F7 then
      let s := s.ringStop r2 pB f
      if !f.fcsOk then s.ringCount r2 0x10 else s.toRxQueue r2 pB fail (s.rxQueue r2 0) f.bytes
    else if et ≠ s.etype ∨ 1514 < f.bytes.length then (s.ringCount r2 0xC).ringStop r2 pB f
    else if sub f.bytes 6 6 == s.mac then
      let s := if cls = 3 ∧ f.fcsOk ∧ s.ringMgr r2 then s.setPort r2 pB { s.port r2 pB with seen := true } else s
      (s.ringCount r2 0x18).ringStop r2 pB f
    else
      let s := (if reservedClass cls then s.ringCount r2 0xC else s).ringForward r2 pB f
      if mine then s.ringDeliver r2 pB fail f else s

/-- The link losses of a port that lie in the last second (11 R331). -/
def recentLosses (s : State) (p : PortSt) : List Nat := p.losses.filter (fun t => decide (s.now < t + 200000000))

/-- A port loses or regains link (11 R319, R324, R331); the PHYs of a ring that is not in use are powered down and find none
(R333). -/
def linkChange (s : State) (r2 pB up : Bool) : State :=
  let p := s.port r2 pB
  if p.link == up || (up && !s.ringOn r2) then s
  else if up then (s.setPort r2 pB { p with link := true, hadLink := p.hadLink || !s.bypass }).lineWhole r2
  else
    let ls := s.now :: s.recentLosses p
    let s := s.setPort r2 pB { p with link := false, losses := ls }
    let s := if s.ringLine r2 then s.lineWhole r2 else s.wholeFalls r2
    if 10 < ls.length then (s.phyBad (2 * r2.toNat + pB.toNat)).drive 102 (det (2 * r2.toNat + pB.toNat)) else s

/-- What a commit does to the rings (11 R319, R333): the PHYs of a ring that is no longer in use lose link; WHOLE of a line follows
its ports. -/
def netApply (s : State) : State :=
  let f := fun (s : State) (r2 : Bool) =>
    if s.ringOn r2 then s.lineWhole r2 else (s.linkChange r2 false false).linkChange r2 true false
  f (f s false) true

end State

/-- RING_FRAME_RECEIVE (11 R311-R328). Log entry 105, DESIGN CHOICE. -/
def execRingFrameReceive (ring2 portB : Bool) (f : RingFrame) (s : State) : Out := .next (s.ringReceive ring2 portB false f)

/-- NETWORK_DMA_WRITE_FAILURE (11 R331): as a frame received, but its receive queue entry cannot be written. -/
def execNetDmaWriteFailure (ring2 portB : Bool) (f : RingFrame) (s : State) : Out := .next (s.ringReceive ring2 portB true f)

/-- RING_TRANSMIT (11 R317, R329, R330); while CG3 holds a pending NET write, no new frame starts (03 R78). -/
def execRingTransmit (ring2 portB : Bool) (s : State) : Out := .next <|
  if s.waitsApply 3 netB (netB + 0x10000) then s else s.ringSend ring2 portB

/-- RING_CHECK_SEND (11 R319): the manager's check frame on both ports. Log entry 58, DEDUCED. -/
def execRingCheckSend (ring2 : Bool) (s : State) : Out := .next <|
  if s.ringMgr ring2 && s.ringOn ring2 && !s.bypass && !s.waitsApply 3 netB (netB + 0x10000) then
    s.originate ring2 true true 2 0 State.broadcast 3 (List.replicate 42 0) none
  else s

/-- RING_CHECK_WINDOW (11 R319, R320). -/
def execRingCheckWindow (ring2 : Bool) (s : State) : Out := .next (s.checkWindow ring2)

/-- PORT_LINK_CHANGE (11 R319, R324, R331). -/
def execPortLinkChange (ring2 portB up : Bool) (s : State) : Out := .next (s.linkChange ring2 portB up)

/-- TSINFO_POP (11 R332). -/
def execTsinfoPop (m : Fin 10) (s : State) : Out := .next <|
  if s.revoked m then s.answer stError [0] else let r := s.tsinfo; r.1.answer stOk [r.2]

end Sys2Proof.Machine
end

