-- ==== Sys2Proof/Machine/RegMap.lean ====
section
/-! DEFINITION. The register map (03 R68-R73 and the tables of the chapters): the kind of every register with its writable bits,
its commit group, and what a read of it returns. -/
namespace Sys2Proof.Machine

/-- The access codes of R69, with the bits a write can change. Log entry 82, DEDUCED. -/
inductive RegKind where
  | ro
  | wo
  | rs
  /-- a running counter: a direct write sets IGN at the address (03 R74, R76) -/
  | count (stat : Nat)
  | rw (mask : Word)
  /-- write-once: RW until its first write after reset (03 R69 LK, R84) -/
  | lk (mask : Word)
  | rwc (mask : Word)
  | w1c (mask : Word)
deriving DecidableEq, Repr

/-- A word-aligned offset in [lo, hi]. -/
def within (o lo hi : Nat) : Bool := decide (lo ≤ o) && decide (o ≤ hi) && o % 4 == 0

abbrev allBits : Word := 0xFFFFFFFF

def sysKind (o : Nat) : Option RegKind :=
  match o with
  | 4 => some (.rw 0xF)
  | 0x10 | 0x14 | 0x40 | 0x104 | 0x118 => some .wo
  | 0x30 => some (.w1c 3)
  | 0 | 0x18 | 0x1C | 0x20 | 0x34 | 0x44 | 0x48 | 0x4C | 0x100 | 0x108 | 0x10C | 0x110 | 0x114 | 0x11C => some .ro
  | _ => none

def fltKind (o : Nat) : Option RegKind :=
  if o = 0x10 then some (.rwc 0xF)
  else if within o 0x40 0x5C then some (.w1c allBits)
  else if within o 0x80 0x9C then some (.rwc allBits)
  else if o = 0xA4 then some (.rw 0x3FF)
  else if o = 0xC4 then some (.rw 0xFFFF)
  else if o = 0 ∨ o = 4 ∨ o = 8 ∨ within o 0x20 0x3C ∨ within o 0x60 0x7C ∨ o = 0xA0 ∨ o = 0xB0 ∨ o = 0xC0
      ∨ within o 0x400 0x7FC ∨ within o 0x800 0xBFC then some .ro
  else none

def govKind (o : Nat) : Option RegKind :=
  match o with
  | 0 => some (.w1c 0x17)
  | 4 => some (.rwc 0x3FFF)
  | 8 | 0xC | 0x18 => some (.rwc 0xFF)
  | 0x10 => some (.rwc 0x3FF)
  | 0x14 => some (.rwc allBits)
  | 0x1C => some (.rwc 0x7F)
  | 0x20 => some (.count govB)
  | 0x24 | 0x28 | 0x2C | 0x30 | 0x34 | 0x60 | 0x90 => some .ro
  | _ => if within o 0x80 0x8C then some (.count govB) else if within o 0x40 0x5C || within o 0x70 0x7C then some .ro else none

/-- Registers of a TC channel (13 R381). -/
def tcKind (r : Nat) : Option RegKind :=
  match r with
  | 0 => some (.rwc 0x3FFFFF)
  | 4 => some (.rwc 0x1F1F1F)
  | 8 => some (.rwc 0xFFFF)
  | 0xC | 0x10 | 0x14 | 0x18 => some (.rwc allBits)
  | 0x1C => some (.count tmrB)
  | 0x20 => some (.w1c 0x7F)
  | 0x24 => some (.rwc 0x1F7)
  | 0x28 => some .rs
  | 0x2C | 0x30 | 0x34 | 0x38 => some .ro
  | _ => none

/-- Registers of a WC channel (13 R386). -/
def wcKind (r : Nat) : Option RegKind :=
  match r with
  | 0 => some (.rwc 0x3FF)
  | 4 | 8 | 0xC => some (.rwc allBits)
  | 0x10 => some (.w1c 3)
  | 0x14 | 0x18 => some .ro
  | _ => none

def tmrKind (o : Nat) : Option RegKind :=
  if o = 0 then some (.w1c 3)
  else if o = 8 then some .rs
  else if o = 0x10 then some (.rwc 0xF)
  else if o = 0xC ∨ o = 0x14 ∨ within o 0x40 0x5C then some .ro
  else if 0x100 ≤ o ∧ o < 0x500 then tcKind (o % 0x40)
  else if 0x500 ≤ o ∧ o < 0x580 then wcKind (o % 0x20)
  else none

/-- Registers of a loop channel (14 R400). -/
def lpKind (r : Nat) : Option RegKind :=
  match r with
  | 0 => some (.rwc 0x3F070F)
  | 4 => some (.rwc 0xFFFF)
  | 8 => some (.rwc 0x3FF)
  | 0xC => some (.w1c 0x1FF)
  | 0x20 | 0x24 => some .wo
  | 0x28 => some .rs
  | 0x10 | 0x14 | 0x18 | 0x1C | 0x2C | 0x30 => some .ro
  | _ => none

def loopKind (o : Nat) : Option RegKind :=
  if o = 0 then some (.rwc 0xF)
  else if o = 4 then some .ro
  else if 0x100 ≤ o ∧ o < 0x200 then lpKind (o % 0x40)
  else none

def gioKind (o : Nat) : Option RegKind :=
  match o with
  | 0 => some (.w1c 0x2B)
  | 4 => some (.rwc 0x3F)
  | 8 => some (.rw 0xFFFF)
  | 0x14 => some (.rwc 0xFFFF)
  | 0x18 => some (.rwc 0x3FF)
  | 0x1C => some .wo
  | 0x20 => some (.rwc 0xFF)
  | 0x24 => some (.rw 0xFF)
  | 0x28 => some (.w1c 0xFFFF)
  | 0xC | 0x10 => some .ro
  | _ =>
    if within o 0x40 0x7C then some (.rwc 0x7F)
    else if within o 0x100 0x13C then some (.count gioB)
    else if within o 0x140 0x17C then some (.rwc allBits)
    else if within o 0x180 0x1BC then some .ro
    else none

def netKind (o : Nat) : Option RegKind :=
  match o with
  | 0 => some (.rwc 0x3FFFFF)
  | 4 | 8 => some (.rwc 7)
  | 0xC | 0x10 => some (.rwc allBits)
  | 0x18 => some (.w1c 3)
  | 0x80 => some .rs
  | 0x20 | 0x24 | 0x84 | 0x88 | 0x90 | 0x94 => some .ro
  | _ => if within o 0x40 0x7C then some (.count (netB + 0x18)) else none

def sesKind (o : Nat) : Option RegKind :=
  match o with
  | 0 => some (.w1c 3)
  | 4 => some (.rwc 3)
  | 8 => some .ro
  | 0xC | 0x10 | 0x14 | 0x18 => some (.count sesB)
  | 0x100 => some (.rw 0x1FF)
  | _ =>
    if within o 0x104 0x114 then some .ro
    else if within o 0x118 0x124 then some (.count sesB)
    else if within o 0x200 0x27C then some .ro
    else none

/-- Registers of a queue's descriptor and of its operations (16 R436). -/
def queKind (o : Nat) : Option RegKind :=
  if o = 0 then some (.w1c 7)
  else if within o 0x20 0x3C then some .ro
  else if 0x1000 ≤ o ∧ o < 0x1800 then
    match o % 16 with
    | 0 => some (.rwc allBits)
    | 4 => some (.rwc 0x80FFFF0F)
    | 8 => some (.rwc 0x1F)
    | 12 => some (.rwc 0x03FF03FF)
    | _ => none
  else if 0x2000 ≤ o ∧ o < 0x3000 then
    match o % 32 with
    | 0 | 8 => some .rs
    | 4 | 12 => some .wo
    | 16 | 20 => some .ro
    | _ => none
  else none

def bstKind (o : Nat) : Option RegKind :=
  match o with
  | 0 => some (.w1c 0xF)
  | 8 => some (.rwc 0xFF)
  | 4 | 0xC => some .ro
  | 0x10 | 0x14 | 0x18 => some (.count bstB)
  | _ => if within o 0x40 0x68 then some .ro else none

def otpKind (o : Nat) : Option RegKind :=
  match o with
  | 0 => some (.w1c 8)
  | 0x20 => some .wo
  | 0x24 => some (.rw allBits)
  | 4 | 8 | 0xC | 0x10 | 0x14 | 0x28 | 0x2C => some .ro
  | _ => if within o 0x40 0x6C || within o 0x1000 0x1FFC then some .ro else none

def truKind (o : Nat) : Option RegKind :=
  match o with
  | 0 => some (.w1c 0x38)
  | 0x10 => some .rs
  | 0x18 | 0x40 => some .wo
  | 0x44 => some (.rw 0xFFFF)
  | 4 | 8 | 0xC | 0x14 | 0x48 | 0x4C | 0x50 => some .ro
  | _ =>
    if within o 0x20 0x3C then some .ro
    else if within o 0x80 0xBC then some (.rw allBits)
    else if within o 0x100 0x4FC || within o 0x800 0x121C then some .ro
    else if within o 0x2000 0x3FFC then some (.rw allBits)
    else none

def lnkKind (o : Nat) : Option RegKind :=
  match o with
  | 0 => some (.w1c 0xF)
  | 4 | 8 | 0xC | 0x10 => some .ro
  | 0x14 | 0x18 => some (.rwc 0xFFFF0000)
  | 0x1C => some (.rwc 0xFFFF)
  | 0x20 | 0x24 | 0x28 => some (.count lnkB)
  | _ => none

def hstKind (o : Nat) : Option RegKind :=
  match o with
  | 0 => some (.w1c 0xF)
  | 4 => some (.rwc 7)
  | 8 => some (.w1c 3)
  | 0xC => some (.rw 0xFFFF)
  | 0x20 | 0x2C => some .wo
  | 0x10 | 0x24 | 0x28 | 0x30 => some .ro
  | _ =>
    if within o 0x40 0x50 then some (.rw allBits)
    else if within o 0x2000 0x3FFC then some .ro
    else none

def sioKind (o : Nat) : Option RegKind :=
  if within o 0 0x14 || within o 0x20 0x30 || within o 0x40 0x5C || within o 0x80 0x94 || within o 0xA0 0x13C || within o 0x140 0x150
      || within o 0x160 0x18C || within o 0x190 0x1B0 || within o 0x1C0 0x1DC then some .ro
  else none

def memKind (o : Nat) : Option RegKind :=
  match o with
  | 0 => some (.w1c 0x1F)
  | 0x10 => some (.rwc 1)
  | 4 | 8 | 0xC | 0x14 | 0x20 | 0x24 | 0x30 | 0x34 | 0x38 => some .ro
  | _ => none

/-- The kind of the register at offset o below 0x4000 of block b (03 R68); none where there is no register (R71). -/
def regKind (b o : Nat) : Option RegKind :=
  match b with
  | 0 => sysKind o | 1 => fltKind o | 2 => govKind o | 3 => tmrKind o | 4 => loopKind o | 5 => gioKind o | 6 => netKind o
  | 7 => sesKind o | 8 => queKind o | 9 => bstKind o | 10 => otpKind o | 11 => truKind o | 12 => lnkKind o | 13 => hstKind o
  | 14 => sioKind o | 15 => memKind o
  | _ => none

/-- The commit group of a block (03 R68). -/
def groupOf (b : Nat) : Option Nat :=
  match b with
  | 1 => some 7 | 2 => some 5 | 3 => some 0 | 4 => some 1 | 5 => some 2 | 6 => some 3 | 7 => some 3 | 8 => some 4 | 9 => some 5
  | 12 => some 6 | 13 => some 6 | 15 => some 4
  | _ => none

/-- Block number of a register address. -/
def blockOf (a : Nat) : Nat := (a - sysB) / 0x10000

/-- The commit group of a register address. -/
def groupAt (a : Nat) : Option Nat := groupOf (blockOf a)

namespace State

/-! ### What a read returns -/

/-- Groups with pending writes (03 R89 PEND). -/
def pendWord (s : State) : Word := s.conv.shadow.foldl (fun (w : Word) e =>
  match e.2, groupAt e.1 with | some _, some g => w ||| bitAt 32 g | _, _ => w) 0

def commitStat (s : State) : Word := at_ 0 2 s.conv.cstate ||| at_ 8 8 s.conv.cmask ||| at_ 16 16 s.conv.ccount.toNat

def sysVal (s : State) (o : Nat) : Word :=
  match o with
  | 0 => 0x0620B001
  | 0x18 => s.pendWord
  | 0x1C => s.commitStat
  | 0x44 => at_ 0 16 s.conv.snapSeq.toNat ||| flag 16 s.conv.snapBusy
  | 0x100 => s.modeWord
  | 0x108 => s.modeStatWord
  | 0x114 => s.modeCnt
  | 0x11C => s.testStatWord
  | _ => s.reg (sysB + o)

def fltVal (s : State) (o : Nat) : Word :=
  if o = 0 then s.fltStat
  else if o = 4 then at_ 0 16 s.flt.q ||| at_ 16 8 s.flt.limit
  else if o = 8 then at_ 0 11 s.flt.win
  else if 0x20 ≤ o ∧ o < 0x40 then s.activeWord ((o - 0x20) / 4)
  else if 0x60 ≤ o ∧ o < 0x80 then s.wireWord ((o - 0x60) / 4)
  else if o = 0xA0 then s.zoneLines.setWidth 32
  else if o = 0xA4 then s.flt.revoked.setWidth 32
  else if o = 0xB0 then s.clsCnt
  else if o = 0xC0 then at_ 0 16 s.flt.logged.toNat ||| at_ 16 16 s.flt.lost
  else if 0x400 ≤ o ∧ o < 0x800 then s.matrixWord ((o - 0x400) / 4)
  else if 0x800 ≤ o ∧ o < 0xC00 then s.srcStatWord ((o - 0x800) / 4)
  else s.reg (fltB + o)

/-- GOV.DEBT (17 R460). -/
def debtWord (s : State) : Word :=
  let d := fun (n : Nat) => min 255 (s.sinceDone n * 128 / max 1 s.dtiTicks)
  let best := (upFrom 10 1).foldl (fun m n => if d m < d n then n else m) 0
  at_ 0 8 (d best) ||| at_ 8 8 best ||| flag 16 s.gov.forcedLast

def govVal (s : State) (o : Nat) : Word := if o = 0 then s.govStat else if o = 0x90 then s.debtWord else s.reg (govB + o)

/-- A TC register (13 R381, R384). -/
def tcVal (s : State) (n r : Nat) : Word :=
  let c := s.tc n
  match r with
  | 0x1C => c.cnt
  | 0x20 => (s.reg (tcA n 0x20) &&& 0x7F) ||| flag 8 c.down ||| at_ 12 4 c.caps.length
  | _ => s.reg (tcA n r)

def tmrVal (s : State) (o : Nat) : Word :=
  if o = 0 then (s.reg tmrB &&& 3) ||| flag 2 s.tmr.lock
  else if 0x100 ≤ o ∧ o < 0x500 then s.tcVal ((o - 0x100) / 0x40) (o % 0x40)
  else if 0x500 ≤ o ∧ o < 0x580 then
    let c := s.wc ((o - 0x500) / 0x20)
    (match o % 0x20 with
    | 0x14 => w32 c.nextV
    | 0x18 => w32 (c.nextV / 2 ^ 32)
    | _ => s.reg (tmrB + o))
  else s.reg (tmrB + o)

/-- A loop register (14 R400). -/
def lpVal (s : State) (n r : Nat) : Word :=
  let c := s.lp n
  match r with
  | 0xC => s.loopStat n
  | 0x10 => c.rb.setWidth 32
  | 0x14 => at_ 0 16 (loopMean c.samples)
  | 0x18 => c.head.setWidth 32 ||| (c.vp.setWidth 32 <<< 16)
  | 0x1C => c.pdiss.setWidth 32 ||| (c.temp.setWidth 32 <<< 16)
  | 0x30 => c.itgt.setWidth 32 ||| flag 16 c.hiz
  | _ => s.reg (lpA n r)

/-- LOOP.SUM (14 R400). -/
def loopSum (s : State) : Word :=
  wordOf 4 (fun n => (s.lp n).itgt == alarmCode) ||| (wordOf 4 (fun n => (s.lp n).live != 0) <<< 4) ||| flag 8 s.loop.vlLow

def loopVal (s : State) (o : Nat) : Word :=
  if o = 4 then s.loopSum else if 0x100 ≤ o then s.lpVal ((o - 0x100) / 0x40) (o % 0x40) else s.reg (loopB + o)

def gioVal (s : State) (o : Nat) : Word :=
  match o with
  | 0 => s.gioStat
  | 0xC => s.gio.lv.setWidth 32
  | 0x10 => s.gioPinout
  | _ => s.reg (gioB + o)

def netVal (s : State) (o : Nat) : Word :=
  match o with
  | 0x20 => s.rstat false
  | 0x24 => s.rstat true
  | 0x90 => w32 (natOfBytes (s.mac.drop 2))
  | 0x94 => w32 (natOfBytes (s.mac.take 2))
  | _ => s.reg (netB + o)

def sesVal (s : State) (o : Nat) : Word :=
  if 0x200 ≤ o ∧ o < 0x240 then w32 (fld s.ses.liveM (8 * (o - 0x200)) 32)
  else if 0x240 ≤ o ∧ o < 0x280 then w32 (fld s.ses.forceM (8 * (o - 0x240)) 32)
  else s.reg (sesB + o)

def queVal (s : State) (o : Nat) : Word :=
  if 0x20 ≤ o ∧ o < 0x30 then wordOf 32 (fun i => s.qNonEmpty (8 * (o - 0x20) + i))
  else if 0x30 ≤ o ∧ o < 0x40 then wordOf 32 (fun i => s.qFull (8 * (o - 0x30) + i))
  else if 0x1000 ≤ o ∧ o < 0x1800 ∧ o % 16 = 8 then s.reg (queB + o) ||| flag 5 (s.queue ((o - 0x1000) / 16)).noOwn
  else if 0x2000 ≤ o ∧ o % 32 = 16 then s.qStat ((o - 0x2000) / 32)
  else s.reg (queB + o)

def bstVal (s : State) (o : Nat) : Word :=
  if o = 0 then s.bstStat else if 0x40 ≤ o then s.seqReg ((o - 0x40) / 4) else s.reg (bstB + o)

def otpVals (s : State) (o : Nat) : Word :=
  match o with
  | 0 => s.otpStat
  | 4 => s.otpMarg
  | 8 => w32 s.antiRb
  | 0xC => s.lifeWord
  | 0x10 => w32 s.otpRepairs
  | 0x14 => w32 s.bforce
  | _ =>
    if 0x40 ≤ o ∧ o < 0x70 then s.otpRstat ((o - 0x40) / 4)
    else if 0x1000 ≤ o then s.otpWordReg ((o - 0x1000) / 4)
    else s.reg (otpB + o)

def truVal (s : State) (o : Nat) : Word :=
  match o with
  | 0 => s.truStat
  | 4 => s.truLc
  | 0xC => at_ 0 8 s.tru.arb ||| at_ 8 8 s.antiRb
  | 0x14 => s.authStat
  | 0x4C => 0
  | 0x50 => s.upStat
  | _ =>
    if 0x100 ≤ o ∧ o < 0x500 then w32 (fld (s.cairn ((o - 0x100) / 64)) (8 * (o % 64)) 32)
    else if 0x800 ≤ o ∧ o < 0x1220 then
      (match s.tru.key with
        | some k => w32 (fld (Config.mldsaPublic k) (8 * (o - 0x800)) 32)
        | none => 0)
    else s.reg (truB + o)

def lnkVal (s : State) (o : Nat) : Word :=
  match o with
  | 0 => s.lnkStat
  | 4 => s.lnkId
  | 8 => s.lnkOffset
  | 0xC => s.stopTx.setWidth 32
  | 0x10 => s.remoteLines.setWidth 32
  | _ => s.reg (lnkB + o)

/-- HST.STAT (21 R527, R548): a WRITE's words are written as they arrive, so that WBUSY reads 0. -/
def hstStat (s : State) : Word := (s.reg hstB &&& 0xF) ||| flag 4 (!s.host.wbuf.isEmpty) ||| flag 5 (s.revoked 5)

def hstVal (s : State) (o : Nat) : Word :=
  match o with
  | 0 => s.hstStat
  | 0x24 => s.hstJobStat
  | _ => s.reg (hstB + o)

/-- MEM.STAT and RECFILL (16 R440, R441). -/
def memVal (s : State) (o : Nat) : Word :=
  match o with
  | 0 => (s.reg memB &&& 0x1F) ||| flag 5 s.mem.wipe
  | 0x38 => at_ 0 16 s.mem.stage.length
  | _ => s.reg (memB + o)

/-- What a register without side effect reads, for block b and offset o. -/
def regVal (s : State) (b o : Nat) : Word :=
  match b with
  | 0 => s.sysVal o | 1 => s.fltVal o | 2 => s.govVal o | 3 => s.tmrVal o | 4 => s.loopVal o | 5 => s.gioVal o | 6 => s.netVal o
  | 7 => s.sesVal o | 8 => s.queVal o | 9 => s.bstVal o | 10 => s.otpVals o | 11 => s.truVal o | 12 => s.lnkVal o | 13 => s.hstVal o
  | 15 => s.memVal o
  | _ => s.reg (sioB + o)

end State

end Sys2Proof.Machine
end

