-- ==== Sys2Proof/Machine/Regs.lean ====
section
/-! DEFINITION. Register accesses by fabric masters (03 R68-R76, R84-R86): what a read and a write of every register does, and
accesses to any application address. -/
namespace Sys2Proof.Machine
namespace State

/-! ### Reads -/

/-- The time-base low word, with the high word latched for the master (03 R86). -/
def readLow (s : State) (m : Nat) : State × Word :=
  let hi := w32 (s.now / 2 ^ 32)
  ({ s with conv := { s.conv with tbLatch := put none s.conv.tbLatch m (some hi) } }, w32 s.now)

/-- The time-base high word: the latched one, which frees the latch, or the live one (03 R86). -/
def readHigh (s : State) (m : Nat) : State × Word :=
  match look none s.conv.tbLatch m with
  | some w => ({ s with conv := { s.conv with tbLatch := put none s.conv.tbLatch m none } }, w)
  | none => (s, w32 (s.now / 2 ^ 32))

/-- A read with a side effect (03 R69 RS, and the high word and session registers); every other one is `regVal`. -/
def regGet (s : State) (m b o : Nat) : State × Word :=
  if b = 3 then
    (if o = 8 then s.readLow m
    else if o = 0xC then s.readHigh m
    else if 0x100 ≤ o ∧ o < 0x500 ∧ o % 0x40 = 0x28 then s.capPop ((o - 0x100) / 0x40)
    else (s, s.regVal b o))
  else if b = 4 then
    (if 0x100 ≤ o ∧ o % 0x40 = 0x28 then s.loopRxd ((o - 0x100) / 0x40) else (s, s.regVal b o))
  else if b = 6 then
    (if o = 0x80 then s.tsinfo else (s, s.regVal b o))
  else if b = 7 then
    (if o = 0x100 then (s, look 0 s.ses.sel m)
    else if 0x104 ≤ o ∧ o ≤ 0x124 then s.sesRead m o
    else (s, s.regVal b o))
  else if b = 8 then
    (if 0x2000 ≤ o ∧ o % 0x20 = 0 then s.qReserve ((o - 0x2000) / 0x20) m
    else if 0x2000 ≤ o ∧ o % 0x20 = 8 then s.qTake ((o - 0x2000) / 0x20) m
    else (s, s.regVal b o))
  else if b = 11 ∧ o = 0x10 then s.newChal
  else (s, s.regVal b o)

/-- A word read of a register address by a master whose port is open (03 R69-R73): state, status and data.
Log entry 104, DESIGN CHOICE. -/
def regRead (s : State) (m a : Nat) : State × Nat × Word :=
  let b := blockOf a
  let o := a % 0x10000
  match regKind b o with
  | none => (s, stDecode, 0)
  | some .wo => (s, stOk, 0)
  | some _ => let r := s.regGet m b o; (r.1, stOk, r.2)

/-! ### Writes -/

/-- The bits of a mask replaced. -/
def mergeMask (old v mask : Word) : Word := (old &&& ~~~mask) ||| (v &&& mask)

/-- A write of an RWC register goes to the shadow; an alias starts from the pending value if there is one (03 R69, R73). -/
def shadowWrite (s : State) (a : Nat) (kind : WriteKind) (mask v : Word) : State :=
  let base := (look none s.conv.shadow a).getD (s.reg a)
  { s with conv := { s.conv with shadow := put none s.conv.shadow a (some (mergeMask base (aliased kind base v) mask)) } }

/-- A group's commit is in progress (03 R79). -/
def committing (s : State) (b : Nat) : Bool :=
  s.conv.cstate == 1 && (match groupOf b with | some g => s.conv.cmask.testBit g | none => false)

/-- A direct write of 1 bits to a W1C register (03 R69); WDEXP ends the safe pattern (15 R409); a sticky condition of a loop channel
whose live bit is 1 is set again at once (14 R392, R393). -/
def w1cWrite (s : State) (b a : Nat) (mask v : Word) : State :=
  let s := s.clrBits a (v &&& mask)
  let o := a % 0x10000
  let s := if b = 4 ∧ 0x100 ≤ o then s.setBits a (at_ 0 5 (s.lp ((o - 0x100) / 0x40)).live.toNat) else s
  if b = 5 ∧ a = gioB then (if bit v 3 then s.gioClearWd.gioNote else s.gioNote) else s

/-- A write of an RW register (03 R69, R73), with what follows from it. Log entry 45, DEDUCED. -/
def rwWrite (s : State) (m b a : Nat) (kind : WriteKind) (mask v : Word) : State × Nat :=
  let o := a % 0x10000
  if b = 1 ∧ o = 0xA4 then
    match kind with
    | .set => s.revokeSet m v
    | .clr => (s.revokeClr m v, stOk)
    | _ => (s, stIgnored)
  else if b = 1 ∧ o = 0xC4 then (s.setUser (aliased kind (s.reg a) v), stOk)
  else if b = 7 then
    ({ s with ses := { s.ses with sel := put 0 s.ses.sel m (aliased kind (look 0 s.ses.sel m) v &&& mask) } }, stOk)
  else if b = 11 ∧ 0x80 ≤ o ∧ o ≤ 0xBC ∧ s.tru.ext.isSome then (s, stIgnored)
  else
    let s := s.setReg a (mergeMask (s.reg a) (aliased kind (s.reg a) v) mask)
    (if b = 5 then s.gioNote else s, stOk)

/-! ### Commits (03 R77-R83) -/

/-- An address has a pending write in a group of the mask. -/
def pend (s : State) (mask a : Nat) : Bool :=
  (look none s.conv.shadow a).isSome && (match groupAt a with | some g => mask.testBit g | none => false)

/-- What a register will hold after the apply. -/
def afterApply (s : State) (mask a : Nat) : Word :=
  if s.pend mask a then (look none s.conv.shadow a).getD 0 else s.reg a

/-- The functions that can claim a TIO pin: TC channels 0 to 15, then WC1 to WC3 as 17 to 19. -/
abbrev tioFns : List Nat := [0, 1, 2, 3, 4, 5, 6, 7, 8, 9, 10, 11, 12, 13, 14, 15, 17, 18, 19]

/-- An input pin and, in a group that RXMODE marks differential, its companion (13 R366). -/
def withCompanion (rx : Word) (p : Nat) : List Nat := if bit rx (p / 4) then [p, p + 1] else [p]

/-- TIO pins that a function's pin register claims under a reading of the registers (13 R366, R376, R383): OUTPIN, INA and INB of a TC
channel with their enables, OUTPIN of a WC channel. -/
def pinClaims (rd : Nat → Word) (f : Nat) : List Nat :=
  if f < 16 then
    let p := rd (tcA f 4)
    let rx := rd (tmrB + 0x14)
    (if bit p 4 then [fld p 0 4] else []) ++ (if bit p 12 then withCompanion rx (fld p 8 4) else [])
      ++ (if bit p 20 then withCompanion rx (fld p 16 4) else [])
  else
    let c := rd (wcA (f - 16) 0)
    if bit c 3 then [fld c 4 4] else []

/-- The pin that a TC channel's capture claims: CPIN while capture is enabled with CSRC 1 (13 R366, R385). -/
def capClaims (rd : Nat → Word) (f : Nat) : List Nat :=
  if 16 ≤ f then []
  else
    let c := rd (tcA f 0x24)
    if fld c 0 2 ≠ 0 ∧ bit c 2 then [fld c 4 4] else []

/-- TIO pins that a function claims. -/
def claims (rd : Nat → Word) (f : Nat) : List Nat := pinClaims rd f ++ capClaims rd f

/-- A pending write of a function claims pin p. -/
def fnPends (s : State) (mask f p : Nat) : Bool :=
  let rd := s.afterApply mask
  (s.pend mask (if f < 16 then tcA f 4 else wcA (f - 16) 0) && (pinClaims rd f).contains p)
    || (decide (f < 16) && s.pend mask (tcA f 0x24) && (capClaims rd f).contains p)

/-- The reason why TIO pin p is in conflict, 0 for none (03 R81, R91): two functions claim it by pending writes; or one does, and
another that owns it keeps it. Log entry 85, DEDUCED. -/
def tioConflict (s : State) (mask p : Nat) : Nat :=
  let new := fun (f : Nat) => (claims (s.afterApply mask) f).contains p
  let old := fun (f : Nat) => (claims s.reg f).contains p
  let fs := tioFns.filter (fun f => s.fnPends mask f p)
  if 2 ≤ fs.length then 1
  else if fs.any (fun f => tioFns.any (fun g => g != f && old g && new g)) then 2
  else 0

/-- A TP pin that the parameter image names is reserved (03 R82; 15 R411). Log entry 99, DEDUCED. -/
def tpConflict (s : State) (mask k : Nat) : Nat :=
  if s.pend mask (gioB + 0x20) && bit (s.afterApply mask (gioB + 0x20)) k && s.tpNamed true k then 3 else 0

/-- A claim of a queue (16 R419, R422): only an application core claims, and only a queue without an owner.
Log entry 86, DEDUCED. -/
def queueConflict (s : State) (mask q : Nat) : Nat :=
  let a := queB + 0x1008 + 16 * q
  if !s.pend mask a then 0
  else
    let new := fld (s.afterApply mask a) 0 5
    if new = 0x1F ∨ (new = s.qOwner q ∧ new < 4) then 0
    else if 3 < new ∨ s.qOwned q then 2
    else 0

/-- The first conflict of a commit as COMMIT_ERR shows it, 0 for none (03 R83, R91). -/
def firstConflict (s : State) (mask : Nat) : Word :=
  let show_ := fun (kind : Nat) (f : Nat → Nat) (n : Nat) =>
    match firstIdx (fun i => f i != 0) n 0 with
    | some i => at_ 0 4 (f i) ||| at_ 4 4 kind ||| at_ 8 8 i
    | none => 0
  let t := show_ 1 (s.tioConflict mask) 16
  if t ≠ 0 then t
  else
    let t := show_ 3 (s.tpConflict mask) 8
    if t ≠ 0 then t else show_ 6 (s.queueConflict mask) 128

/-- The groups that are at their safe point now, whatever happened before (03 R77): CG0 and CG2 at every tick; CG4, since an operation
of the queue engine is one command; CG6 with no host transaction in progress. Log entry 116, DEDUCED. -/
def heldAtOnce (s : State) : Nat := 0b10101 + (if s.host.read.isSome then 0 else 64)

/-- Every group of the commit in progress is held at its safe point (03 R78). -/
def allHeld (s : State) : Bool :=
  s.conv.cstate == 1 && (s.conv.cmask &&& (s.conv.held ||| s.heldAtOnce)) == s.conv.cmask

/-- A write of SYS.COMMIT (03 R78-R80, R83). Log entry 84, DEDUCED. -/
def startCommit (s : State) (v : Word) : State × Nat :=
  if s.conv.cstate = 1 then (s, stIgnored)
  else
    let mask := fld v 0 8
    let err := if mask = 0 then 0 else s.firstConflict mask
    let st := if mask = 0 then 2 else if err = 0 then 1 else 3
    ({ s with conv := { s.conv with cstate := st, cmask := mask, held := 0 } }.setReg (sysB + 0x20) err, stOk)

/-- A write of SYS.DISCARD (03 R80). Log entry 83, DEDUCED. -/
def discard (s : State) (v : Word) : State :=
  let mask := fld v 0 8
  { s with conv := { s.conv with shadow := s.conv.shadow.filter (fun e => !s.pend mask e.1) } }

/-- A write of SYS.SNAPREQ (03 R87). -/
def snapAsk (s : State) (v : Word) : State :=
  if bit v 0 then { s with conv := { s.conv with snapBusy := true } } else s

/-! ### Write-only registers -/

/-- A direct write of a WO register. -/
def woWrite (s : State) (m b o : Nat) (v : Word) : State × Nat :=
  if b = 0 then
    (if o = 0x10 then s.startCommit v
    else if o = 0x14 then (s.discard v, stOk)
    else if o = 0x40 then (s.snapAsk v, stOk)
    else if o = 0x104 then s.modeReq (fld v 0 4)
    else s.testRelBy m v)
  else if b = 4 then (if o % 0x40 = 0x20 then s.loopTxd ((o - 0x100) / 0x40) v else s.loopTxcmd ((o - 0x100) / 0x40) v)
  else if b = 5 then s.gioKick v
  else if b = 8 then
    (if o % 0x20 = 4 then s.qPublish ((o - 0x2000) / 0x20) m v else s.qRelease ((o - 0x2000) / 0x20) m v)
  else if b = 10 then s.otpJobCmd v
  else if b = 11 then (if o = 0x18 then s.extCmd v else s.truJobCmd v)
  else if o = 0x20 then s.hstJobCmd m v
  else s.hstAck m v

/-- Registers that refuse every fabric write: those of WC0 and of a TC channel bound to an axis (05 R158, 13 R377), the owner and
masks of a hardware-owned queue (16 R436). -/
def regLocked (s : State) (b o : Nat) : Bool :=
  if b = 3 then
    (decide (0x500 ≤ o) && decide (o < 0x520)) || (decide (0x100 ≤ o) && decide (o < 0x500) && s.tcBound ((o - 0x100) / 0x40))
  else if b = 8 then decide (0x1000 ≤ o) && decide (o < 0x1800) && decide (8 ≤ o % 16) && qHardware ((o - 0x1000) / 16)
  else false

/-- How an address in a block names the register (03 R73). -/
def aliasOf (o : Nat) : WriteKind :=
  match o / 0x4000 with
  | 0 => .direct
  | 1 => .set
  | 2 => .clr
  | _ => .tgl

/-- An ignored write to a locked field (03 R84, R92): the first since ERR was cleared names its address and master, later ones set
OVF. No register of the spec's fabric tables has an LK field (log entry 117, DEDUCED). -/
def lockErr (s : State) (m a : Nat) : State :=
  let w := s.reg (sysB + 0x30)
  if bit w 0 then s.setReg (sysB + 0x30) (w ||| 2)
  else (s.setReg (sysB + 0x30) (putFld (w ||| 1) 8 4 m)).setReg (sysB + 0x34) (w32 a)

/-- A write of a write-once register (03 R69 LK, R84): the first takes effect and locks it. -/
def lkWrite (s : State) (m b a : Nat) (kind : WriteKind) (mask v : Word) : State × Nat :=
  if s.conv.locked.contains a then (s.lockErr m a, stIgnored)
  else
    let r := s.rwWrite m b a kind mask v
    ({ r.1 with conv := { r.1.conv with locked := insNat a r.1.conv.locked } }, r.2)

/-- A word write of a register address by a master whose port is open (03 R69-R79, R84). Log entry 88, DEDUCED. Log entry 44,
DEDUCED. -/
def regWrite (s : State) (m a : Nat) (v : Word) : State × Nat :=
  let b := blockOf a
  let kind := aliasOf (a % 0x10000)
  let o := a % 0x4000
  let base := a - a % 0x10000 + o
  match regKind b o with
  | none => (s, stDecode)
  | some k =>
    let t := match k with | .count st => if kind = .direct then s.setBits st (flag 0 true) else s | _ => s
    if s.regLocked b o then (t, stIgnored)
    else match k with
      | .ro | .rs | .count _ => (t, stIgnored)
      | .lk mask => s.lkWrite m b base kind mask v
      | .wo => if kind = .direct then s.woWrite m b o v else (s, stIgnored)
      | .w1c mask => if kind = .direct then (s.w1cWrite b base mask v, stOk) else (s, stIgnored)
      | .rw mask => s.rwWrite m b base kind mask v
      | .rwc mask =>
        if s.committing b then ({ s with conv := { s.conv with heldBack := s.conv.heldBack ++ [(a, v)] } }, stOk)
        else (s.shadowWrite base kind mask v, stOk)

/-! ### The apply (03 R78, R79) -/

/-- The pending values of the mask become active. -/
def applyRegs (s : State) (mask : Nat) : State :=
  let old := s
  s.conv.shadow.foldl (fun (t : State) e =>
    match e.2 with
    | some v => if old.pend mask e.1 then t.setReg e.1 v else t
    | none => t) { s with conv := { s.conv with shadow := s.conv.shadow.filter (fun e => !s.pend mask e.1) } }

/-- A queue's ring fits where R423 asks. -/
def ringBad (s : State) (q : Nat) : Bool :=
  let b := s.qBase q
  let e := s.qEsz q
  let z := fld (s.reg (queB + 0x1004 + 16 * q)) 0 4
  let hi := b + e * s.qDepth q
  decide (z < 3) || decide (11 < z) || b % e != 0
    || !(decide (hi ≤ 0x10000000) || (decide (0x20000000 ≤ b) && decide (hi ≤ 0x20100000)))
    || (upFrom 128 0).any (fun k => k != q && s.qEn k && decide (s.qBase k < hi) && decide (b < s.qBase k + s.qEsz k * s.qDepth k))
    || (qHardware q && decide (z < (qReset q).esz))

/-- What a commit does to a queue whose descriptor it wrote (16 R422, R423). Log entry 87, DEDUCED. -/
def queueApply (old : State) (wroteOwn : Bool) (s : State) (q : Nat) : State :=
  let moved := old.qBase q != s.qBase q || old.qEsz q != s.qEsz q || old.qDepth q != s.qDepth q
  let s :=
    if moved then
      let t := s.setQueue q { s.queue q with slots := [], next := 0 }
      { t with ready := put [] t.ready q [] }
    else s
  let s := if wroteOwn && decide (s.qOwner q < 4) then s.setQueue q { s.queue q with noOwn := false } else s
  if s.ringBad q then
    (s.clrBits (queB + 0x1004 + 16 * q) (flag 31 true)).setReg queB (putFld (s.reg queB ||| 1) 8 7 q)
  else s

/-- The timer island at the apply (13 R364-R373, R376). -/
def timerApply (old : State) (mask : Nat) (s : State) : State :=
  let s := (upFrom 16 0).foldl (fun (t : State) n =>
    if (upFrom 10 0).any (fun i => old.pend mask (tcA n (4 * i))) then
      let wrote := fun (o : Nat) => old.pend mask (tcA n o)
      t.tcApply n (old.reg (tcA n 0)) (old.reg (tcA n 4)) (old.reg (tcA n 8)) wrote (old.tcApplyEvents n wrote)
    else t) s
  (upFrom 3 1).foldl (fun (t : State) w => if old.pend mask (wcA w 4) || old.pend mask (wcA w 8) then t.wcLoad w else t) s

/-- The writes that were held back go to the shadow (03 R79). -/
def releaseHeld (s : State) : State :=
  s.conv.heldBack.foldl (fun (t : State) e => (t.regWrite 0 e.1 e.2).1) { s with conv := { s.conv with heldBack := [] } }

/-- The commit in progress is applied in one tick, the first at which every group of its mask is held at its safe point (03 R74, R77,
R78), and a requested snapshot is taken after it (R87). -/
def commitApply (s : State) : State :=
  if !s.allHeld || !s.tmr.lock then s
  else
    let mask := s.conv.cmask
    let old := s
    let s := (s.tickWith (fun n o => old.pend mask (tcA n o))).applyRegs mask
    let s := timerApply old mask s
    let s := if mask.testBit 1 then (upFrom 4 0).foldl (fun (t : State) n => t.loopApply n (old.reg (lpA n 0))) s else s
    let s := if mask.testBit 2 then s.gioApply (fun o => old.pend mask (gioB + o)) else s
    let s := if mask.testBit 3 then s.netApply else s
    let s := if mask.testBit 5 then s.govApply else s
    let s := (upFrom 128 0).foldl (fun (t : State) q =>
      if (upFrom 4 0).any (fun i => old.pend mask (queB + 0x1000 + 16 * q + 4 * i)) then
        queueApply old (old.pend mask (queB + 0x1008 + 16 * q)) t q
      else t) s
    { s with conv := { s.conv with cstate := 2, ccount := s.conv.ccount + 1, held := 0 } }.releaseHeld.snapNow

/-- Group g of a commit in progress reaches its safe point; with every group held the commit is applied (03 R77, R78; 17 R454). -/
def reach (s : State) (g : Nat) : State :=
  if s.conv.cstate = 1 ∧ s.conv.cmask.testBit g then (s.safePoint (2 ^ g)).commitApply else s

/-- The tick of a requested snapshot (03 R87). -/
def takeSnapshot (s : State) : State := if s.conv.snapBusy && s.tmr.lock then s.tick else s

/-! ### Any application address (03 R68, R71; 16 R427; 21 R546) -/

/-- An access to the remote window that ends at once: DECODE for the own ID, ERROR for an absent device (21 R546). One to a present
device leaves as a request and does not come here; only the cores, the host port and the debug port reach the window. -/
def remoteAccess (s : State) (a : Nat) : State × Nat × Word :=
  (s, if (a - 0x80000000) / 0x10000000 = s.lnk.id then stDecode else stError, 0)

/-- The handshakes of a fabric transfer of one word between master m and an address (17 R445; log entry 120, DESIGN CHOICE). -/
def moved (s : State) (m a : Nat) : State :=
  let s := s.handshake m { h2 := 1 }
  match regionOf a with
  | .work | .nv => s.handshake 12 { h3 := 1 }
  | .sram => s.handshake 11 { h1 := 1 }
  | _ => s

/-- A read of k bytes (1, 2 or 4) by master m. Log entry 80, DEDUCED. -/
def busRead (s : State) (m a k : Nat) : State × Nat × Word :=
  if s.revoked m then (s, stError, 0)
  else
    let s := s.moved m a
    match regionOf a with
    | .work | .nv | .sram => let r := s.ramRead m a k; (r.1, r.2.1, w32 r.2.2)
    | .regs => if k = 4 ∧ a % 4 = 0 then s.regRead m a else (s, stDecode, 0)
    | .remote => s.remoteAccess a
    | .none => (s, stDecode, 0)

/-- A write of the k low bytes of a word by master m. -/
def busWrite (s : State) (m a k : Nat) (v : Word) : State × Nat :=
  if s.revoked m then (s, stError)
  else
    let s := s.moved m a
    match regionOf a with
    | .work | .nv | .sram => s.ramWrite m a (bytesOfNat k v.toNat)
    | .regs => if k = 4 ∧ a % 4 = 0 then s.regWrite m a v else (s, stDecode)
    | .remote => let r := s.remoteAccess a; (r.1, r.2.1)
    | .none => (s, stDecode)

end State

/-- COMMIT (03 R78-R83). -/
def execCommit (m : Fin 10) (mask : Word) (s : State) : Out := .next <|
  if s.revoked m then s.answer stError [] else let r := s.startCommit mask; r.1.answer r.2 []

/-- COMMIT_APPLY (03 R78). -/
def execCommitApply (s : State) : Out := .next s.commitApply

/-- LOOP_DAC_UPDATE (14 R389-R393): the safe point of CG1, then the update with what a commit has made active (03 R77). -/
def execLoopDacUpdate (s0 s1 s2 s3 : LoopSample) (vlLow : Bool) (s : State) : Out := .next <|
  (s.reach 1).dacUpdate s0 s1 s2 s3 vlLow

/-- GOVERNOR_WINDOW (17 R444-R454): at the next whole millisecond of the time base, the safe point of CG5, a commit of GOV is applied
before the boundary's computation; while the group waits for others with a pending GOV write, so does the computation (03 R77,
R78). -/
def execGovernorWindow (e : GovEnv) (s : State) : Out := .next <|
  if !s.tmr.lock then s
  else
    let s := (s.advanceTo s.nextBoundary).reach 5
    if s.waitsApply 5 govB (govB + 0x10000) then s else s.govWindow e

/-- DISCARD (03 R80). -/
def execDiscard (m : Fin 10) (mask : Word) (s : State) : Out := .next <|
  if s.revoked m then s.answer stError [] else (s.discard mask).answer stOk []

/-- SNAPSHOT_REQUEST (03 R87). -/
def execSnapshotRequest (m : Fin 10) (v : Word) (s : State) : Out := .next <|
  if s.revoked m then s.answer stError [] else (s.snapAsk v).answer stOk []

/-- SNAPSHOT (03 R87). -/
def execSnapshot (s : State) : Out := .next s.takeSnapshot

/-- TIME_BASE_LOW_READ (03 R86): master m reads TMR.TBL. -/
def execTimeBaseLowRead (m : Fin 10) (s : State) : Out := .next <|
  if s.revoked m then s.answer stError [0] else let r := s.readLow m; r.1.answer stOk [r.2]

/-- REGISTER_WRITE (03 R68-R76): an access of 8 or 16 bits, or off the register's alignment, is refused with DECODE. -/
def execRegisterWrite (m : Fin 10) (addr : Word) (v : Word) (size : AccessSize) (s : State) : Out := .next <|
  if s.revoked m then s.answer stError []
  else if size ≠ .b32 ∨ addr.toNat % 4 ≠ 0 ∨ regionOf addr.toNat ≠ .regs then s.answer stDecode []
  else let r := s.regWrite m addr.toNat v; r.1.answer r.2 []

end Sys2Proof.Machine
end

