-- ==== Sys2Proof/Machine/Except.lean ====
section
/-! DEFINITION. How an OIS processor executes one instruction (04 R97, R101, R124-R129): whether it executes at all, what is
taken at the boundary before it, fetch and mode checks, and the interrupts that stand. -/
namespace Sys2Proof.Machine

/-- How an instruction ends. -/
inductive Done where
  /-- it finishes without transferring control -/
  | seq (s : State)
  /-- a branch or jump to a target (R117) -/
  | jump (s : State) (t : Word)
  /-- pc and stacks stand as it leaves them -/
  | stay (s : State)
  /-- it has not completed: its access waits for a free tag (16 R415; 21 R546) -/
  | wait (s : State)
  /-- it raises an exception -/
  | fail (s : State) (e : Exc)

/-! ### Interrupts that stand -/

namespace State

/-- Interrupt 16 + n stands (13 R378). -/
def tcIrq (s : State) (n : Nat) : Bool :=
  let ctl := s.reg (tcA n 0)
  let st := s.reg (tcA n 0x20)
  (bit ctl 18 && bit st 0) || (bit ctl 19 && bit st 1) || (bit ctl 20 && bit st 2)
    || (bit ctl 21 && (bit st 5 || !(s.tc n).caps.isEmpty))

/-- Interrupt 32 + w stands: FIRED or MISSED with IEN (13 R378). -/
def wcIrq (s : State) (w : Nat) : Bool := bit (s.reg (wcA w 0)) 9 && (bit (s.reg (wcA w 0x10)) 0 || bit (s.reg (wcA w 0x10)) 1)

/-- Interrupt 56 stands (18 R476). -/
def bstIrq (s : State) : Bool :=
  let ctl := s.reg (bstB + 8)
  let st := s.reg bstB
  (bit ctl 4 && bit st 1) || (bit ctl 5 && bit st 2) || (bit ctl 6 && bit st 3)

/-- A unit's request of interrupt n stands at core k (13 R378, 14 R395, 15 R407, 17 R458, 18 R476). -/
def irqLevel (s : State) (k n : Nat) : Bool :=
  if 16 ≤ n ∧ n < 32 then bit (s.reg (tmrB + 0x10)) k && s.tcIrq (n - 16)
  else if 33 ≤ n ∧ n < 36 then bit (s.reg (tmrB + 0x10)) k && s.wcIrq (n - 32)
  else if 40 ≤ n ∧ n < 44 then bit (s.reg loopB) k && s.loopIrq (n - 40)
  else if n = 48 then bit (s.reg (gioB + 4)) k && s.gioIrq
  else if n = 52 then bit (s.reg (govB + 0x1C)) k && s.govIrq
  else if n = 56 then bit (s.reg (bstB + 8)) k && s.bstIrq
  else false

/-- Interrupt n is pending at core k. -/
def irqPending (s : State) (k n : Nat) : Bool := bit (s.core k).irq n || s.irqLevel k n

/-- Any interrupt is pending at core k. -/
def anyIrq (s : State) (k : Nat) : Bool := (upFrom 64 0).any (s.irqPending k)

/-- The processor executes its next instruction: it runs, or a WFI of it ends because an interrupt is pending (04 R123). -/
def executes (s : State) (p : Proc) : Bool :=
  match (s.cpu p).run, p with
  | .running, _ => true
  | .waitInt, .ac k => s.anyIrq k.val
  | _, _ => false

end State

/-- Code TCM and data TCM (05 R137, R591). -/
def isCodeTcm (a : Nat) : Bool := decide (a < 0x80000)
def isDataTcm (a : Nat) : Bool := decide (0x100000 ≤ a) && decide (a < 0x140000)

namespace State

/-! ### The TCMs -/

/-- A byte of TCM: the runtime's code is Berelm's but for the user call slot (05 R138, R139), and code TCM is lost after the full
run (18 R474). -/
def tcmByte (s : State) (a : Nat) : Byte :=
  if isCodeTcm a && s.chA.tcmLost then Config.tcmByte a
  else if decide (a < 0x10000) && s.chA.loadRt && !(decide (0xC0 ≤ a) && decide (a < 0xC4)) then
    Config.runtimeByte ((look none s.tru.slots 1).getD 0) a
  else look 0 s.chA.tcm a

/-- The number of k bytes of TCM. -/
def tcmGet (s : State) (a k : Nat) : Nat := natOfBytes ((upFrom k a).map s.tcmByte)

end State

/-! ### What is taken at an instruction boundary (04 R127, R128) -/

namespace State

/-- The core had no context when it entered its handler, whose energy is charged to the shared budget (17 R450): a grant of class 0
that nothing decides and that costs what GRANT_END reports. Log entry 23, DESIGN CHOICE. -/
def parkIf (s : State) (k : Fin 4) (idle : Bool) : State :=
  if idle then
    { s.setCpu (.ac k) { s.cpu (.ac k) with parked := true } with
      gov := { s.gov with grants := s.gov.grants ++ [{ who := .core k.val, cls := 0, fromRes := false, cost := 0, forced := true }] } }
  else s

/-- Core k takes interrupt n (04 R127). -/
def takeIrq (s : State) (k : Fin 4) (n : Nat) : State :=
  let c := s.cpu (.ac k)
  let t := s.enterExc (.ac k) { code := 0x10, detail := n } false c.pc
  (t.setCpu (.ac k) { t.cpu (.ac k) with irq := putBit c.irq n false }).parkIf k (c.run == .idle)

/-- Core k takes the response of a posted store that has arrived (04 R110, R127): BUS, or IGNW for IGNORED. -/
def takePosted (s : State) (k : Fin 4) (status : Nat) (a : Word) : State :=
  let c := s.cpu (.ac k)
  let e : Exc := if status = stIgnored then { code := 6 } else { code := 5, detail := status, eval := a }
  ((s.enterExc (.ac k) e true c.pc).parkIf k (c.run == .idle)).settleStep (.ac k)

/-- Core k may take an interrupt: IE 1, EXC 0, no imprecise error that goes first, no step in progress (04 R128; 21 R537). -/
def irqOpen (s : State) (k : Fin 4) : Bool :=
  let c := s.cpu (.ac k)
  c.st.ie && !c.st.exc && !c.stepping && c.due.isEmpty

/-- A debugger may halt the processor (21 R536). -/
def haltAllowed (s : State) (p : Proc) : Bool :=
  match p with
  | .safety => s.md.mode == .service
  | .ac k => s.coreHaltWith (s.debugNames k)

/-- The processor halts: its grant returns to the governor, its context stays (21 R537). -/
def haltNow (s : State) (p : Proc) : State :=
  let c := s.cpu p
  match c.run with
  | .halted _ => s
  | r =>
    let s := s.setCpu p { c with run := .halted r }
    match p with
    | .safety => s
    | .ac k => s.endGrant (.core k.val)

/-- The number of a processor's first slot in the breakpoint table. -/
def bpBase (p : Proc) : Nat := match p with | .ac k => 4 * k.val | .safety => 16

/-- A breakpoint slot of the processor holds the address of its next instruction, at which it has not halted yet (21 R537). Log
entry 134, DEDUCED. -/
def breaksAt (s : State) (p : Proc) (slot : Nat) : Bool :=
  let c := s.cpu p
  look none s.dbg.bps (bpBase p + slot) == some c.pc && c.past != some c.pc && s.haltAllowed p

/-- The processor halts at a breakpoint. -/
def breakNow (s : State) (p : Proc) : State := (s.setCpu p { s.cpu p with past := some (s.cpu p).pc }).haltNow p

/-- The halt at a breakpoint that goes before the next instruction of a processor. -/
def breakDue (s : State) (p : Proc) : Option State := if (upFrom 4 0).any (s.breaksAt p) then some (s.breakNow p) else none

/-- The breakpoint that has halted the processor has been left: its instruction executes. -/
def passBreak (s : State) (p : Proc) : State :=
  match (s.cpu p).past with
  | none => s
  | some _ => s.setCpu p { s.cpu p with past := none }

/-- What goes before the next instruction of a processor (04 R128, R135; 21 R537): the kill of its context, an imprecise error that
has arrived, an enabled interrupt, of several the one with the lowest number, a breakpoint. Log entry 15, DESIGN CHOICE. -/
def firstDue (s : State) (p : Proc) : Option State :=
  match p with
  | .safety => s.breakDue p
  | .ac k =>
    let c := s.cpu (.ac k)
    if c.killDue then some (s.killNow k)
    else match c.due with
      | (st, a) :: rest => some ((s.setCpu (.ac k) { c with due := rest }).takePosted k st a)
      | [] => ((if s.irqOpen k then firstIdx (s.irqPending k) 64 0 else none).map (s.takeIrq k)).or (s.breakDue p)

/-- A WFI of the processor has ended: its context goes on if it is granted and not preempted (04 R136; 17 R450). -/
def wakes (s : State) (p : Proc) : State :=
  match (s.cpu p).run, p with
  | .waitInt, .ac k => (s.setCpu p { s.cpu p with run := .running }).goesOn k
  | _, _ => s

/-! ### Fetch (04 R128) -/

/-- The word of another device's memory that a core is about to execute has to be asked for (21 R546). -/
def fetchAsks (s : State) (p : Proc) : Bool :=
  match p with
  | .safety => false
  | .ac k =>
    let c := s.cpu p
    decide (regionOf c.pc.toNat = .remote) && (s.remoteNow k (remoteDev c.pc)).isNone && c.ifetch.isNone

/-- A core asks another device for the word at its pc, and waits for it; it waits for a free tag first. -/
def askWord (s : State) (p : Proc) : State :=
  match p with
  | .safety => s
  | .ac k =>
    let c := s.cpu p
    let d := remoteDev c.pc
    if s.remoteFull d || !s.tagFree k then s
    else
      let t := s.remoteAsk d k c.pc [] true
      t.setCpu p { t.cpu p with run := .waitRemote 0 (5 + 8 * s.lnk.nextTag.toNat) }

/-- The word at the pc of a core, as its fetch reads it: BUS where nothing answers, ECC on an uncorrectable word (04 R126; 16 R427).
-/
def coreWord (s : State) (k : Fin 4) : State × Option Exc × Word :=
  let pc := (s.cpu (.ac k)).pc
  match regionOf pc.toNat with
  | .none => (s, some { code := 5, detail := stDecode, eval := pc }, 0)
  | .regs =>
    let r := s.busRead k pc.toNat 4
    (r.1, if r.2.1 = stOk then none else some { code := 5, detail := r.2.1, eval := pc }, r.2.2)
  | .remote =>
    let c := s.cpu (.ac k)
    match s.remoteNow k (remoteDev pc) with
    | some st => (s, some { code := 5, detail := st, eval := pc }, 0)
    | none => (s.setCpu (.ac k) { c with ifetch := none }, none, c.ifetch.getD 0)
  | _ =>
    let r := s.eccRead pc.toNat k.val
    (r.1, if r.2 then none else some { code := 7, eval := pc }, w32 (r.1.num pc.toNat 4))

/-- A word whose op or fn is reserved raises ILL (04 R101). -/
def reservedIll (w : Word) : Option Exc := if opAssigned w then none else some { code := 1, eval := w }

/-- The fetch at pc (04 R101, R128; 16 R427): the safety processor fetches from code TCM; ACCESS, BUS, ECC, then ILL for a word whose
op or fn is reserved. Log entry 18, DESIGN CHOICE. Log entry 37, DEDUCED. Log entry 63, PRESUMED. Log entry 64, DEDUCED. -/
def fetch (s : State) (p : Proc) : State × Option Exc :=
  match p with
  | .safety =>
    let pc := s.sp.pc
    (s, if isCodeTcm pc.toNat then reservedIll (w32 (s.tcmGet pc.toNat 4)) else some { code := 4, eval := pc })
  | .ac k => let r := s.coreWord k; (r.1, r.2.1.or (reservedIll r.2.2))

/-- The mode check of R97. -/
def modeFault (s : State) (p : Proc) (modes : List Nat) (w : Word) : Option Exc :=
  let m := (s.cpu p).st.mode.toNat
  if modes.contains m then none
  else if m = 0 ∧ modes = [1] then some { code := 2, eval := w }
  else some { code := 1, eval := w }

/-- What the end of an instruction does. -/
def finish (_s : State) (p : Proc) (pc : Word) (cost : Nat) : Done → State
  | .seq t => (t.flowOn p pc).ran p cost
  | .jump t a => (t.flowTo p a).ran p cost
  | .stay t => t.ran p cost
  | .wait t => t
  | .fail t e => t.raiseExc p e

/-- One instruction of a processor: its word, whether its fields are legal (R101), the modes it runs in (R97), its slot cost
and its operation. A processor that executes nothing ignores it, and what is due at the boundary goes before it (R128).
Log entry 18, DESIGN CHOICE. -/
def instr (s : State) (p : Proc) (w : Word) (legal : Bool) (modes : List Nat) (cost : Nat) (op : State → Done) : State :=
  if !s.executes p then s
  else
    let s := s.wakes p
    match (s.cpu p).run, s.firstDue p with
    | .running, none =>
      if s.fetchAsks p then s.askWord p
      else
        let s := s.passBreak p
        let r := s.fetch p
        let t :=
          match r.2 with
          | some e => r.1.raiseExc p e
          | none =>
            if !legal then r.1.raiseExc p { code := 1, eval := w }
            else match r.1.modeFault p modes w with
              | some e => r.1.raiseExc p e
              | none => r.1.finish p (s.cpu p).pc cost (op r.1)
        t.settleStep p
    | .running, some t => t
    | _, _ => s

end State

/-- The mode sets of the instruction tables, by the codes of R94. -/
abbrev mSKU : List Nat := [2, 1, 0]
abbrev mKU : List Nat := [1, 0]
abbrev mSK : List Nat := [2, 1]
abbrev mK : List Nat := [1]
abbrev mS : List Nat := [2]

end Sys2Proof.Machine
end

