-- ==== Sys2Proof/Machine/Alu.lean ====
section
/-! DEFINITION. Integer arithmetic and logic, division and dual words (04 R105-R108). -/
namespace Sys2Proof.Machine

namespace State

/-- A two-operand function of Format R that writes rd and no flags; aux must be 0 (04 R105). -/
def alu (s : State) (p : Proc) (f : FmtR) (fn cost : Nat) (op : Word → Word → Word) : State :=
  s.instr p (wordR 1 fn f) (f.aux == 0) mSKU cost (fun s => .seq (s.setGr p f.rd (op (s.gr p f.ra) (s.gr p f.rb))))

/-- A shift by aux[4:0]: rb and aux[7:5] must be 0 (04 R105). -/
def shiftImm (s : State) (p : Proc) (f : FmtR) (fn : Nat) (op : Word → Nat → Word) : State :=
  s.instr p (wordR 1 fn f) (f.rb == 0 && decide (f.aux.toNat < 32)) mSKU 1
    (fun s => .seq (s.setGr p f.rd (op (s.gr p f.ra) f.aux.toNat)))

/-- CMP and TST: rd and aux must be 0 (04 R105). -/
def compare (s : State) (p : Proc) (f : FmtR) (fn : Nat) (flags : StBits → Word → Word → StBits) : State :=
  s.instr p (wordR 1 fn f) (f.aux == 0 && f.rd == 0) mSKU 1
    (fun s => .seq (s.setSt p (flags (s.cpu p).st (s.gr p f.ra) (s.gr p f.rb))))

end State

/-- The high word of a product (04 R105). -/
def mulHigh (x : Int) : Word := BitVec.ofInt 32 (x / 2 ^ 32)

/-- The cases of R106 in which DIVC sets V: divisor 0, and the signed quotient that does not fit. -/
def divBad (signed : Bool) (a b : Word) : Bool := b == 0 || (signed && a == 0x80000000 && b == 0xFFFFFFFF)

/-- Quotient and remainder (04 R106): rounded towards zero, the remainder with the dividend's sign. -/
def quot (signed : Bool) (a b : Word) : Word :=
  if b = 0 then 0xFFFFFFFF else if signed then BitVec.ofInt 32 (a.toInt.tdiv b.toInt) else BitVec.ofNat 32 (a.toNat / b.toNat)

def remd (signed : Bool) (a b : Word) : Word :=
  if b = 0 then a else if signed then BitVec.ofInt 32 (a.toInt.tmod b.toInt) else BitVec.ofNat 32 (a.toNat % b.toNat)

namespace State

/-- DIVC: V alone among the flags (04 R106). -/
def divc (s : State) (p : Proc) (f : FmtR) (fn : Nat) (signed : Bool) (op : Bool → Word → Word → Word) : State :=
  s.instr p (wordR 2 fn f) (f.aux == 0) mSKU 16 (fun s =>
    let a := s.gr p f.ra
    let b := s.gr p f.rb
    .seq ((s.setGr p f.rd (op signed a b)).setSt p { (s.cpu p).st with v := divBad signed a b }))

/-- DIV: no flags, K and U only (04 R106). -/
def div (s : State) (p : Proc) (f : FmtR) (fn : Nat) (signed : Bool) (op : Bool → Word → Word → Word) : State :=
  s.instr p (wordR 3 fn f) (f.aux == 0) mKU 12 (fun s => .seq (s.setGr p f.rd (op signed (s.gr p f.ra) (s.gr p f.rb))))

/-- A Format I function that writes rd (04 R107). -/
def aluImm (s : State) (p : Proc) (f : FmtI) (op : Nat) (g : Word → Word) : State :=
  s.instr p (wordI op f) true mSKU 1 (fun s => .seq (s.setGr p f.rd (g (s.gr p f.ra))))

/-- DWADD and DWSUB (04 R108, 05 R147). -/
def dualOp (s : State) (p : Proc) (f : FmtR) (fn : Nat) (g : Int → Int → Int) : State :=
  s.instr p (wordR 0xA fn f) (f.aux == 0) mSKU 2 (fun s =>
    let v :=
      match dualVal (s.gr p f.ra), dualVal (s.gr p f.rb) with
      | some a, some b => dualOfInt (g a.toInt b.toInt)
      | _, _ => 0
    .seq (s.setGr p f.rd v))

end State

/-- ADD (04 R105). -/
def execAdd (p : Proc) (f : FmtR) (s : State) : Out := .next <| s.alu p f 0 1 (· + ·)

/-- SUB (04 R105). -/
def execSub (p : Proc) (f : FmtR) (s : State) : Out := .next <| s.alu p f 1 1 (· - ·)

/-- AND (04 R105). -/
def execAnd (p : Proc) (f : FmtR) (s : State) : Out := .next <| s.alu p f 2 1 (· &&& ·)

/-- OR (04 R105). -/
def execOr (p : Proc) (f : FmtR) (s : State) : Out := .next <| s.alu p f 3 1 (· ||| ·)

/-- XOR (04 R105). -/
def execXor (p : Proc) (f : FmtR) (s : State) : Out := .next <| s.alu p f 4 1 (· ^^^ ·)

/-- SLL (04 R105). -/
def execSll (p : Proc) (f : FmtR) (s : State) : Out := .next <| s.alu p f 5 1 (fun a b => a <<< fld b 0 5)

/-- SRL (04 R105). -/
def execSrl (p : Proc) (f : FmtR) (s : State) : Out := .next <| s.alu p f 6 1 (fun a b => a >>> fld b 0 5)

/-- SRA (04 R105). -/
def execSra (p : Proc) (f : FmtR) (s : State) : Out := .next <| s.alu p f 7 1 (fun a b => a.sshiftRight (fld b 0 5))

/-- SLLI (04 R105). -/
def execSlli (p : Proc) (f : FmtR) (s : State) : Out := .next <| s.shiftImm p f 8 (fun a k => a <<< k)

/-- SRLI (04 R105). -/
def execSrli (p : Proc) (f : FmtR) (s : State) : Out := .next <| s.shiftImm p f 9 (fun a k => a >>> k)

/-- SRAI (04 R105). -/
def execSrai (p : Proc) (f : FmtR) (s : State) : Out := .next <| s.shiftImm p f 10 (fun a k => a.sshiftRight k)

/-- MUL (04 R105). -/
def execMul (p : Proc) (f : FmtR) (s : State) : Out := .next <| s.alu p f 11 3 (· * ·)

/-- MULH (04 R105). -/
def execMulh (p : Proc) (f : FmtR) (s : State) : Out := .next <| s.alu p f 12 3 (fun a b => mulHigh (a.toInt * b.toInt))

/-- MULHU (04 R105). -/
def execMulhu (p : Proc) (f : FmtR) (s : State) : Out := .next <| s.alu p f 13 3 (fun a b => mulHigh ((a.toNat * b.toNat : Nat) : Int))

/-- CMP (04 R105). -/
def execCmp (p : Proc) (f : FmtR) (s : State) : Out := .next <| s.compare p f 14 cmpFlags

/-- TST (04 R105). -/
def execTst (p : Proc) (f : FmtR) (s : State) : Out := .next <| s.compare p f 15 tstFlags

/-- MIN (04 R105). -/
def execMin (p : Proc) (f : FmtR) (s : State) : Out := .next <| s.alu p f 16 1 (fun a b => if a.toInt ≤ b.toInt then a else b)

/-- MAX (04 R105). -/
def execMax (p : Proc) (f : FmtR) (s : State) : Out := .next <| s.alu p f 17 1 (fun a b => if a.toInt ≤ b.toInt then b else a)

/-- MINU (04 R105). -/
def execMinu (p : Proc) (f : FmtR) (s : State) : Out := .next <| s.alu p f 18 1 (fun a b => if a.toNat ≤ b.toNat then a else b)

/-- MAXU (04 R105). -/
def execMaxu (p : Proc) (f : FmtR) (s : State) : Out := .next <| s.alu p f 19 1 (fun a b => if a.toNat ≤ b.toNat then b else a)

/-- DIVC, signed quotient (04 R106). -/
def execDivcSq (p : Proc) (f : FmtR) (s : State) : Out := .next <| s.divc p f 0 true quot

/-- DIVC, unsigned quotient (04 R106). -/
def execDivcUq (p : Proc) (f : FmtR) (s : State) : Out := .next <| s.divc p f 1 false quot

/-- DIVC, signed remainder (04 R106). -/
def execDivcSr (p : Proc) (f : FmtR) (s : State) : Out := .next <| s.divc p f 2 true remd

/-- DIVC, unsigned remainder (04 R106). -/
def execDivcUr (p : Proc) (f : FmtR) (s : State) : Out := .next <| s.divc p f 3 false remd

/-- DIV, signed quotient (04 R106). -/
def execDivSq (p : Proc) (f : FmtR) (s : State) : Out := .next <| s.div p f 0 true quot

/-- DIV, unsigned quotient (04 R106). -/
def execDivUq (p : Proc) (f : FmtR) (s : State) : Out := .next <| s.div p f 1 false quot

/-- DIV, signed remainder (04 R106). -/
def execDivSr (p : Proc) (f : FmtR) (s : State) : Out := .next <| s.div p f 2 true remd

/-- DIV, unsigned remainder (04 R106). -/
def execDivUr (p : Proc) (f : FmtR) (s : State) : Out := .next <| s.div p f 3 false remd

/-- ADDI (04 R107). -/
def execAddi (p : Proc) (f : FmtI) (s : State) : Out := .next <| s.aluImm p f 4 (· + sext18 f.imm)

/-- ANDI (04 R107). -/
def execAndi (p : Proc) (f : FmtI) (s : State) : Out := .next <| s.aluImm p f 5 (· &&& zext18 f.imm)

/-- ORI (04 R107). -/
def execOri (p : Proc) (f : FmtI) (s : State) : Out := .next <| s.aluImm p f 6 (· ||| zext18 f.imm)

/-- XORI (04 R107). -/
def execXori (p : Proc) (f : FmtI) (s : State) : Out := .next <| s.aluImm p f 7 (· ^^^ zext18 f.imm)

/-- CMPI (04 R107): rd must be 0. -/
def execCmpi (p : Proc) (f : FmtI) (s : State) : Out := .next <| 
  s.instr p (wordI 8 f) (f.rd == 0) mSKU 1 (fun s => .seq (s.setSt p (cmpFlags (s.cpu p).st (s.gr p f.ra) (sext18 f.imm))))

/-- LUI (04 R107): ra and imm18[17:16] must be 0. -/
def execLui (p : Proc) (f : FmtI) (s : State) : Out := .next <| 
  s.instr p (wordI 9 f) (f.ra == 0 && decide (f.imm.toNat < 65536)) mSKU 1
    (fun s => .seq (s.setGr p f.rd (zext18 f.imm <<< 16)))

/-- DWMK (04 R108): rb must be 0. -/
def execDwmk (p : Proc) (f : FmtR) (s : State) : Out := .next <| 
  s.instr p (wordR 0xA 0 f) (f.aux == 0 && f.rb == 0) mSKU 1 (fun s => .seq (s.setGr p f.rd (dual ((s.gr p f.ra).setWidth 16))))

/-- DWADD (04 R108). -/
def execDwadd (p : Proc) (f : FmtR) (s : State) : Out := .next <| s.dualOp p f 1 (· + ·)

/-- DWSUB (04 R108). -/
def execDwsub (p : Proc) (f : FmtR) (s : State) : Out := .next <| s.dualOp p f 2 (· - ·)

/-- DWLO (04 R108): DWX on an invalid dual word, with the register number in DETAIL (R126). -/
def execDwlo (p : Proc) (f : FmtR) (s : State) : Out := .next <| 
  s.instr p (wordR 0xA 3 f) (f.aux == 0 && f.rb == 0) mSKU 1 (fun s =>
    match dualVal (s.gr p f.ra) with
    | some v => .seq (s.setGr p f.rd (v.signExtend 32))
    | none => .fail s { code := 0xC, detail := f.ra.toNat })

end Sys2Proof.Machine
end

