-- ==== Sys2Proof/Machine/Flow.lean ====
section
/-! DEFINITION. Control flow (04 R114-R117) and the safe-boolean instructions that touch registers alone (R118, R119). -/
namespace Sys2Proof.Machine

/-- The target pc + 4 * sext(off21) (04 R102). -/
def jTarget (pc : Word) (off : BitVec 21) : Word := pc + off.signExtend 32 * 4

/-- In S-mode a branch with an offset of 0 or less is illegal (04 R102). -/
def State.forward (s : State) (p : Proc) (f : FmtJ) : Bool := (s.cpu p).st.mode != 2 || decide (0 < f.off.toInt)

/-- B (04 R114). -/
def execBr (p : Proc) (f : FmtJ) (s : State) : Out := .next <|
  s.instr p (wordJ 0x20 f) (decide (f.sel.toNat < 15) && s.forward p f) mSKU 2 (fun s =>
    if condHolds (s.cpu p).st f.sel.toNat then .jump s (jTarget (s.cpu p).pc f.off) else .seq s)

/-- BL (04 R115): g15 is the link. -/
def execBl (p : Proc) (f : FmtJ) (s : State) : Out := .next <|
  s.instr p (wordJ 0x21 f) (f.sel == 0) mKU 2 (fun s =>
    let pc := (s.cpu p).pc
    .jump (s.setGr p 15 (pc + 4)) (jTarget pc f.off))

/-- CALL (04 R115, R117): it never ends a loop. -/
def execCall (p : Proc) (f : FmtJ) (s : State) : Out := .next <|
  s.instr p (wordJ 0x22 f) (f.sel == 0) mSKU 2 (fun s =>
    let c := s.cpu p
    if 8 ≤ c.rets.length then .fail s { code := 0xA }
    else .stay (s.setCpu p { c with rets := (c.pc + 4) :: c.rets, pc := jTarget c.pc f.off }))

/-- JR (04 R115). -/
def execJr (p : Proc) (f : FmtR) (fn : BitVec 6) (s : State) : Out := .next <|
  s.instr p (wordR 0x23 fn.toNat f) (f.rd == 0 && f.rb == 0 && fn == 0 && f.aux == 0) mKU 3 (fun s =>
    let t := s.gr p f.ra
    if t.toNat % 4 ≠ 0 then .fail s { code := 3, eval := t } else .jump s t)

/-- JLR (04 R115): the target is read before rd is written. -/
def execJlr (p : Proc) (f : FmtR) (fn : BitVec 6) (s : State) : Out := .next <|
  s.instr p (wordR 0x24 fn.toNat f) (f.rb == 0 && fn == 0 && f.aux == 0) mKU 3 (fun s =>
    let t := s.gr p f.ra
    if t.toNat % 4 ≠ 0 then .fail s { code := 3, eval := t } else .jump (s.setGr p f.rd ((s.cpu p).pc + 4)) t)

/-- A branch on a safe boolean (04 R115): SBX when it is invalid. -/
def State.branchSb (s : State) (p : Proc) (op : Nat) (f : FmtJ) (want : Bool) : State :=
  s.instr p (wordJ op f) (s.forward p f) mS 2 (fun s =>
    match sbVal (s.sbr f.sel) with
    | none => .fail s { code := 0xB, detail := f.sel.toNat }
    | some b => if b = want then .jump s (jTarget (s.cpu p).pc f.off) else .seq s)

/-- BSBT (04 R115). -/
def execBsbt (p : Proc) (f : FmtJ) (s : State) : Out := .next <| s.branchSb p 0x25 f true

/-- BSBF (04 R115). -/
def execBsbf (p : Proc) (f : FmtJ) (s : State) : Out := .next <| s.branchSb p 0x26 f false

/-- LOOP (04 R116): count 1 to 16383, len 1 to 4095; STK when the loop stack holds 4. -/
def execLoop (p : Proc) (f : FmtL) (s : State) : Out := .next <|
  s.instr p (wordL 0x27 f) (f.count != 0 && f.len != 0) mSKU 2 (fun s =>
    let c := s.cpu p
    if 4 ≤ c.loops.length then .fail s { code := 0xA }
    else
      let e : LoopEnt := { first := c.pc + 4, last := c.pc + 4 * w32 f.len.toNat, left := f.count.toNat,
                           depth := c.rets.length, exc := c.st.exc }
      .seq (s.setCpu p { c with loops := e :: c.loops }))

/-- RET (04 R115, R116, R117, R123): loops deeper than the depth it leaves end; a return to the address after a body at the
loop's level completes into the loop. -/
def execRet (p : Proc) (f : FmtR) (s : State) : Out := .next <|
  s.instr p (wordR 0x3F 3 f) (f.rd == 0 && f.ra == 0 && f.rb == 0 && f.aux == 0) mSKU 2 (fun s =>
    let c := s.cpu p
    match c.rets with
    | [] => .fail s { code := 0xA, detail := 1 }
    | t :: rest =>
      let loops := c.loops.filter (fun (e : LoopEnt) => decide (e.depth ≤ rest.length))
      .stay ((s.setCpu p { c with rets := rest, loops := loops }).flowOn p (t - 4)))

/-! ### Safe booleans -/

namespace State

/-- An SBOP that writes sd from its operands' truth values (04 R118); `used` tells whether sb and sc are used. -/
def sbop (s : State) (p : Proc) (fn : Nat) (f : FmtX) (useB useC : Bool)
    (g : Option Bool → Option Bool → Option Bool → BitVec 2) : State :=
  s.instr p (wordX 0x28 fn f) ((useB || f.sb == 0) && (useC || f.sc == 0)) mS 1
    (fun s => .seq (s.setSbr f.sd (g (sbVal (s.sbr f.sa)) (sbVal (s.sbr f.sb)) (sbVal (s.sbr f.sc)))))

end State

/-- Two- and three-operand functions with invalid operands giving an invalid result (05 R143, R144). -/
def sb2 (g : Bool → Bool → Bool) (a b : Option Bool) : BitVec 2 :=
  match a, b with
  | some x, some y => sbOf (g x y)
  | _, _ => 0

def sb3 (g : Bool → Bool → Bool → Bool) (a b c : Option Bool) : BitVec 2 :=
  match a, b, c with
  | some x, some y, some z => sbOf (g x y z)
  | _, _, _ => 0

/-- SMOV (04 R118, 05 R142). -/
def execSmov (p : Proc) (f : FmtX) (s : State) : Out := .next <| s.sbop p 0 f false false (fun a _ _ => sbRes a)

/-- SNOT (04 R118, 05 R142). -/
def execSnot (p : Proc) (f : FmtX) (s : State) : Out := .next <| s.sbop p 1 f false false (fun a _ _ => sbRes (a.map not))

/-- SAND (04 R118, 05 R143). -/
def execSand (p : Proc) (f : FmtX) (s : State) : Out := .next <| s.sbop p 2 f true false (fun a b _ => sb2 and a b)

/-- SOR (04 R118, 05 R143). -/
def execSor (p : Proc) (f : FmtX) (s : State) : Out := .next <| s.sbop p 3 f true false (fun a b _ => sb2 or a b)

/-- SXOR (04 R118, 05 R143). -/
def execSxor (p : Proc) (f : FmtX) (s : State) : Out := .next <| s.sbop p 4 f true false (fun a b _ => sb2 xor a b)

/-- SAND3 (04 R118, 05 R144). -/
def execSand3 (p : Proc) (f : FmtX) (s : State) : Out := .next <| s.sbop p 5 f true true (sb3 (fun a b c => a && b && c))

/-- SOR3 (04 R118, 05 R144). -/
def execSor3 (p : Proc) (f : FmtX) (s : State) : Out := .next <| s.sbop p 6 f true true (sb3 (fun a b c => a || b || c))

/-- SSEL (04 R118, 05 R144). -/
def execSsel (p : Proc) (f : FmtX) (s : State) : Out := .next <| s.sbop p 7 f true true (sb3 (fun a b c => if c then a else b))

/-- SVALID (04 R118, 05 R142). -/
def execSvalid (p : Proc) (f : FmtX) (s : State) : Out := .next <| s.sbop p 9 f false false (fun a _ _ => sbOf a.isSome)

/-- SCONST (04 R118): sa is 0 or 1. -/
def execSconst (p : Proc) (f : FmtX) (s : State) : Out := .next <| 
  s.instr p (wordX 0x28 8 f) (decide (f.sa.toNat < 2) && f.sb == 0 && f.sc == 0) mS 1
    (fun s => .seq (s.setSbr f.sd (sbOf (f.sa == 1))))

/-- SBTOG (04 R118): sd[4] is 0; SBX when sa is invalid. -/
def execSbtog (p : Proc) (f : FmtX) (s : State) : Out := .next <| 
  s.instr p (wordX 0x28 0xA f) (decide (f.sd.toNat < 16) && f.sb == 0 && f.sc == 0) mS 1 (fun s =>
    match sbVal (s.sbr f.sa) with
    | none => .fail s { code := 0xB, detail := f.sa.toNat }
    | some b => .seq (s.setCpu p ((s.cpu p).w f.sd.toNat (if b then 1 else 0))))

/-- The comparison that SCMP's fn selects (04 R119). -/
def scmpHolds (fn : Nat) (a b : Int) : Bool :=
  match fn with
  | 0 => decide (a = b)
  | 1 => decide (a ≠ b)
  | 2 => decide (a < b)
  | 3 => decide (a ≤ b)
  | 4 => decide (b < a)
  | _ => decide (b ≤ a)

/-- SCMP (04 R119). -/
def execScmp (p : Proc) (f : FmtX) (fn : BitVec 6) (s : State) : Out := .next <|
  s.instr p (wordX 0x29 fn.toNat f) (decide (fn.toNat < 6) && decide (f.sa.toNat < 16) && decide (f.sb.toNat < 16) && f.sc == 0) mS 2
    (fun s =>
      let v :=
        match dualVal ((s.cpu p).r f.sa.toNat), dualVal ((s.cpu p).r f.sb.toNat) with
        | some a, some b => sbOf (scmpHolds fn.toNat a.toInt b.toInt)
        | _, _ => 0
      .seq (s.setSbr f.sd v))

end Sys2Proof.Machine
end

