-- ==== Sys2Proof/Machine/Mem.lean ====
section
/-! DEFINITION. Loads, stores and atomics of the OIS processors (04 R96, R109-R113): the application map, the TCMs, the safety
I/O image and mailbox, the fabric window. -/
namespace Sys2Proof.Machine

/-- Bytes that a load or store moves: codes 0 LDW, 1 LDH, 2 LDHU, 3 LDB, 4 LDBU, 5 STW, 6 STH, 7 STB (04 R109). -/
def memSize (code : Nat) : Nat :=
  match code with
  | 0 | 5 => 4
  | 1 | 2 | 6 => 2
  | _ => 1

/-- What a load writes to rd (04 R109). -/
def loadExt (code n : Nat) : Word :=
  match code with
  | 1 => (BitVec.ofNat 16 n).signExtend 32
  | 2 => (BitVec.ofNat 16 n).setWidth 32
  | 3 => (BitVec.ofNat 8 n).signExtend 32
  | 4 => (BitVec.ofNat 8 n).setWidth 32
  | _ => w32 n

/-- ALIGN, ACCESS and BUS at a data address (04 R126). -/
def excAlign (a : Word) : Exc := { code := 3, eval := a }
def excAccess (a : Word) : Exc := { code := 4, eval := a }
def excBus (status : Nat) (a : Word) : Exc := { code := 5, detail := status, eval := a }

namespace State

/-! ### Loads and stores (04 R96, R109, R110) -/

/-- A load from another device: it waits for the response (04 R110, 21 R546). -/
def remoteLoad (s : State) (k : Fin 4) (rd code : Nat) (a : Word) : Done :=
  let d := remoteDev a
  match s.remoteNow k d with
  | some st => .fail s (excBus st a)
  | none =>
    if s.remoteFull d || !s.tagFree k then .wait s
    else
      let t := s.remoteAsk d k a [] true
      .stay (t.setCpu (.ac k) { t.cpu (.ac k) with run := .waitRemote rd (code + 8 * s.lnk.nextTag.toNat) })

/-- The response of a posted store that is not OK waits to be taken (04 R110): IGNORED only while STRICT is 1 (03 R85). -/
def postResponse (s : State) (k : Fin 4) (status : Nat) (a : Word) : State :=
  if status = stOk ∨ (status = stIgnored ∧ !bit (s.reg (sysB + 4)) k) then s
  else s.setCpu (.ac k) { s.cpu (.ac k) with posted := (s.cpu (.ac k)).posted ++ [(status, a)] }

/-- A posted store to another device. -/
def remoteStore (s : State) (k : Fin 4) (a : Word) (data : List Byte) : Done :=
  let d := remoteDev a
  match s.remoteNow k d with
  | some st => .seq (s.postResponse k st a)
  | none => if s.remoteFull d || !s.tagFree k then .wait s else .seq (s.remoteAsk d k a data false)

/-- A load of an application core; without a free tag it waits (16 R415). -/
def coreLoad (s : State) (k : Fin 4) (rd : BitVec 4) (code : Nat) (a : Word) : Done :=
  match regionOf a.toNat with
  | .remote => s.remoteLoad k rd.toNat code a
  | r =>
    if r = .regs ∧ (s.cpu (.ac k)).st.mode = 0 then .fail s (excAccess a)
    else if !s.tagFree k then .wait s
    else
      let t := s.busRead k a.toNat (memSize code)
      if t.2.1 = stOk then .seq (t.1.setGr (.ac k) rd (loadExt code t.2.2.toNat)) else .fail t.1 (excBus t.2.1 a)

/-- A store of an application core to a register block: it waits for the response (04 R110, 03 R85). -/
def coreRegStore (s : State) (k : Fin 4) (n : Nat) (a v : Word) : Done :=
  if !s.tagFree k then .wait s
  else
  let t := s.busWrite k a.toNat n v
  if t.2 = stOk then .seq t.1
  else if t.2 = stIgnored then (if bit (s.reg (sysB + 4)) k then .fail t.1 { code := 6 } else .seq t.1)
  else .fail t.1 (excBus t.2 a)

/-- A U-mode store to the NV store: no writer column names it (16 R429, R430). Log entry 97, DEDUCED. -/
def userNv (s : State) : State × Nat := (s.satUp (memB + 0x20) 16 16, stIgnored)

/-- A store of an application core. Log entry 102, DEDUCED. -/
def coreStore (s : State) (k : Fin 4) (n : Nat) (a v : Word) : Done :=
  let user := (s.cpu (.ac k)).st.mode == 0
  match regionOf a.toNat with
  | .remote => s.remoteStore k a (bytesOfNat n v.toNat)
  | .regs => if user then .fail s (excAccess a) else s.coreRegStore k n a v
  | r =>
    if !s.tagFree k then .wait s
    else
    let t := if r = .nv ∧ user ∧ !s.revoked k then s.userNv else s.busWrite k a.toNat n v
    .seq (t.1.postResponse k t.2 a)

/-- The effective address (04 R109). -/
def memAddr (s : State) (p : Proc) (f : FmtI) : Word := s.gr p f.ra + sext18 f.imm

/-- A load (04 R109). -/
def load (s : State) (p : Proc) (f : FmtI) (code : Nat) : State :=
  s.instr p (wordI (0x10 + code) f) true mSKU 2 (fun s =>
    let a := s.memAddr p f
    if a.toNat % memSize code ≠ 0 then .fail s (excAlign a)
    else match p with
      | .safety =>
        if isCodeTcm a.toNat || isDataTcm a.toNat then .seq (s.setGr p f.rd (loadExt code (s.tcmGet a.toNat (memSize code))))
        else .fail s (excAccess a)
      | .ac k => s.coreLoad k f.rd code a)

/-- A store (04 R109). -/
def store (s : State) (p : Proc) (f : FmtI) (code : Nat) : State :=
  s.instr p (wordI (0x10 + code) f) true mSKU 2 (fun s =>
    let a := s.memAddr p f
    let n := memSize code
    let v := s.gr p f.rd
    if a.toNat % n ≠ 0 then .fail s (excAlign a)
    else match p with
      | .safety =>
        if isDataTcm a.toNat then .seq (s.tcmPut a.toNat (bytesOfNat n v.toNat)) else .fail s (excAccess a)
      | .ac k => s.coreStore k n a v)

end State

/-- LDW (04 R109). -/
def execLdw (p : Proc) (f : FmtI) (s : State) : Out := .next (s.load p f 0)

/-- LDH (04 R109). -/
def execLdh (p : Proc) (f : FmtI) (s : State) : Out := .next (s.load p f 1)

/-- LDHU (04 R109). -/
def execLdhu (p : Proc) (f : FmtI) (s : State) : Out := .next (s.load p f 2)

/-- LDB (04 R109). -/
def execLdb (p : Proc) (f : FmtI) (s : State) : Out := .next (s.load p f 3)

/-- LDBU (04 R109). -/
def execLdbu (p : Proc) (f : FmtI) (s : State) : Out := .next (s.load p f 4)

/-- STW (04 R109). -/
def execStw (p : Proc) (f : FmtI) (s : State) : Out := .next (s.store p f 5)

/-- STH (04 R109). -/
def execSth (p : Proc) (f : FmtI) (s : State) : Out := .next (s.store p f 6)

/-- STB (04 R109). -/
def execStb (p : Proc) (f : FmtI) (s : State) : Out := .next (s.store p f 7)

/-! ### The safety I/O image and the mailbox (04 R111) -/

namespace State

/-- The address of an IOLD or IOST. -/
def ioAddr (s : State) (p : Proc) (f : FmtI) : Word :=
  (if bit f.imm 17 then 0x00300000 else 0x00200000) + s.gr p f.ra + 4 * w32 (fld f.imm 0 17)

end State

/-- IOLD (04 R111; 05 R148-R155): a word that cannot be read yet leaves the processor waiting for it. -/
def execIold (p : Proc) (f : FmtI) (s : State) : Out := .next <|
  s.instr p (wordI 0x18 f) true mS 4 (fun s =>
    let a := s.ioAddr p f
    if a.toNat % 4 ≠ 0 then .fail s (excAlign a)
    else match s.ioRead a.toNat with
      | .value w => .seq (s.setGr p f.rd w)
      | .wait => .stay { s with sp := { s.sp with run := .waitRead f.rd.toNat a.toNat } }
      | .bad => .fail s (excAccess a))

/-- IOST (04 R111; 05 R148-R156). -/
def execIost (p : Proc) (f : FmtI) (s : State) : Out := .next <|
  s.instr p (wordI 0x19 f) true mS 4 (fun s =>
    let a := s.ioAddr p f
    if a.toNat % 4 ≠ 0 then .fail s (excAlign a)
    else match s.ioWrite a.toNat (s.gr p f.rd) with
      | some t => .seq t
      | none => .fail s (excAccess a))

/-! ### The fabric window (04 R112) -/

namespace State

/-- The application address of a window access. -/
def winAddr (s : State) (p : Proc) (f : FmtI) : Word := s.memAddr p f &&& 0x7FFFFFFF

/-- The runtime's own code: pc below RTEND (04 R112). -/
def inRuntime (s : State) : Bool := decide (s.sp.pc.toNat < s.sp.rtend.toNat)

/-- Queue q has a slot that the window holds reserved and that admits the address: a word of the slot, or PUSHq (04 R112). -/
def winQueue (s : State) (a q : Nat) : Bool :=
  (s.queue q).slots.any (fun e => e.st == .reserved 4
    && ((decide (s.qSlotAddr q e.idx ≤ a) && decide (a < s.qSlotAddr q e.idx + s.qEsz q)) || a == queB + 0x2004 + 32 * q))

/-- FWST may write the address. -/
def winWritable (s : State) (a : Nat) : Bool := (upFrom 128 0).any (s.winQueue a)

/-- The response of a posted FWST that is DECODE or ERROR, which arrives before the next instruction (04 R112, R127; log
entry 36, DEDUCED). -/
def winPosted (s : State) (p : Proc) (status : Nat) (a : Word) : Done :=
  if status = stOk ∨ status = stIgnored then .seq s
  else
    let t := s.flowOn p (s.cpu p).pc
    .stay (t.enterExc p (excBus status a) true (t.cpu p).pc)

end State

/-- FWLD (04 R112). Log entry 140, DEDUCED. -/
def execFwld (p : Proc) (f : FmtI) (s : State) : Out := .next <|
  s.instr p (wordI 0x1A f) true mS 64 (fun s =>
    let a := s.winAddr p f
    if a.toNat % 4 ≠ 0 then .fail s (excAlign a)
    else if !s.inRuntime then .fail s (excAccess a)
    else
      let t := s.busRead 4 a.toNat 4
      if t.2.1 = stOk then .seq (t.1.setGr p f.rd t.2.2) else .fail t.1 (excBus t.2.1 a))

/-- FWST (04 R112). Log entry 140, DEDUCED. -/
def execFwst (p : Proc) (f : FmtI) (s : State) : Out := .next <|
  s.instr p (wordI 0x1B f) true mS 16 (fun s =>
    let a := s.winAddr p f
    if a.toNat % 4 ≠ 0 then .fail s (excAlign a)
    else if !s.inRuntime || !s.winWritable a.toNat then .fail s (excAccess a)
    else
      let t := s.busWrite 4 a.toNat 4 (s.gr p f.rd)
      t.1.winPosted p t.2 a)

/-- FABRIC_WINDOW_TIMEOUT (04 R112): the response of an FWLD or FWST does not come within 500 ns. An FWST is posted, so its BUS is
imprecise; the word it would have stored is not stored. Log entry 126, DEDUCED. -/
def execFabricWindowTimeout (x : WindowAccess) (s : State) : Out := .next <|
  s.instr .safety (wordI (if x.store then 0x1B else 0x1A) x.f) true mS (if x.store then 16 else 64) (fun s =>
    let a := s.winAddr .safety x.f
    if a.toNat % 4 ≠ 0 then .fail s (excAlign a)
    else if !s.inRuntime || (x.store && !s.winWritable a.toNat) then .fail s (excAccess a)
    else if x.store then s.winPosted .safety 0x0100 a
    else .fail s (excBus 0x0100 a))

/-! ### Atomics (04 R113) -/

namespace State

/-- An AMO: the word at ra becomes `new` of its old value, when that is given; then `post` acts on the registers. -/
def amo (s : State) (p : Proc) (fn : Nat) (f : FmtR) (new : Word → Option Word) (setsZ : Bool) : State :=
  s.instr p (wordR 0x1C fn f) (f.aux == 0) mKU 8 (fun s =>
    let a := s.gr p f.ra
    if a.toNat % 4 ≠ 0 then .fail s (excAlign a)
    else if regionOf a.toNat ≠ .work ∧ regionOf a.toNat ≠ .sram then .fail s (excAccess a)
    else match p with
      | .safety => .seq s
      | .ac k =>
        if !s.tagFree k then .wait s
        else
        let t := s.busRead k a.toNat 4
        if t.2.1 ≠ stOk then .fail t.1 (excBus t.2.1 a)
        else
          let old := t.2.2
          let u := match new old with
            | some w => (t.1.busWrite k a.toNat 4 w).1
            | none => t.1
          let u := u.setGr p f.rd old
          .seq (if setsZ then u.setZ p (new old).isSome else u))

end State

/-- AMOSWAP (04 R113). -/
def execAmoswap (p : Proc) (f : FmtR) (s : State) : Out := .next <|
  s.amo p 0 f (fun _ => some (s.gr p f.rb)) false

/-- AMOADD (04 R113). -/
def execAmoadd (p : Proc) (f : FmtR) (s : State) : Out := .next <|
  s.amo p 1 f (fun old => some (old + s.gr p f.rb)) false

/-- AMOCAS (04 R113): Z tells whether the store was made. -/
def execAmocas (p : Proc) (f : FmtR) (s : State) : Out := .next <|
  s.amo p 2 f (fun old => if old = s.gr p f.rd then some (s.gr p f.rb) else none) true

/-! ### Safe booleans of the image (04 R120; 05 R148) -/

/-- The index names a populated safe boolean of the image. -/
def sbPopulated (i : Nat) : Bool :=
  decide (i < 76) || (decide (96 ≤ i) && decide (i < 108)) || (decide (128 ≤ i) && decide (i < 131))
    || (decide (144 ≤ i) && decide (i < 160))

/-- The index names an output demand, which alone is writable. -/
def sbWritable (i : Nat) : Bool := decide (64 ≤ i) && decide (i < 76)

/-- The image index of an SBIO. -/
def sbIndex (f : FmtX) : Nat := f.sa.toNat * 32 + f.sb.toNat

/-- SBIN (04 R120). -/
def execSbin (p : Proc) (f : FmtX) (s : State) : Out := .next <|
  s.instr p (wordX 0x2A 0 f) (f.sc == 0) mS 4 (fun s =>
    let i := sbIndex f
    if sbPopulated i then .seq (s.setSbr f.sd (s.imgSb i)) else .fail s (excAccess (w32 i)))

/-- SBOUT (04 R120): an invalid sd is stored as false. -/
def execSbout (p : Proc) (f : FmtX) (s : State) : Out := .next <|
  s.instr p (wordX 0x2A 1 f) (f.sc == 0) mS 4 (fun s =>
    let i := sbIndex f
    if sbWritable i then
      .seq (s.setImgSb i (match sbVal (s.sbr f.sd) with | some b => sbOf b | none => 1))
    else .fail s (excAccess (w32 i)))

/-! ### Sessions (04 R121) -/

namespace State

/-- An SES instruction with the function code fn: word-aligned data TCM address, session configured for channel A in the direction
wanted. -/
def sesInstr (s : State) (p : Proc) (fn : Nat) (f : FmtS) (tx : Bool) (op : State → Nat → Nat → State) : State :=
  s.instr p (wordS fn f) (f.ra == 0 && decide (f.imm.toNat < 512)) mS 8 (fun s =>
    let a := s.gr p f.rd
    let v := s.sess f.imm.toNat
    if a.toNat % 4 ≠ 0 then .fail s (excAlign a)
    else if !(isDataTcm a.toNat && isDataTcm (a.toNat + 15)) || !v.cfgA || v.tx != tx then .fail s (excAccess a)
    else .seq (op s a.toNat f.imm.toNat))

/-- The payload of a receive session for this cycle (12 R344, R351). -/
def sesPayload (s : State) (n : Nat) : List Byte :=
  let c := (s.sess n).a
  if c.live then padTo 16 c.deliv else fsvBytes (s.sesFsv false n)

end State

/-- SSEND (04 R121): it replaces a payload already sent in this cycle. -/
def execSsend (p : Proc) (f : FmtS) (s : State) : Out := .next <|
  s.sesInstr p 0 f true (fun s a n =>
    { s with chA := { s.chA with sent := put [] s.chA.sent n ((upFrom 16 a).map (fun i => look 0 s.chA.tcm i)) } })

/-- SRECV (04 R121): Z tells that the fail-safe values were delivered. -/
def execSrecv (p : Proc) (f : FmtS) (s : State) : Out := .next <|
  s.sesInstr p 1 f false (fun s a n => (s.tcmPut a (s.sesPayload n)).setZ p (!(s.sess n).a.live))

end Sys2Proof.Machine
end

