-- ==== Sys2Proof/Machine/Task.lean ====
section
/-! DEFINITION. The hardware task contexts of the application cores (04 R131-R136): the TASK instructions and the wake-up. -/
namespace Sys2Proof.Machine

/-- The attribute word of a context (04 R132). -/
def Ctx.attr (c : Ctx) : Word := at_ 0 3 c.cls.toNat ||| at_ 4 2 c.energy.toNat ||| at_ 8 4 c.affin.toNat

/-- A value allowed as attributes (04 R132): CLASS 1 to 4, AFFIN not 0; a write of the reserved bits has no effect (03 R69). -/
def attrOk (w : Word) : Bool := decide (1 ≤ fld w 0 3) && decide (fld w 0 3 ≤ 4) && fld w 8 4 != 0

def Ctx.setAttr (c : Ctx) (w : Word) : Ctx :=
  { c with cls := BitVec.ofNat 3 (fld w 0 3), energy := BitVec.ofNat 2 (fld w 4 2), affin := BitVec.ofNat 4 (fld w 8 4) }

/-- pc is a multiple of 4 (04 R93). Log entry 128, DESIGN CHOICE. -/
def alignPc (w : Word) : Word := w &&& 0xFFFFFFFC

namespace State

/-- The state code of a context (04 R131). -/
def ctxCode (s : State) (x : Nat) : Nat :=
  match (s.ctx x).state with
  | .free => 0 | .held => 1 | .ready => 2 | .running => 3 | .waiting => 4

/-- The core on which a context is RUNNING. -/
def runsOn (s : State) (x : Nat) : Option Nat := firstIdx (fun k => (s.core k).task == some x) 4 0

/-- A context with the registers it has at present: those of its core while it is RUNNING. -/
def ctxNow (s : State) (x : Nat) : Ctx :=
  let c := s.ctx x
  match s.runsOn x with
  | none => c
  | some k => let p := s.core k; { c with g := p.g, pc := p.pc, st := p.st, rets := p.rets, loops := p.loops }

/-- The status word of a context. -/
def ctxSt (c : Ctx) : Word := Cpu.stWord { st := c.st, rets := c.rets, loops := c.loops }

/-- A TASK instruction: fields it does not name are 0 (04 R122). -/
def taskInstr (s : State) (p : Proc) (f : FmtR) (fn cost : Nat) (legal : Bool) (modes : List Nat) (op : State → Nat → Done) : State :=
  s.instr p (wordR 0x3E fn f) legal modes cost (fun s =>
    match p with
    | .ac k => op s k.val
    | .safety => .seq s)

/-- A context number above 63 raises ACCESS (04 R134). -/
def withCtx (s : State) (p : Proc) (f : FmtR) (op : Nat → Done) : Done :=
  let x := s.gr p f.ra
  if 63 < x.toNat then .fail s { code := 4, eval := x } else op x.toNat

/-- The instruction at pc completes and Z is written; then `next` acts on the state (04 R133). -/
def doneZ (s : State) (p : Proc) (z : Bool) (next : State → State) : Done :=
  .stay (next ((s.setZ p z).flowOn p (s.cpu p).pc))

/-- The contexts in FREE, in rising order. -/
def freeCtxs (s : State) : List Nat := (upFrom 64 0).filter (fun x => (s.ctx x).state == .free)

/-- TKILL of a context that is not FREE and not the caller's own (04 R135). -/
def kill (s : State) (x : Nat) : State :=
  match s.runsOn x with
  | some j => s.killOn j
  | none => (s.unready x).setCtx x {}

/-- The running context of core k is freed (04 R133). -/
def exitCtx (s : State) (k : Nat) : State :=
  match (s.core k).task with
  | some x => (s.setCtx x {}).leaveCtx k
  | none => s.leaveCtx k

/-- Field aux of a context (04 R133); none for a number that names no field. -/
def ctxField (s : State) (x aux : Nat) : Option Word :=
  let c := s.ctxNow x
  if aux = 0 then some (w32 (s.ctxCode x))
  else if aux = 1 then some c.pc
  else if aux = 2 then some (ctxSt c)
  else if aux = 3 then some c.attr
  else if 0x11 ≤ aux ∧ aux ≤ 0x1F then some (look 0 c.g (aux - 0x10))
  else none

/-- A field of a context written (04 R133): ST within the limits of R94. A READY context whose attributes change is placed anew (17
R453). Log entry 127, DESIGN CHOICE. -/
def setCtxField (s : State) (x aux : Nat) (v : Word) : State :=
  let c := s.ctx x
  if aux = 1 then s.setCtx x { c with pc := alignPc v }
  else if aux = 2 then
    s.setCtx x { c with st := { StBits.ofWord v with mode := c.st.mode, exc := c.st.exc } }
  else if aux = 3 then
    if c.state = .ready then ((s.unready x).setCtx x (c.setAttr v)).enqueue x else s.setCtx x (c.setAttr v)
  else s.setCtx x { c with g := put 0 c.g (aux - 0x10) v }

end State

/-- TNEW (04 R133, R134): which FREE context is a free choice of the arbiter (log entry 1, DESIGN CHOICE). -/
def execTnew (p : Proc) (f : FmtR) (s : State) : Out := .next <|
  s.taskInstr p f 0 8 (f.aux == 0) mK (fun s _ =>
    let attr := s.gr p f.rb
    match s.freeCtxs with
    | [] => .seq ((s.setGr p f.rd 0xFFFFFFFF).setZ p false)
    | x :: xs =>
      if !attrOk attr then .seq (s.setZ p false)
      else
        let n := (x :: xs).getD ((Config.freeWord s.fresh).toNat % (xs.length + 1)) x
        let c : Ctx := { state := .held, pc := alignPc (s.gr p f.ra) }
        .seq (((s.drawn.setCtx n (c.setAttr attr)).setGr p f.rd (w32 n)).setZ p true))

/-- TRUN (04 R133, R134). -/
def execTrun (p : Proc) (f : FmtR) (s : State) : Out := .next <|
  s.taskInstr p f 1 4 (f.rd == 0 && f.rb == 0 && f.aux == 0) mK (fun s _ =>
    s.withCtx p f (fun x =>
      if (s.ctx x).state = .held then s.doneZ p true (fun s => s.makeReady x) else s.doneZ p false id))

/-- TYIELD (04 R133): to the tail of its ready queue, then dispatch. -/
def execTyield (p : Proc) (f : FmtR) (s : State) : Out := .next <|
  s.taskInstr p f 2 4 (f.rd == 0 && f.ra == 0 && f.rb == 0 && f.aux == 0) mKU (fun s k =>
    let s := s.flowOn p (s.cpu p).pc
    match (s.core k).task with
    | none => .stay (s.leaveCtx k)
    | some x =>
      let s := s.saveCtx k x
      let c := (s.ctx x).cls.toNat
      let s := (s.setReady k c (s.readyList k c ++ [x])).setCtx x { s.ctx x with state := .ready, core := k }
      .stay (s.leaveCtx k).settleReady)

/-- TWAITQ (04 R133, R136): ACCESS on a queue the core does not own; without a context there is nothing to wait. -/
def execTwaitq (p : Proc) (f : FmtR) (s : State) : Out := .next <|
  s.taskInstr p f 3 4 (f.rd == 0 && f.rb == 0 && f.aux == 0) mKU (fun s k =>
    let q := (s.gr p f.ra).toNat
    if 127 < q ∨ !s.qOwned q ∨ s.qOwner q ≠ k then .fail s { code := 4, eval := s.gr p f.ra }
    else if s.qAvail q then .seq s
    else
      match (s.core k).task with
      | none => .seq s
      | some x =>
        let s := (s.flowOn p (s.cpu p).pc).saveCtx k x
        .stay ((s.setCtx x { s.ctx x with state := .waiting, waitQ := q }).leaveCtx k))

/-- TEXIT (04 R133). -/
def execTexit (p : Proc) (f : FmtR) (s : State) : Out := .next <|
  s.taskInstr p f 4 4 (f.rd == 0 && f.ra == 0 && f.rb == 0 && f.aux == 0) mKU (fun s k => .stay (s.exitCtx k))

/-- TKILL (04 R133-R135): of the caller's own context it acts as TEXIT. -/
def execTkill (p : Proc) (f : FmtR) (s : State) : Out := .next <|
  s.taskInstr p f 5 8 (f.rd == 0 && f.rb == 0 && f.aux == 0) mK (fun s k =>
    s.withCtx p f (fun x =>
      if (s.ctx x).state = .free then s.doneZ p false id
      else if (s.core k).task = some x then .stay (s.exitCtx k)
      else s.doneZ p true (fun s => s.kill x)))

/-- TGET (04 R133, R134). -/
def execTget (p : Proc) (f : FmtR) (s : State) : Out := .next <|
  s.taskInstr p f 6 4 (f.rb == 0 && (decide (f.aux.toNat ≤ 3) || (decide (0x11 ≤ f.aux.toNat) && decide (f.aux.toNat ≤ 0x1F)))) mK
    (fun s _ =>
      s.withCtx p f (fun x =>
        if (s.ctx x).state = .free then .seq (s.setZ p false)
        else match s.ctxField x f.aux.toNat with
          | some v => .seq ((s.setGr p f.rd v).setZ p true)
          | none => .seq (s.setZ p false)))

/-- TSET (04 R133, R134). -/
def execTset (p : Proc) (f : FmtR) (s : State) : Out := .next <|
  s.taskInstr p f 7 4 (f.rd == 0 && (decide (f.aux.toNat ≤ 3) || (decide (0x11 ≤ f.aux.toNat) && decide (f.aux.toNat ≤ 0x1F)))) mK
    (fun s _ =>
      s.withCtx p f (fun x =>
        let v := s.gr p f.rb
        if (s.ctx x).state = .running ∨ f.aux = 0 ∨ (f.aux = 3 ∧ !attrOk v) then .seq (s.setZ p false)
        else if f.aux = 3 then s.doneZ p true (fun s => (s.setCtxField x 3 v).settleReady)
        else .seq ((s.setCtxField x f.aux.toNat v).setZ p true)))

/-- TSELF (04 R133): the running context's number, 0 before the first dispatch (R130 TASK). -/
def execTself (p : Proc) (f : FmtR) (s : State) : Out := .next <|
  s.taskInstr p f 8 1 (f.ra == 0 && f.rb == 0 && f.aux == 0) mKU (fun s k =>
    .seq (s.setGr p f.rd (w32 ((s.core k).task.getD 0))))

/-- TASK_WAKE (04 R133): a context in WAITING whose queue holds a published entry becomes READY. -/
def execTaskWake (k : Fin 64) (s : State) : Out := .next <|
  if (s.ctx k).state = .waiting ∧ s.qAvail (s.ctx k).waitQ then s.makeReady k else s

end Sys2Proof.Machine
end

