-- ==== Sys2Proof/Machine/Sys.lean ====
section
/-! DEFINITION. System instructions (04 R122-R130), interrupts, imprecise bus errors and the halt of a processor (04 R125-R129;
21 R537). -/
namespace Sys2Proof.Machine

namespace State

/-- No field but those named is used. -/
def plainR (f : FmtR) : Bool := f.rd == 0 && f.ra == 0 && f.rb == 0 && f.aux == 0

/-! ### Halting (04 R125, 21 R536, R537) -/

/-! ### Posted stores and FENCE (04 R110, R123) -/

/-- A posted store of core k awaits its response. -/
def storesPending (s : State) (k : Nat) : Bool :=
  !(s.core k).posted.isEmpty || s.lnk.remote.any (fun r => r.core == k && !r.isLoad)

/-- A FENCE that waits ends once every response has come. -/
def fenceDone (s : State) (k : Fin 4) : State :=
  let c := s.cpu (.ac k)
  if c.run = .waitFence ∧ !s.storesPending k then
    (((s.setCpu (.ac k) { c with run := .running }).flowOn (.ac k) c.pc).settleStep (.ac k)).goesOn k
  else s

/-! ### Special registers (04 R130) -/

/-- The number names a special register of the processor. -/
def specialOk (p : Proc) (n : Nat) : Bool :=
  match p with
  | .safety => decide (n < 4) || n == 7 || n == 8
  | .ac _ => decide (n < 8)

/-- A special register as read. -/
def special (s : State) (p : Proc) (n : Nat) : Word :=
  let c := s.cpu p
  match n with
  | 0 => c.epc
  | 1 => c.est
  | 2 => c.ecause
  | 3 => c.eval
  | 4 => c.vbase
  | 5 => (match p with | .ac k => w32 k.val | .safety => 0)
  | 6 => w32 (c.task.getD 0)
  | 7 => c.scratch
  | _ => c.rtend

/-- A special register written; none where the write has no effect. Log entry 94, DEDUCED. Log entry 95, DEDUCED. -/
def setSpecial (s : State) (p : Proc) (n : Nat) (v : Word) : Option State :=
  let c := s.cpu p
  match n with
  | 0 => some (s.setCpu p { c with epc := v })
  | 1 => some (s.setCpu p { c with est := v &&& 0x7FFF })
  | 4 => some (s.setCpu p { c with vbase := v &&& 0xFFFFFF00 })
  | 7 => some (s.setCpu p { c with scratch := v })
  | 8 => if c.rtendSet then none else some (s.setCpu p { c with rtend := v, rtendSet := true })
  | _ => none

/-- What MTST leaves of the status word (04 R94): the flags, and IE in K-mode. -/
def mtstBits (st : StBits) (v : Word) : StBits :=
  let w := StBits.ofWord v
  let t := { st with z := w.z, n := w.n, c := w.c, v := w.v }
  if st.mode = 1 then { t with ie := w.ie } else t

/-- The processor state after RFE (04 R117, R123, R127). -/
def rfeCpu (c : Cpu) : Cpu :=
  { c with pc := c.epc, st := { StBits.ofWord c.est with exc := false }, loops := c.loops.filter (fun e => !e.exc) }

/-- What follows RFE on core k: a core that had no context stops again; another goes on, unless it is denied or preempted (04 R136,
17 R450). -/
def afterRfe (s : State) (k : Nat) : State :=
  if (s.core k).parked then
    ((s.endGrant (.core k)).onCore k (fun c => { c with parked := false, task := none, run := .idle })).dispatchNext k
  else s.goesOn k

end State

/-- NOP (04 R123). -/
def execNop (p : Proc) (f : FmtR) (s : State) : Out := .next <|
  s.instr p (wordR 0x3F 0 f) (State.plainR f) mSKU 1 (fun s => .seq s)

/-- TRAP (04 R123, R127): the instruction's effect is its exception, with aux in DETAIL. -/
def execTrap (p : Proc) (f : FmtR) (s : State) : Out := .next <|
  s.instr p (wordR 0x3F 1 f) (f.rd == 0 && f.ra == 0 && f.rb == 0) mKU 4 (fun s => .fail s { code := 8, detail := f.aux.toNat })

/-- RFE (04 R95, R117, R123). Log entry 60, DEDUCED. -/
def execRfe (p : Proc) (f : FmtR) (s : State) : Out := .next <|
  s.instr p (wordR 0x3F 2 f) (State.plainR f) mK 4 (fun s =>
    let c := s.cpu p
    if 2 ≤ fld c.est 4 2 then .fail s { code := 1, eval := wordR 0x3F 2 f }
    else if c.epc.toNat % 4 ≠ 0 then .fail s (excAlign c.epc)
    else
      let t := s.setCpu p (State.rfeCpu c)
      match p with
      | .safety => .stay t
      | .ac k => .stay (t.afterRfe k))

/-- MFST (04 R123). -/
def execMfst (p : Proc) (f : FmtR) (s : State) : Out := .next <|
  s.instr p (wordR 0x3F 4 f) (f.ra == 0 && f.rb == 0 && f.aux == 0) mSKU 1 (fun s => .seq (s.setGr p f.rd (s.cpu p).stWord))

/-- MTST (04 R94, R123). -/
def execMtst (p : Proc) (f : FmtR) (s : State) : Out := .next <|
  s.instr p (wordR 0x3F 5 f) (f.rd == 0 && f.rb == 0 && f.aux == 0) mSKU 1 (fun s =>
    .seq (s.setSt p (State.mtstBits (s.cpu p).st (s.gr p f.ra))))

/-- MFSR (04 R123, R130). -/
def execMfsr (p : Proc) (f : FmtR) (s : State) : Out := .next <|
  s.instr p (wordR 0x3F 6 f) (f.ra == 0 && f.rb == 0 && State.specialOk p f.aux.toNat) mSK 2 (fun s =>
    .seq (s.setGr p f.rd (s.special p f.aux.toNat)))

/-- MTSR (04 R123, R130): in S-mode only below RTEND, but for the first write of RTEND; a write without effect sets V. -/
def execMtsr (p : Proc) (f : FmtR) (s : State) : Out := .next <|
  s.instr p (wordR 0x3F 7 f) (f.rd == 0 && f.rb == 0 && State.specialOk p f.aux.toNat) mSK 2 (fun s =>
    let n := f.aux.toNat
    let c := s.cpu p
    if c.st.mode = 2 ∧ !(decide (c.pc.toNat < c.rtend.toNat) || (n == 8 && !c.rtendSet)) then .fail s (excAccess (w32 n))
    else match s.setSpecial p n (s.gr p f.ra) with
      | some t => .seq t
      | none => .seq (s.setSt p { c.st with v := true }))

/-- FENCE (04 R123): it completes when no posted store awaits its response. Log entry 92, DEDUCED. -/
def execFence (p : Proc) (f : FmtR) (s : State) : Out := .next <|
  s.instr p (wordR 0x3F 8 f) (State.plainR f) mSKU 2 (fun s =>
    match p with
    | .safety => .seq s
    | .ac k => if s.storesPending k then .stay (s.setCpu p { s.cpu p with run := .waitFence }) else .seq s)

/-- WFI (04 R123): the processor stops until an interrupt is pending. -/
def execWfi (p : Proc) (f : FmtR) (s : State) : Out := .next <|
  s.instr p (wordR 0x3F 9 f) (State.plainR f) mK 1 (fun s =>
    let t := s.flowOn p (s.cpu p).pc
    .stay (t.setCpu p { t.cpu p with run := .waitInt }))

/-- BRK (04 R125, 21 R537): it halts for an attached debugger that may halt the processor. Log entry 27, DEDUCED. -/
def execBrk (p : Proc) (f : FmtR) (s : State) : Out := .next <|
  s.instr p (wordR 0x3F 0xA f) (State.plainR f) mSKU 1 (fun s =>
    if s.dbg.sel.isSome && s.haltAllowed p then .stay ((s.flowOn p (s.cpu p).pc).haltNow p)
    else .fail s { code := 9 })

/-- CYCEND (04 R124; 05 R159): the safety processor waits for its next strobe. -/
def execCycend (p : Proc) (f : FmtR) (s : State) : Out := .next <|
  s.instr p (wordR 0x3F 0xB f) (f.rd == 0 && f.ra == 0 && f.rb == 0 && f.aux == 0) mS 1 (fun s =>
    .stay { s.setCpu p { s.cpu p with run := .waitStrobe } with chA := { s.chA with phase := .idle } })

/-! ### Interrupts and imprecise errors (04 R126-R129) -/

namespace State

/-- The core is between two instructions and takes what stands; a core without a context does so as well (17 R450). -/
def atBoundary (s : State) (k : Fin 4) : Bool :=
  match (s.cpu (.ac k)).run with
  | .running | .waitInt | .idle => true
  | _ => false

end State

/-- INTERRUPT (04 R126-R129). Log entry 15, DESIGN CHOICE. -/
def execInterrupt (core : Fin 4) (n : BitVec 6) (s : State) : Out := .next <|
  if s.atBoundary core && s.irqOpen core && s.irqPending core n.toNat then s.takeIrq core n.toNat else s

/-- IMPRECISE_BUS (04 R110, R127, R128): the oldest response of a posted store that is not OK arrives. It is taken at the boundary,
or by a FENCE that waits for it; within another instruction it waits. Log entry 93, DEDUCED. -/
def execImpreciseBus (core : Fin 4) (s : State) : Out := .next <|
  let p := Proc.ac core
  let c := s.cpu p
  let t := match c.posted with
    | [] => s
    | e :: rest => s.setCpu p { c with posted := rest, due := c.due ++ [e] }
  match (t.cpu p).due with
  | [] => t
  | (st, a) :: rest =>
    if t.atBoundary core || c.run == .waitFence then (t.setCpu p { t.cpu p with due := rest }).takePosted core st a else t

/-- BREAKPOINT_HIT (21 R537): the slot holds the address of the next instruction. -/
def execBreakpointHit (p : Proc) (slot : Fin 4) (s : State) : Out := .next <|
  if s.breaksAt p slot ∧ s.executes p then s.breakNow p else s

end Sys2Proof.Machine
end

