-- ==== Sys2Proof/Machine/Host.lean ====
section
/-! DEFINITION. The host port and the debug port (21 R523-R538). -/
namespace Sys2Proof.Machine
namespace State

/-! ### The host port (21 R523-R529) -/

/-- The host port answers (21 R528). -/
def hostLive (s : State) : Bool :=
  match s.md.mode with
  | .off | .reset | .start => false
  | _ => true

/-- A new transaction: words of a READ whose start byte was not sent are discarded, fetched or not (21 R526). -/
def hostBegin (s : State) : State := { s with host := { s.host with read := none, fetch := none } }

/-- A protocol error (21 R527). -/
def hostProtErr (s : State) : State := (s.setBits hstB (flag 1 true)).drive 179 0

/-- One word of a WRITE leaves the buffer: none while it has to wait for a place at another device. While the port is revoked it is
dropped (21 R525, R527, R546). Log entry 34, DEDUCED. -/
def hostIssue (s : State) (a v : Word) : Option State :=
  if s.revoked 5 then some s
  else if s.asksRemote 5 a then
    if s.remoteOpen 5 a then some (s.remoteAlso (remoteDev a) 5 a (bytesOfWord v) false) else none
  else let r := s.busWrite 5 a.toNat 4 v; some (r.1.hostFail r.2 a)

/-- The word joins those that wait in the buffer. -/
def hostKeep (s : State) (a v : Word) : State := { s with host := { s.host with wbuf := s.host.wbuf ++ [(a, v)] } }

/-- One word of a WRITE: dropped where the buffer of 64 words is full (21 R525); behind words that wait it waits.
Log entry 28, DEDUCED. -/
def hostWord (s : State) (a : Word) (v : Word) (full : Bool) : State :=
  if !s.hostLive then s
  else if full || decide (64 ≤ s.host.wbuf.length) then s.setBits hstB (flag 0 true)
  else if !s.host.wbuf.isEmpty then s.hostKeep a v
  else (s.hostIssue a v).getD (s.hostKeep a v)

/-- The words of a WRITE, to ADDR, ADDR + 4 and onwards. -/
def hostWords : Word → List (Word × Bool) → State → State
  | _, [], s => s
  | a, (v, full) :: ws, s => hostWords (a + 4) ws (s.hostWord a v full)

/-- The words that wait leave in order, as far as they may. -/
def hostDrain : List (Word × Word) → State → State
  | [], s => { s with host := { s.host with wbuf := [] } }
  | (a, v) :: ws, s =>
    match s.hostIssue a v with
    | some t => hostDrain ws t
    | none => { s with host := { s.host with wbuf := (a, v) :: ws } }

/-- A word of a READ answered: one that is not OK counts as 0 (21 R526). -/
def fetchAdd (f : HostFetch) (st : Nat) (w : Word) : HostFetch :=
  { f with addr := f.addr + 4, idx := f.idx + 1, left := f.left - 1, tag := none, worst := max f.worst st
           words := f.words ++ [if st = stOk then w else 0], first := if st = stOk ∨ f.worst ≠ stOk then f.first else f.idx }

/-- The words of a READ fetched in order, as far as they come at once; a word of another device is asked for, and waits for its
response (21 R526, R546). Log entry 90, DEDUCED. -/
def hostFetch : Nat → HostFetch → State → State
  | 0, f, s => { s with host := { s.host with fetch := none, read := some (f.words, f.worst, f.first) } }
  | k + 1, f, s =>
    if s.asksRemote 5 f.addr then
      if s.remoteOpen 5 f.addr then
        let t := s.remoteAlso (remoteDev f.addr) 5 f.addr [] true
        { t with host := { t.host with fetch := some { f with tag := some s.lnk.nextTag } } }
      else { s with host := { s.host with fetch := some f } }
    else
      let r := s.busRead 5 f.addr.toNat 4
      hostFetch k (fetchAdd f r.2.1 r.2.2) r.1

/-- The response to a word of a READ. -/
def hostLoaded (s : State) (tag : BitVec 32) (st : Nat) (w : Word) : State :=
  match s.host.fetch with
  | some f => if f.tag = some tag then hostFetch (f.left - 1) (fetchAdd f st w) s else s
  | none => s

/-- A response has made room at another device: what waits at the host port goes on. -/
def hostResume (s : State) : State :=
  let t := hostDrain s.host.wbuf s
  match t.host.fetch with
  | some f => if f.tag.isNone then hostFetch f.left f t else t
  | none => t

/-- HIRQ_N is driven low (21 R529). -/
def hirqLow (s : State) : Bool :=
  let ctl := s.reg (hstB + 4)
  let irq := s.reg (hstB + 8)
  (bit ctl 0 && bit irq 0) || (bit ctl 1 && bit irq 1) || (bit ctl 2 && s.reg (hstB + 0xC) != 0)

end State

/-- HOST_WRITE (21 R525, R527, R528). -/
def execHostWrite (addr : Word) (words : List (Word × Bool)) (s : State) : Out :=
  .next (s.hostBegin.sending (State.hostWords addr words))

/-- HOST_READ (21 R526-R528): a COUNT of 0 or above 64 is a protocol error. -/
def execHostRead (addr : Word) (count : BitVec 8) (s : State) : Out := .next <|
  let s := s.hostBegin
  if !s.hostLive then s
  else if count = 0 ∨ 64 < count.toNat then s.hostProtErr
  else s.sending (State.hostFetch count.toNat { addr := addr, left := count.toNat })

/-- HOST_READ_START_BYTE (21 R526): every word fetched, the status byte and the words are sent. -/
def execHostReadStartByte (s : State) : Out := .next <|
  match s.host.read with
  | none => s
  | some (ws, worst, first) => s.hostBegin.answer worst ((at_ 0 2 worst ||| at_ 2 6 first) :: ws)

/-- HOST_STATUS (21 R524, R527). -/
def execHostStatus (s : State) : Out := .next <|
  let s := s.hostBegin
  if s.hostLive then s.answer stOk [s.hstStat] else s

/-- HOST_PROTOCOL_ERROR (21 R527). -/
def execHostProtocolError (s : State) : Out := .next <|
  let s := s.hostBegin
  if s.hostLive then s.hostProtErr else s

/-! ### The debug port (21 R533-R538) -/

/-- The processor that a SELECT names. -/
def procOf (n : Nat) : Option Proc :=
  match n with
  | 0 => some (.ac 0)
  | 1 => some (.ac 1)
  | 2 => some (.ac 2)
  | 3 => some (.ac 3)
  | 4 => some .safety
  | _ => none

/-- The replies' ACK codes (21 R534). -/
abbrev ackDone : Nat := 0
abbrev ackWait : Nat := 1
abbrev ackRefused : Nat := 2
abbrev ackCrc : Nat := 3

namespace State

def isHalted (s : State) (p : Proc) : Bool := match (s.cpu p).run with | .halted _ => true | _ => false

/-- The selected processor. -/
def dbgProc (s : State) : Option Proc := s.dbg.sel.bind procOf

/-- The reply (21 R533, R534): FAB shows the command's own status, or else that of the last WRMEM. Log entry 91, DEDUCED. -/
def dbgReply (s : State) (ack fab : Nat) (data : Word) : State :=
  let h := match s.dbgProc with | some p => s.isHalted p || (s.cpu p).stepping | none => false
  let f := if fab = 0 then s.dbg.fab else fab
  { s with dbg := { s.dbg with status := BitVec.ofNat 8 (ack + 4 * f + 16 * h.toNat), data := data, fab := 0 } }

/-- Commands at a processor are allowed (21 R536); without the life-cycle state, which START senses, none is.
Log entry 38, DEDUCED. -/
def dbgMay (s : State) (p : Proc) : Bool := s.otp.sensed && s.haltAllowed p

/-- The safety processor is selected and halted: ADDR addresses its private map (21 R535). -/
def dbgPrivate (s : State) : Bool := s.dbgProc == some .safety && s.isHalted .safety

/-- Memory accesses are allowed (21 R536): with any core named, or as commands at the safety processor. -/
def dbgMayMem (s : State) : Bool :=
  if s.dbgPrivate then s.dbgMay .safety
  else s.otp.sensed && s.coreHaltWith ((upFrom 4 0).any s.debugNames)

/-- The CRC of a request or of a reply, over its 40 bits (21 R533). -/
def dbgCrc (head : Byte) (v : Word) : Byte :=
  BitVec.ofNat 8 (crcBytes 8 0x07 0 [head, BitVec.ofNat 8 (fld v 24 8), BitVec.ofNat 8 (fld v 16 8), BitVec.ofNat 8 (fld v 8 8),
    BitVec.ofNat 8 (fld v 0 8)])

/-- The reply's 48 bits: STATUS, DATA and their CRC (21 R533). -/
def dbgReplyBits (s : State) : BitVec 48 := s.dbg.status ++ s.dbg.data ++ dbgCrc s.dbg.status s.dbg.data

/-- A request with its COMMAND, OPERAND and CRC: one with a bad CRC has no effect, one that the rules do not allow is refused (21
R533, R536). -/
def dbgRun (s : State) (cmd : Byte) (operand : Word) (crc : Byte) (allowed : Bool) (op : State → State) : State :=
  if s.md.mode = .off then s
  else if crc ≠ dbgCrc cmd operand then s.dbgReply ackCrc 0 0
  else if allowed then op s
  else s.dbgReply ackRefused 0 0

/-- A request at the selected processor. -/
def dbgAt (s : State) (cmd : Byte) (operand : Word) (crc : Byte) (op : State → Proc → State) : State :=
  s.dbgRun cmd operand crc (match s.dbgProc with | some p => s.dbgMay p | none => false) (fun s =>
    match s.dbgProc with
    | some p => op s p
    | none => s)

/-- The processor is in the middle of an instruction. -/
def midInstr (s : State) (p : Proc) : Bool :=
  match (s.cpu p).run with
  | .waitRead _ _ | .waitRemote _ _ | .waitFence => true
  | _ => false

/-- HALT (21 R537): at the next instruction boundary. -/
def dbgHalt (s : State) (p : Proc) : State :=
  if s.midInstr p then s.dbgReply ackWait 0 0
  else let t := s.haltNow p; t.dbgReply ackDone 0 (t.cpu p).pc

/-- RESUME: the instruction at which a breakpoint has halted the processor executes. -/
def dbgResume (s : State) (p : Proc) : State :=
  let s := s.setCpu p { s.cpu p with past := some (s.cpu p).pc }
  match p with
  | .ac k => (s.resumeCore k).dbgReply ackDone 0 0
  | .safety =>
    (match s.sp.run with
      | .halted r => { s with sp := { s.sp with run := r } }
      | _ => s).dbgReply ackDone 0 0

/-- STEP (21 R537): the processor executes its next instruction, which is the next command at it, and halts again; one that waits
within an instruction answers WAIT. Log entry 38, DEDUCED. -/
def dbgStep (s : State) (p : Proc) : State :=
  let c := s.cpu p
  if s.midInstr p then s.dbgReply ackWait 0 0
  else
    match c.run with
    | .halted .running | .running => (s.setCpu p { c with run := .running, stepping := true, past := some c.pc }).dbgReply ackDone 0 c.pc
    | .halted .waitInt | .waitInt => (s.setCpu p { c with run := .waitInt, stepping := true, past := some c.pc }).dbgReply ackDone 0 c.pc
    | _ => s.dbgReply ackDone 0 c.pc

/-- A register by its debug number (21 R535). -/
def dbgReg (s : State) (p : Proc) (n : Nat) : Option Word :=
  let c := s.cpu p
  if n < 0x10 then some (c.r n)
  else if n = 0x10 then some c.pc
  else if n = 0x11 then some c.stWord
  else if 0x20 ≤ n ∧ n < 0x29 ∧ specialOk p (n - 0x20) then some (s.special p (n - 0x20))
  else if 0x40 ≤ n ∧ n < 0x60 ∧ p = .safety then some ((c.b (n - 0x40)).setWidth 32)
  else none

/-- A register written by its debug number: st within the limits of R94. -/
def dbgSetReg (s : State) (p : Proc) (n : Nat) (v : Word) : State :=
  let c := s.cpu p
  if n < 0x10 then s.setCpu p (c.w n v)
  else if n = 0x10 then s.setCpu p { c with pc := v &&& 0xFFFFFFFC }
  else if n = 0x11 then s.setCpu p { c with st := mtstBits c.st v }
  else if n < 0x40 then (s.setSpecial p (n - 0x20) v).getD s
  else s.setCpu p (c.setB (n - 0x40) (v.setWidth 2))

/-- A word of the safety processor's private map: status and data; none where it cannot be read yet (05; 21 R535).
Log entry 39, DEDUCED. -/
def privRead (s : State) (a : Nat) : Option (State × Nat × Word) :=
  if a % 4 ≠ 0 then some (s, stDecode, 0)
  else if isCodeTcm a || isDataTcm a then some (s, stOk, w32 (s.tcmGet a 4))
  else if 0x80000000 ≤ a then some (s.busRead 6 (a - 0x80000000) 4)
  else if a < 0x200000 then some (s, stDecode, 0)
  else match s.ioRead a with
    | .value w => some (s, stOk, w)
    | .wait => none
    | .bad => some (s, stDecode, 0)

/-- A word written in the private map: the debug port has no write path to a TCM (05 R138). -/
def privWrite (s : State) (a : Nat) (v : Word) : State × Nat :=
  if a % 4 ≠ 0 then (s, stDecode)
  else if isCodeTcm a || isDataTcm a then (s, stIgnored)
  else if 0x80000000 ≤ a then s.busWrite 6 (a - 0x80000000) 4 v
  else if a < 0x200000 then (s, stDecode)
  else match s.ioWrite a v with
    | some t => (t, stOk)
    | none => (s, if s.ioRead a = .bad then stDecode else stIgnored)

/-- ADDR replaced; an answer that was for the address before is dropped. -/
def dbgTo (s : State) (a : Word) : State := { s with dbg := { s.dbg with addr := a, asked := none, got := none } }

/-- ADDR := ADDR + 4. -/
def dbgNext (s : State) : State := s.dbgTo (s.dbg.addr + 4)

/-- RDMEM of another device's memory: WAIT until its data return (21 R535, R546). Log entry 34, DEDUCED. -/
def dbgRemote (s : State) : State :=
  let a := s.dbg.addr
  match s.dbg.got with
  | some (st, w) => s.dbgNext.dbgReply ackDone st (if st = stOk then w else 0)
  | none =>
    if s.dbg.asked.isNone && s.remoteOpen 6 a then
      let t := s.remoteAsk (remoteDev a) 6 a [] true
      { t with dbg := { t.dbg with asked := some s.lnk.nextTag } }.dbgReply ackWait 0 0
    else s.dbgReply ackWait 0 0

/-- RDMEM. -/
def dbgRead (s : State) : State :=
  if !s.dbgPrivate && s.asksRemote 6 s.dbg.addr then s.dbgRemote
  else
  let r := if s.dbgPrivate then s.privRead s.dbg.addr.toNat else some (s.busRead 6 s.dbg.addr.toNat 4)
  match r with
  | none => s.dbgReply ackWait 0 0
  | some (t, st, w) => t.dbgNext.dbgReply ackDone st (if st = stOk then w else 0)

/-- WRMEM: its status appears in the next reply; a write to another device waits for a place there, and its status comes with the
response (21 R535, R546). -/
def dbgWrite (s : State) (v : Word) : State :=
  if !s.dbgPrivate && s.asksRemote 6 s.dbg.addr then
    if s.remoteOpen 6 s.dbg.addr then
      (s.remoteAsk (remoteDev s.dbg.addr) 6 s.dbg.addr (bytesOfWord v) false).dbgNext.dbgReply ackDone 0 0
    else s.dbgReply ackWait 0 0
  else
  let r := if s.dbgPrivate then s.privWrite s.dbg.addr.toNat v else s.busWrite 6 s.dbg.addr.toNat 4 v
  let t := r.1.dbgNext.dbgReply ackDone 0 0
  { t with dbg := { t.dbg with fab := r.2 } }

end State

/-- IDENT (21 R535). -/
def execDbgIdent (operand : Word) (crc : Byte) (s : State) : Out := .next <|
  s.dbgRun 0x01 operand crc true (fun s => s.dbgReply ackDone 0 (s.sysVal 0))

/-- SELECT (21 R535, R536). -/
def execDbgSelect (operand : Word) (crc : Byte) (s : State) : Out := .next <|
  let n := fld operand 0 3
  s.dbgRun 0x02 operand crc (match procOf n with | some p => s.dbgMay p | none => false) (fun s =>
    ({ s with dbg := { s.dbg with sel := some n } }).dbgReply ackDone 0 s.modeWord)

/-- HALT (21 R535, R537). -/
def execDbgHalt (operand : Word) (crc : Byte) (s : State) : Out := .next (s.dbgAt 0x03 operand crc (fun s p => s.dbgHalt p))

/-- RESUME (21 R535). -/
def execDbgResume (operand : Word) (crc : Byte) (s : State) : Out := .next (s.dbgAt 0x04 operand crc (fun s p => s.dbgResume p))

/-- STEP (21 R535, R537). -/
def execDbgStep (operand : Word) (crc : Byte) (s : State) : Out := .next (s.dbgAt 0x05 operand crc (fun s p => s.dbgStep p))

/-- ARG (21 R535): a value for a command at the selected processor. -/
def execDbgArg (operand : Word) (crc : Byte) (s : State) : Out := .next <|
  s.dbgAt 0x06 operand crc (fun s _ => ({ s with dbg := { s.dbg with arg := operand } }).dbgReply ackDone 0 0)

/-- RDREG (21 R535). -/
def execDbgRdreg (operand : Word) (crc : Byte) (s : State) : Out := .next <|
  s.dbgAt 0x07 operand crc (fun s p =>
    match s.dbgReg p operand.toNat with
    | some v => s.dbgReply ackDone 0 v
    | none => s.dbgReply ackRefused 0 0)

/-- WRREG (21 R535): with the value of ARG. -/
def execDbgWrreg (operand : Word) (crc : Byte) (s : State) : Out := .next <|
  s.dbgAt 0x08 operand crc (fun s p =>
    if (s.dbgReg p operand.toNat).isSome then (s.dbgSetReg p operand.toNat s.dbg.arg).dbgReply ackDone 0 0
    else s.dbgReply ackRefused 0 0)

/-- ADDR (21 R535). -/
def execDbgAddr (operand : Word) (crc : Byte) (s : State) : Out := .next <|
  s.dbgRun 0x10 operand crc s.dbgMayMem (fun s => (s.dbgTo operand).dbgReply ackDone 0 0)

/-- RDMEM (21 R535). -/
def execDbgRdmem (operand : Word) (crc : Byte) (s : State) : Out := .next (s.dbgRun 0x11 operand crc s.dbgMayMem State.dbgRead)

/-- WRMEM (21 R535). -/
def execDbgWrmem (operand : Word) (crc : Byte) (s : State) : Out := .next <|
  s.dbgRun 0x12 operand crc s.dbgMayMem (fun s => s.dbgWrite operand)

/-- BPSET (21 R535, R537): the slot is ARG[1:0]. -/
def execDbgBpset (operand : Word) (crc : Byte) (s : State) : Out := .next <|
  s.dbgAt 0x13 operand crc (fun s p =>
    let i := State.bpBase p + fld s.dbg.arg 0 2
    ({ s with dbg := { s.dbg with bps := put none s.dbg.bps i (some operand) } }).dbgReply ackDone 0 0)

/-- BPCLR (21 R535): 4 clears every slot. -/
def execDbgBpclr (operand : Word) (crc : Byte) (s : State) : Out := .next <|
  s.dbgAt 0x14 operand crc (fun s p =>
    let is := if operand = 4 then [0, 1, 2, 3] else [fld operand 0 2]
    let f := fun (t : Tab (Option Word)) (i : Nat) => put none t (State.bpBase p + i) none
    ({ s with dbg := { s.dbg with bps := is.foldl f s.dbg.bps } }).dbgReply ackDone 0 0)

/-- DEBUG_PORT_RESET (21 R533): halts and breakpoints stay. -/
def execDebugPortReset (s : State) : Out := .next { s.dbgTo 0 with dbg := { (s.dbgTo 0).dbg with sel := none } }

end Sys2Proof.Machine
end

