-- ==== Sys2Proof/Machine/RidgeRows.lean ====
section
/-! DEFINITION. The commands of the ridge link (21 R539-R547): stop frames, time exchanges, remote memory and queue messages. -/
namespace Sys2Proof.Machine
namespace State

/-! ### Time (21 R545) -/

/-- A completed exchange of TIME frames: the reference aligns to none. -/
def timeFrame (s : State) (ld : Bool) (e : LinkErr) (orig : Nat) (t1 t2 t3 t4 : Stamp) : State :=
  let r := s.linkTake ld e orig
  if r.2 && !s.lnk.reference then r.1.exchange (thetaHalf t1 t2 t3 t4) else r.1

/-- No exchange for 5 ms, or a missed first step: an aligned device loses its alignment with F177, as does one that missed its
step; a device that has found no aligned neighbour becomes the reference. Log entry 77, DEDUCED. -/
def alignTimeout (s : State) (missed : Bool) : State :=
  if !s.linkOn || s.lnk.reference then s
  else if s.lnk.aligned || (missed && !s.lnk.stepped) then s.alignLost
  else if s.lnk.stepped then s
  else { s with lnk := { s.lnk with reference := true } }

/-! ### Remote memory (21 R546) -/

/-- The response to a request: a byte that is 1 for OK, then the word (log entry 35, DESIGN CHOICE). -/
def answerFrame (s : State) (ld : Bool) (orig : Nat) (tag : BitVec 32) (ok : Bool) (v : Word) : State :=
  let f : RidgeFrame := { ld := ld, type := 4, orig := s.lnk.id, dest := orig, tag := tag
                          payload := (if ok then 1 else 0) :: bytesOfWord v }
  s.linkSend [f]

/-- A request of another device is served as master 0x7 within the exposed region, else answered ERROR. -/
def serveRequest (s : State) (ld : Bool) (orig : Nat) (write : Bool) (tag : BitVec 32) (off : Nat) (v : Word) : State :=
  if s.revoked 7 || !s.exposes orig off write then s.answerFrame ld orig tag false 0
  else if write then
    let r := s.ramWrite 7 off (bytesOfWord v)
    r.1.answerFrame ld orig tag (r.2 == stOk) 0
  else
    let r := s.ramRead 7 off 4
    r.1.answerFrame ld orig tag (r.2.1 == stOk) (w32 r.2.2)

/-- The load that core k waited for has ended: a kill that waited for it takes place (04 R135), else the core goes on. -/
def afterWait (s : State) (k : Nat) : State := if (s.core k).killDue then s.killNow k else s.goesOn k

/-- The load or fetch that waits at core k with this tag gets its word, or BUS. -/
def endLoad (s : State) (k : Fin 4) (tag : BitVec 32) (a : Word) (ok : Bool) (v : Word) : State :=
  let c := s.cpu (.ac k)
  match c.run with
  | .waitRemote rd shape =>
    if shape / 8 ≠ tag.toNat then s
    else
      let t := s.setCpu (.ac k) { c with run := .running }
      if !ok then ((t.raiseExc (.ac k) (excBus stError a)).settleStep (.ac k)).afterWait k
      else if shape % 8 = 5 then t.setCpu (.ac k) { t.cpu (.ac k) with ifetch := some v }
      else (((t.setCpu (.ac k) ((t.cpu (.ac k)).w rd (loadExt (shape % 8) v.toNat))).flowOn (.ac k) c.pc).settleStep (.ac k)).afterWait k
  | _ => s

/-- The response of a posted store has come. -/
def endStore (s : State) (k : Fin 4) (a : Word) (ok : Bool) : State :=
  (if ok then s else s.postResponse k stError a).fenceDone k

/-- A request of the host port or of the debug port has its answer (21 R525, R526, R534, R535); one that a core no longer awaits
reaches no one. -/
def endPort (s : State) (r : Remote) (tag : BitVec 32) (st : Nat) (v : Word) : State :=
  match r.core, r.isLoad with
  | 5, true => s.hostLoaded tag st v
  | 5, false => s.hostFail st r.addr
  | 6, true => if s.dbg.asked = some tag then { s with dbg := { s.dbg with asked := none, got := some (st, v) } } else s
  | 6, false => { s with dbg := { s.dbg with fab := st } }
  | _, _ => s

/-- A request of this device ends, with a response or without (21 R546); what waits for its place goes on. -/
def endRequest (s : State) (d : Nat) (tag : BitVec 32) (ok : Bool) (v : Word) : State :=
  match takeRemote d tag s.lnk.remote with
  | none => s
  | some (r, rest) =>
    let t := { s with lnk := { s.lnk with remote := rest } }
    let t :=
      if h : r.core < 4 then
        if r.isLoad then t.endLoad ⟨r.core, h⟩ tag r.addr ok v else t.endStore ⟨r.core, h⟩ r.addr ok
      else t.endPort r tag (if ok then stOk else stError) v
    t.sending hostResume

/-! ### Queue messages (21 R547) -/

/-- An entry arrives for Q92 + RQ; a revoked link writes none, and the entry is lost (16 R425). Log entry 79, DEDUCED.
Log entry 96, DEDUCED. -/
def takeMessage (s : State) (entry : List Byte) : State :=
  let q := 92 + (entry.getD 1 0).toNat % 4
  if s.revoked 7 then s.countUp (queB + 0x2014 + 32 * q) else (s.qPush q entry).1

/-- The oldest entry of Q88 + q leaves for its DEST, or is dropped. -/
def sendMessage (s : State) (q : Nat) : State :=
  if s.revoked 7 || !s.linkOn then s
  else match s.qPop (88 + q) with
    | (t, none) => t
    | (t, some entry) =>
      let d := (entry.getD 0 0).toNat % 8
      if d == t.lnk.id || !bit t.lnk.present d then t.countUp (lnkB + 0x28)
      else t.linkSend [t.frameTo 5 d 0 entry]

end State

/-- STOP (21 R542-R544). -/
def execRidgeStop (ld : Bool) (err : LinkErr) (orig : Fin 8) (lines : BitVec 16) (refresh : Byte) (s : State) : Out :=
  .next (s.stopFrame ld err orig lines refresh)

/-- RIDGE_STOP_SEND (21 R543). -/
def execRidgeStopSend (s : State) : Out := .next (if s.linkOn then s.stopSend else s)

/-- RIDGE_ORIGIN_TIMEOUT (21 R542, R544, R545). -/
def execRidgeOriginTimeout (orig : Fin 8) (s : State) : Out := .next (s.originGone orig)

/-- RIDGE_SIDE_DOWN (21 R542). -/
def execRidgeSideDown (ld : Bool) (s : State) : Out :=
  .next (s.setSide ld { s.side ld with run := 0, up := false })

/-- TIME (21 R545). -/
def execRidgeTime (ld : Bool) (err : LinkErr) (orig : Fin 8) (t1 t2 t3 t4 : Stamp) (s : State) : Out :=
  .next (s.timeFrame ld err orig t1 t2 t3 t4)

/-- RIDGE_ALIGNMENT_TIMEOUT (21 R545). -/
def execRidgeAlignmentTimeout (missedStep : Bool) (s : State) : Out := .next (s.alignTimeout missedStep)

/-- MREQ (21 R546). Log entry 142, DEDUCED. -/
def execRidgeMreq (ld : Bool) (err : LinkErr) (orig : Fin 8) (write : Bool) (tag : BitVec 32) (offset : BitVec 28) (v : Word)
    (s : State) : Out :=
  let r := s.linkTake ld err orig
  .next (if r.2 then r.1.serveRequest ld orig write tag offset.toNat v else r.1)

/-- MRSP (21 R546). -/
def execRidgeMrsp (ld : Bool) (err : LinkErr) (orig : Fin 8) (tag : BitVec 32) (ok : Bool) (v : Word) (s : State) : Out :=
  let r := s.linkTake ld err orig
  .next (if r.2 then r.1.endRequest orig tag ok v else r.1)

/-- RIDGE_REQUEST_TIMEOUT (21 R546). -/
def execRidgeRequestTimeout (dest : Fin 8) (tag : BitVec 32) (s : State) : Out := .next (s.endRequest dest tag false 0)

/-- QMSG (21 R547). -/
def execRidgeQmsg (ld : Bool) (err : LinkErr) (orig : Fin 8) (entry : List Byte) (s : State) : Out :=
  let r := s.linkTake ld err orig
  .next (if r.2 then r.1.takeMessage entry else r.1)

/-- RIDGE_QMSG_SEND (21 R547), under a grant of class 2 (17 R442). -/
def execRidgeQmsgSend (q : Fin 4) (s : State) : Out := .next <|
  if s.qAvail (88 + q) && s.linkOn && !s.revoked 7 then s.underGrant 3 2 (fun t => t.sendMessage q) else s

end Sys2Proof.Machine
end

