-- ==== Sys2Proof/Machine/QueueRows.lean ====
section
/-! DEFINITION. Fabric, queues and memories (16 R417-R434; 23 R576): the queue registers of a master, a fabric response that
does not come, the patrol scrubber, the recorder, and the temperature of a TIO driver. -/
namespace Sys2Proof.Machine

/-- QUEUE_RESERVE (16 R420): master m reads PRODq. -/
def execQueueReserve (m : Fin 10) (q : Fin 128) (s : State) : Out := .next <|
  if s.revoked m then s.answer stError [0] else let r := s.qReserve q m; r.1.answer stOk [r.2]

/-- QUEUE_PUBLISH (16 R420): master m writes PUSHq. -/
def execQueuePublish (m : Fin 10) (q : Fin 128) (addr : Word) (s : State) : Out := .next <|
  if s.revoked m then s.answer stError [] else let r := s.qPublish q m addr; r.1.answer r.2 []

/-- QUEUE_TAKE (16 R421): master m reads CONSq. -/
def execQueueTake (m : Fin 10) (q : Fin 128) (s : State) : Out := .next <|
  if s.revoked m then s.answer stError [0] else let r := s.qTake q m; r.1.answer stOk [r.2]

/-- QUEUE_RELEASE (16 R421): master m writes POPq. -/
def execQueueRelease (m : Fin 10) (q : Fin 128) (addr : Word) (s : State) : Out := .next <|
  if s.revoked m then s.answer stError [] else let r := s.qRelease q m addr; r.1.answer r.2 []

/-- The tag of master m that has waited longest is completed with ERROR (16 R417): the load or fetch that a core waits for, else its
oldest posted store; of the host port or the debug port the oldest request to another device. Log entry 125, DEDUCED. -/
def State.tagTimeout (s : State) (m : Nat) : State :=
  if h : m < 4 then
    match (s.core m).run, s.lnk.remote.find? (fun r => r.core == m && r.isLoad), (s.core m).posted with
    | .waitRemote _ _, some r, _ => s.endRequest r.dest r.tag false 0
    | _, _, e :: rest => s.setCpu (.ac ⟨m, h⟩) { s.core m with posted := (stError, e.2) :: rest }
    | _, _, [] => s
  else
    match s.lnk.remote.find? (fun r => r.core == m) with
    | some r => s.endRequest r.dest r.tag false 0
    | none => s

/-- FABRIC_TIMEOUT (16 R417): the access is completed with ERROR; F132 names the unit, and its receipt revokes a unit that is a
master. -/
def execFabricTimeout (m : Fin 10) (unit : BitVec 16) (s : State) : Out := .next <|
  match m.val with
  | 4 => s
  | _ => ((s.drive 132 unit).tagTimeout m).answer stError []

/-- What the scrubber finds in the word it reads. Log entry 26, DESIGN CHOICE. -/
def State.scrubFind (s : State) (e : EccErr) : State :=
  match e with
  | .none => s
  | .single => { s with mem := { s.mem with soft := insNat s.mem.scrubAt s.mem.soft } }
  | .double => { s with mem := { s.mem with bad := insNat s.mem.scrubAt s.mem.bad } }

/-- The scrubber goes on to the next word, and counts a pass when it wraps. -/
def State.scrubOn (s : State) : State :=
  let a := s.mem.scrubAt + 8
  if 0x10000000 ≤ a then { (s.countUp (memB + 0x14)) with mem := { s.mem with scrubAt := 0 } }
  else { s with mem := { s.mem with scrubAt := a } }

/-- PATROL_SCRUB_READ (16 R427, R428): while SCRUB.DIS is 0, under a grant of class 4; no master is revoked. -/
def execPatrolScrubRead (err : EccErr) (s : State) : Out := .next <|
  if bit (s.reg (memB + 0x10)) 0 then s
  else s.underGrant 6 4 (fun s => let t := s.scrubFind err; (t.eccRead t.mem.scrubAt 15).1.scrubOn)

/-- The recorder's flush of Q96-Q99 is work of class 1 while RECFILL is above 384, else of class 4 (17 R442). -/
def State.flushClass (s : State) : Nat := if 384 < s.mem.stage.length then 1 else 4

/-- The staging buffer drains: the collector's entries at once, those of Q96-Q99 under a grant, which HOLDUP does not need (17 R442,
R443; 02 R53). -/
def State.recorderDrain (s : State) : State :=
  if s.md.mode == .holdup then s.recFlush
  else
    let r := if s.mem.stage.any (fun e => !e.fromCollector) then s.admitJob 1 s.flushClass false else (s, true)
    if r.2 then r.1.recFlush else r.1.recDrain (·.fromCollector)

/-- RECORDER_DRAIN (16 R432-R434). -/
def execRecorderDrain (s : State) : Out := .next <|
  match s.md.mode with
  | .off | .reset => s
  | _ => ([96, 97, 98, 99].foldl (fun (t : State) q => State.recPop q 64 t) s).recorderDrain

/-- TIO_DRIVER_OVERTEMP (23 R576). -/
def execTioDriverOvertemp (n : Fin 16) (hot : Bool) (s : State) : Out :=
  .next { s with tmr := { s.tmr with hot := putBit s.tmr.hot n hot } }

end Sys2Proof.Machine
end

