-- ==== Sys2Proof/Machine/Dispatch.lean ====
section
/-! DEFINITION. The meaning of every command: one arm per constructor of Instr. -/
namespace Sys2Proof.Machine

def exec (i : Instr) (s : State) : Host.Outcome State Fault Refusal :=
  match i with
  | .powerUp => Sys2Proof.Machine.execPowerUp s
  | .logicRailFail => Sys2Proof.Machine.execLogicRailFail s
  | .rstNLow => Sys2Proof.Machine.execRstNLow s
  | .resetRelease straps pll weak => Sys2Proof.Machine.execResetRelease straps pll weak s
  | .powerOnRunComplete e => Sys2Proof.Machine.execPowerOnRunComplete e s
  | .modeDecision => Sys2Proof.Machine.execModeDecision s
  | .loaderRun slot => Sys2Proof.Machine.execLoaderRun slot s
  | .vholdCharged => Sys2Proof.Machine.execVholdCharged s
  | .vholdChargeTimeout => Sys2Proof.Machine.execVholdChargeTimeout s
  | .holdupEntry => Sys2Proof.Machine.execHoldupEntry s
  | .holdupFlushComplete => Sys2Proof.Machine.execHoldupFlushComplete s
  | .powerCycleDetect => Sys2Proof.Machine.execPowerCycleDetect s
  | .vlOvervoltage high => Sys2Proof.Machine.execVlOvervoltage high s
  | .coreRailFault railB bad => Sys2Proof.Machine.execCoreRailFault railB bad s
  | .junctionOvertemp sensor hot => Sys2Proof.Machine.execJunctionOvertemp sensor hot s
  | .vioFault bad => Sys2Proof.Machine.execVioFault bad s
  | .cycleStrobe e => Sys2Proof.Machine.execCycleStrobe e s
  | .channelBStrobeLocked e => Sys2Proof.Machine.execChannelBStrobeLocked e s
  | .acceptanceWindowClose e => Sys2Proof.Machine.execAcceptanceWindowClose e s
  | .earlyStrobeIgnored => Sys2Proof.Machine.execEarlyStrobeIgnored s
  | .colSlotEnd paceA paceB reactDiff modeDiff => Sys2Proof.Machine.execColSlotEnd paceA paceB reactDiff modeDiff s
  | .faultReceipt n wiring detail => Sys2Proof.Machine.execFaultReceipt n wiring detail s
  | .wiringFault n detail => Sys2Proof.Machine.execWiringFault n detail s
  | .sourceClear n => Sys2Proof.Machine.execSourceClear n s
  | .outputsConfirmedOff => Sys2Proof.Machine.execOutputsConfirmedOff s
  | .reactConfirmTimeout => Sys2Proof.Machine.execReactConfirmTimeout s
  | .quietPeriodComplete n => Sys2Proof.Machine.execQuietPeriodComplete n s
  | .softwareRestart m => Sys2Proof.Machine.execSoftwareRestart m s
  | .serviceExit m => Sys2Proof.Machine.execServiceExit m s
  | .serviceRequest m => Sys2Proof.Machine.execServiceRequest m s
  | .testReleaseStart m v => Sys2Proof.Machine.execTestReleaseStart m v s
  | .testReleaseStop m v => Sys2Proof.Machine.execTestReleaseStop m v s
  | .testReleaseExpire => Sys2Proof.Machine.execTestReleaseExpire s
  | .commit m mask => Sys2Proof.Machine.execCommit m mask s
  | .commitApply => Sys2Proof.Machine.execCommitApply s
  | .discard m mask => Sys2Proof.Machine.execDiscard m mask s
  | .snapshotRequest m v => Sys2Proof.Machine.execSnapshotRequest m v s
  | .snapshot => Sys2Proof.Machine.execSnapshot s
  | .timeBaseLowRead m => Sys2Proof.Machine.execTimeBaseLowRead m s
  | .registerWrite m addr v size => Sys2Proof.Machine.execRegisterWrite m addr v size s
  | .usrraise m kind v => Sys2Proof.Machine.execUsrraise m kind v s
  | .revokeSet m v => Sys2Proof.Machine.execRevokeSet m v s
  | .revokeClear m v => Sys2Proof.Machine.execRevokeClear m v s
  | .add p f => Sys2Proof.Machine.execAdd p f s
  | .sub p f => Sys2Proof.Machine.execSub p f s
  | .and_ p f => Sys2Proof.Machine.execAnd p f s
  | .or_ p f => Sys2Proof.Machine.execOr p f s
  | .xor_ p f => Sys2Proof.Machine.execXor p f s
  | .sll p f => Sys2Proof.Machine.execSll p f s
  | .srl p f => Sys2Proof.Machine.execSrl p f s
  | .sra p f => Sys2Proof.Machine.execSra p f s
  | .slli p f => Sys2Proof.Machine.execSlli p f s
  | .srli p f => Sys2Proof.Machine.execSrli p f s
  | .srai p f => Sys2Proof.Machine.execSrai p f s
  | .mul p f => Sys2Proof.Machine.execMul p f s
  | .mulh p f => Sys2Proof.Machine.execMulh p f s
  | .mulhu p f => Sys2Proof.Machine.execMulhu p f s
  | .cmp p f => Sys2Proof.Machine.execCmp p f s
  | .tst p f => Sys2Proof.Machine.execTst p f s
  | .min_ p f => Sys2Proof.Machine.execMin p f s
  | .max_ p f => Sys2Proof.Machine.execMax p f s
  | .minu p f => Sys2Proof.Machine.execMinu p f s
  | .maxu p f => Sys2Proof.Machine.execMaxu p f s
  | .divcSq p f => Sys2Proof.Machine.execDivcSq p f s
  | .divcUq p f => Sys2Proof.Machine.execDivcUq p f s
  | .divcSr p f => Sys2Proof.Machine.execDivcSr p f s
  | .divcUr p f => Sys2Proof.Machine.execDivcUr p f s
  | .divSq p f => Sys2Proof.Machine.execDivSq p f s
  | .divUq p f => Sys2Proof.Machine.execDivUq p f s
  | .divSr p f => Sys2Proof.Machine.execDivSr p f s
  | .divUr p f => Sys2Proof.Machine.execDivUr p f s
  | .addi p f => Sys2Proof.Machine.execAddi p f s
  | .andi p f => Sys2Proof.Machine.execAndi p f s
  | .ori p f => Sys2Proof.Machine.execOri p f s
  | .xori p f => Sys2Proof.Machine.execXori p f s
  | .cmpi p f => Sys2Proof.Machine.execCmpi p f s
  | .lui p f => Sys2Proof.Machine.execLui p f s
  | .dwmk p f => Sys2Proof.Machine.execDwmk p f s
  | .dwadd p f => Sys2Proof.Machine.execDwadd p f s
  | .dwsub p f => Sys2Proof.Machine.execDwsub p f s
  | .dwlo p f => Sys2Proof.Machine.execDwlo p f s
  | .ldw p f => Sys2Proof.Machine.execLdw p f s
  | .ldh p f => Sys2Proof.Machine.execLdh p f s
  | .ldhu p f => Sys2Proof.Machine.execLdhu p f s
  | .ldb p f => Sys2Proof.Machine.execLdb p f s
  | .ldbu p f => Sys2Proof.Machine.execLdbu p f s
  | .stw p f => Sys2Proof.Machine.execStw p f s
  | .sth p f => Sys2Proof.Machine.execSth p f s
  | .stb p f => Sys2Proof.Machine.execStb p f s
  | .iold p f => Sys2Proof.Machine.execIold p f s
  | .iost p f => Sys2Proof.Machine.execIost p f s
  | .recDone => Sys2Proof.Machine.execRecDone s
  | .cycset code => Sys2Proof.Machine.execCycset code s
  | .restore => Sys2Proof.Machine.execRestore s
  | .restoreComplete => Sys2Proof.Machine.execRestoreComplete s
  | .flta v => Sys2Proof.Machine.execFlta v s
  | .fwld p f => Sys2Proof.Machine.execFwld p f s
  | .fwst p f => Sys2Proof.Machine.execFwst p f s
  | .fabricWindowTimeout x => Sys2Proof.Machine.execFabricWindowTimeout x s
  | .amoswap p f => Sys2Proof.Machine.execAmoswap p f s
  | .amoadd p f => Sys2Proof.Machine.execAmoadd p f s
  | .amocas p f => Sys2Proof.Machine.execAmocas p f s
  | .br p f => Sys2Proof.Machine.execBr p f s
  | .bl p f => Sys2Proof.Machine.execBl p f s
  | .call p f => Sys2Proof.Machine.execCall p f s
  | .jr p f fn => Sys2Proof.Machine.execJr p f fn s
  | .jlr p f fn => Sys2Proof.Machine.execJlr p f fn s
  | .bsbt p f => Sys2Proof.Machine.execBsbt p f s
  | .bsbf p f => Sys2Proof.Machine.execBsbf p f s
  | .loop p f => Sys2Proof.Machine.execLoop p f s
  | .smov p f => Sys2Proof.Machine.execSmov p f s
  | .snot p f => Sys2Proof.Machine.execSnot p f s
  | .sand p f => Sys2Proof.Machine.execSand p f s
  | .sor p f => Sys2Proof.Machine.execSor p f s
  | .sxor p f => Sys2Proof.Machine.execSxor p f s
  | .sand3 p f => Sys2Proof.Machine.execSand3 p f s
  | .sor3 p f => Sys2Proof.Machine.execSor3 p f s
  | .ssel p f => Sys2Proof.Machine.execSsel p f s
  | .sconst p f => Sys2Proof.Machine.execSconst p f s
  | .svalid p f => Sys2Proof.Machine.execSvalid p f s
  | .sbtog p f => Sys2Proof.Machine.execSbtog p f s
  | .scmp p f fn => Sys2Proof.Machine.execScmp p f fn s
  | .sbin p f => Sys2Proof.Machine.execSbin p f s
  | .sbout p f => Sys2Proof.Machine.execSbout p f s
  | .ssend p f => Sys2Proof.Machine.execSsend p f s
  | .srecv p f => Sys2Proof.Machine.execSrecv p f s
  | .nop p f => Sys2Proof.Machine.execNop p f s
  | .trap p f => Sys2Proof.Machine.execTrap p f s
  | .rfe p f => Sys2Proof.Machine.execRfe p f s
  | .ret p f => Sys2Proof.Machine.execRet p f s
  | .mfst p f => Sys2Proof.Machine.execMfst p f s
  | .mtst p f => Sys2Proof.Machine.execMtst p f s
  | .mfsr p f => Sys2Proof.Machine.execMfsr p f s
  | .mtsr p f => Sys2Proof.Machine.execMtsr p f s
  | .fence p f => Sys2Proof.Machine.execFence p f s
  | .wfi p f => Sys2Proof.Machine.execWfi p f s
  | .brk p f => Sys2Proof.Machine.execBrk p f s
  | .cycend p f => Sys2Proof.Machine.execCycend p f s
  | .tnew p f => Sys2Proof.Machine.execTnew p f s
  | .trun p f => Sys2Proof.Machine.execTrun p f s
  | .tyield p f => Sys2Proof.Machine.execTyield p f s
  | .twaitq p f => Sys2Proof.Machine.execTwaitq p f s
  | .texit p f => Sys2Proof.Machine.execTexit p f s
  | .tkill p f => Sys2Proof.Machine.execTkill p f s
  | .tget p f => Sys2Proof.Machine.execTget p f s
  | .tset p f => Sys2Proof.Machine.execTset p f s
  | .tself p f => Sys2Proof.Machine.execTself p f s
  | .taskWake k => Sys2Proof.Machine.execTaskWake k s
  | .interrupt core n => Sys2Proof.Machine.execInterrupt core n s
  | .impreciseBus core => Sys2Proof.Machine.execImpreciseBus core s
  | .breakpointHit p slot => Sys2Proof.Machine.execBreakpointHit p slot s
  | .inputFilterChange n chB samples => Sys2Proof.Machine.execInputFilterChange n chB samples s
  | .testPulseStart k => Sys2Proof.Machine.execTestPulseStart k s
  | .testPulseEnd k seenA seenB foreignA foreignB tpA tpB => Sys2Proof.Machine.execTestPulseEnd k seenA seenB foreignA foreignB tpA tpB s
  | .testPulseMaskClose k => Sys2Proof.Machine.execTestPulseMaskClose k s
  | .tpOverloadTrip k => Sys2Proof.Machine.execTpOverloadTrip k s
  | .tpOverloadRetry k => Sys2Proof.Machine.execTpOverloadRetry k s
  | .tpOverloadClear k => Sys2Proof.Machine.execTpOverloadClear k s
  | .offTestStart k => Sys2Proof.Machine.execOffTestStart k s
  | .offTestPass fell => Sys2Proof.Machine.execOffTestPass fell s
  | .offTestTimeout fell midOn => Sys2Proof.Machine.execOffTestTimeout fell midOn s
  | .onTestStart k => Sys2Proof.Machine.execOnTestStart k s
  | .onTestPass rose => Sys2Proof.Machine.execOnTestPass rose s
  | .onTestTimeout rose => Sys2Proof.Machine.execOnTestTimeout rose s
  | .outputOverloadTrip k temp => Sys2Proof.Machine.execOutputOverloadTrip k temp s
  | .outputOverloadClear k => Sys2Proof.Machine.execOutputOverloadClear k s
  | .groupCurrentTrip grpB => Sys2Proof.Machine.execGroupCurrentTrip grpB s
  | .groupCurrentClear grpB => Sys2Proof.Machine.execGroupCurrentClear grpB s
  | .groupSupplyChange grpB low => Sys2Proof.Machine.execGroupSupplyChange grpB low s
  | .encoderRateInterval axis enc lv => Sys2Proof.Machine.execEncoderRateInterval axis enc lv s
  | .ringFrameReceive ring2 portB f => Sys2Proof.Machine.execRingFrameReceive ring2 portB f s
  | .ringTransmit ring2 portB => Sys2Proof.Machine.execRingTransmit ring2 portB s
  | .ringCheckSend ring2 => Sys2Proof.Machine.execRingCheckSend ring2 s
  | .ringCheckWindow ring2 => Sys2Proof.Machine.execRingCheckWindow ring2 s
  | .portLinkChange ring2 portB up => Sys2Proof.Machine.execPortLinkChange ring2 portB up s
  | .tsinfoPop m => Sys2Proof.Machine.execTsinfoPop m s
  | .tcCountEdge n a b => Sys2Proof.Machine.execTcCountEdge n a b s
  | .tcCompareMatch n k1 => Sys2Proof.Machine.execTcCompareMatch n k1 s
  | .tcWrap n => Sys2Proof.Machine.execTcWrap n s
  | .tcCapture n rise held => Sys2Proof.Machine.execTcCapture n rise held s
  | .captureSpill n => Sys2Proof.Machine.execCaptureSpill n s
  | .capturePop m n => Sys2Proof.Machine.execCapturePop m n s
  | .wcFire w => Sys2Proof.Machine.execWcFire w s
  | .pllLockLost => Sys2Proof.Machine.execPllLockLost s
  | .pllLockRestored => Sys2Proof.Machine.execPllLockRestored s
  | .loopDacUpdate s0 s1 s2 s3 vlLow => Sys2Proof.Machine.execLoopDacUpdate s0 s1 s2 s3 vlLow s
  | .loopBackfeed n => Sys2Proof.Machine.execLoopBackfeed n s
  | .loopBackfeedClear n => Sys2Proof.Machine.execLoopBackfeedClear n s
  | .loopModeSwitchEnd n => Sys2Proof.Machine.execLoopModeSwitchEnd n s
  | .transmitData m n v => Sys2Proof.Machine.execTransmitData m n v s
  | .fskTxStart m n v => Sys2Proof.Machine.execFskTxStart m n v s
  | .fskAbort m n v => Sys2Proof.Machine.execFskAbort m n v s
  | .fskTxBegin n => Sys2Proof.Machine.execFskTxBegin n s
  | .fskTxByte n => Sys2Proof.Machine.execFskTxByte n s
  | .fskTxEnd n => Sys2Proof.Machine.execFskTxEnd n s
  | .fskCarrierDetect n up => Sys2Proof.Machine.execFskCarrierDetect n up s
  | .fskRxByte n data parity stop => Sys2Proof.Machine.execFskRxByte n data parity stop s
  | .rxdPop m n => Sys2Proof.Machine.execRxdPop m n s
  | .gioInputChange n x => Sys2Proof.Machine.execGioInputChange n x s
  | .gioCurrentLimitTrip tp n => Sys2Proof.Machine.execGioCurrentLimitTrip tp n s
  | .gioDriverRestore tp n => Sys2Proof.Machine.execGioDriverRestore tp n s
  | .gioReadbackMismatch n bad => Sys2Proof.Machine.execGioReadbackMismatch n bad s
  | .gioOvertemp n hot => Sys2Proof.Machine.execGioOvertemp n hot s
  | .vgLow low => Sys2Proof.Machine.execVgLow low s
  | .wdkick m v => Sys2Proof.Machine.execWdkick m v s
  | .gioWatchdogExpire => Sys2Proof.Machine.execGioWatchdogExpire s
  | .gioWatchdogClear m => Sys2Proof.Machine.execGioWatchdogClear m s
  | .queueReserve m q => Sys2Proof.Machine.execQueueReserve m q s
  | .queuePublish m q addr => Sys2Proof.Machine.execQueuePublish m q addr s
  | .queueTake m q => Sys2Proof.Machine.execQueueTake m q s
  | .queueRelease m q addr => Sys2Proof.Machine.execQueueRelease m q addr s
  | .fabricTimeout m unit => Sys2Proof.Machine.execFabricTimeout m unit s
  | .patrolScrubRead err => Sys2Proof.Machine.execPatrolScrubRead err s
  | .recorderDrain => Sys2Proof.Machine.execRecorderDrain s
  | .governorWindow e => Sys2Proof.Machine.execGovernorWindow e s
  | .reserveRelease => Sys2Proof.Machine.execReserveRelease s
  | .grantEnd who energy => Sys2Proof.Machine.execGrantEnd who energy s
  | .hotEntry sensor temp => Sys2Proof.Machine.execHotEntry sensor temp s
  | .selfTestSlice e => Sys2Proof.Machine.execSelfTestSlice e s
  | .sliceEnd r => Sys2Proof.Machine.execSliceEnd r s
  | .debtExpire n => Sys2Proof.Machine.execDebtExpire n s
  | .otpProg m word key => Sys2Proof.Machine.execOtpProg m word key s
  | .otpFinal m region key => Sys2Proof.Machine.execOtpFinal m region key s
  | .otpStrengthen m word repair key => Sys2Proof.Machine.execOtpStrengthen m word repair key s
  | .otpJobEnd e => Sys2Proof.Machine.execOtpJobEnd e s
  | .truQuote m key => Sys2Proof.Machine.execTruQuote m key s
  | .quoteQueueRequest => Sys2Proof.Machine.execQuoteQueueRequest s
  | .truAuth m key => Sys2Proof.Machine.execTruAuth m key s
  | .truLcadv m target key => Sys2Proof.Machine.execTruLcadv m target key s
  | .truNvwipe m key => Sys2Proof.Machine.execTruNvwipe m key s
  | .truDeauth m key => Sys2Proof.Machine.execTruDeauth m key s
  | .truUpbegin m kind key => Sys2Proof.Machine.execTruUpbegin m kind key s
  | .truUpdata m kind key => Sys2Proof.Machine.execTruUpdata m kind key s
  | .truUpact m kind key => Sys2Proof.Machine.execTruUpact m kind key s
  | .truConfirm m key => Sys2Proof.Machine.execTruConfirm m key s
  | .truJobEnd e nvFail => Sys2Proof.Machine.execTruJobEnd e nvFail s
  | .challenge m => Sys2Proof.Machine.execChallenge m s
  | .cairnExtend m v => Sys2Proof.Machine.execCairnExtend m v s
  | .extendComplete => Sys2Proof.Machine.execExtendComplete s
  | .antiRollbackAdvance e => Sys2Proof.Machine.execAntiRollbackAdvance e s
  | .authorisationExpire => Sys2Proof.Machine.execAuthorisationExpire s
  | .hostWrite addr words => Sys2Proof.Machine.execHostWrite addr words s
  | .hostRead addr count => Sys2Proof.Machine.execHostRead addr count s
  | .hostReadStartByte => Sys2Proof.Machine.execHostReadStartByte s
  | .hostStatus => Sys2Proof.Machine.execHostStatus s
  | .hostProtocolError => Sys2Proof.Machine.execHostProtocolError s
  | .hstFulltest m key => Sys2Proof.Machine.execHstFulltest m key s
  | .hstRecsearch m key => Sys2Proof.Machine.execHstRecsearch m key s
  | .hstAbort m key => Sys2Proof.Machine.execHstAbort m key s
  | .hstJobEnd failed => Sys2Proof.Machine.execHstJobEnd failed s
  | .joback m v => Sys2Proof.Machine.execJoback m v s
  | .dbgIdent operand crc => Sys2Proof.Machine.execDbgIdent operand crc s
  | .dbgSelect operand crc => Sys2Proof.Machine.execDbgSelect operand crc s
  | .dbgHalt operand crc => Sys2Proof.Machine.execDbgHalt operand crc s
  | .dbgResume operand crc => Sys2Proof.Machine.execDbgResume operand crc s
  | .dbgStep operand crc => Sys2Proof.Machine.execDbgStep operand crc s
  | .dbgArg operand crc => Sys2Proof.Machine.execDbgArg operand crc s
  | .dbgRdreg operand crc => Sys2Proof.Machine.execDbgRdreg operand crc s
  | .dbgWrreg operand crc => Sys2Proof.Machine.execDbgWrreg operand crc s
  | .dbgAddr operand crc => Sys2Proof.Machine.execDbgAddr operand crc s
  | .dbgRdmem operand crc => Sys2Proof.Machine.execDbgRdmem operand crc s
  | .dbgWrmem operand crc => Sys2Proof.Machine.execDbgWrmem operand crc s
  | .dbgBpset operand crc => Sys2Proof.Machine.execDbgBpset operand crc s
  | .dbgBpclr operand crc => Sys2Proof.Machine.execDbgBpclr operand crc s
  | .debugPortReset => Sys2Proof.Machine.execDebugPortReset s
  | .ridgeStop ld err orig lines refresh => Sys2Proof.Machine.execRidgeStop ld err orig lines refresh s
  | .ridgeStopSend => Sys2Proof.Machine.execRidgeStopSend s
  | .ridgeOriginTimeout orig => Sys2Proof.Machine.execRidgeOriginTimeout orig s
  | .ridgeSideDown ld => Sys2Proof.Machine.execRidgeSideDown ld s
  | .ridgeTime ld err orig t1 t2 t3 t4 => Sys2Proof.Machine.execRidgeTime ld err orig t1 t2 t3 t4 s
  | .ridgeAlignmentTimeout missedStep => Sys2Proof.Machine.execRidgeAlignmentTimeout missedStep s
  | .ridgeMreq ld err orig write tag offset v => Sys2Proof.Machine.execRidgeMreq ld err orig write tag offset v s
  | .ridgeMrsp ld err orig tag ok v => Sys2Proof.Machine.execRidgeMrsp ld err orig tag ok v s
  | .ridgeRequestTimeout dest tag => Sys2Proof.Machine.execRidgeRequestTimeout dest tag s
  | .ridgeQmsg ld err orig entry => Sys2Proof.Machine.execRidgeQmsg ld err orig entry s
  | .ridgeQmsgSend q => Sys2Proof.Machine.execRidgeQmsgSend q s
  | .powerValid => Sys2Proof.Machine.execPowerValid s
  | .netDmaWriteFailure ring2 portB f => Sys2Proof.Machine.execNetDmaWriteFailure ring2 portB f s
  | .tioDriverOvertemp n hot => Sys2Proof.Machine.execTioDriverOvertemp n hot s

end Sys2Proof.Machine
end

