-- ==== Sys2Proof/Safety.lean ====
section
/-! DEFINITION. What a safe run of the model is: no fault and no refusal at any of its steps; and the states in which an OIS
instruction has its own effect. -/
namespace Sys2Proof.Machine

/-- The step at a state answers a next state. -/
def goes (s : State) : Bool :=
  match step s with
  | .next _ => true
  | _ => false

/-- The first k steps from a state all answer a next state. -/
def safeFor : Nat → State → Bool
  | 0, _ => true
  | k + 1, s =>
    match step s with
    | .next t => safeFor k t
    | _ => false

/-- The processor executes its next instruction: nothing goes before it at the boundary, and its word is fetched without error; no
debug step is in progress and no breakpoint is being left (04 R128; 21 R537). -/
def State.atNext (s : State) (p : Proc) : Prop :=
  (s.cpu p).run = .running ∧ (s.cpu p).stepping = false ∧ (s.cpu p).past = none ∧ s.firstDue p = none ∧ s.fetch p = (s, none)

/-- The processor executes its next instruction, in a mode that the instruction runs in (04 R97). -/
def State.runs (s : State) (p : Proc) (modes : List Nat) : Prop := s.atNext p ∧ modes.contains (s.cpu p).st.mode.toNat = true

/-- The instruction at pc has completed on the state t, which holds its results, and the processor goes on behind it (04 R116,
05 R153). -/
def State.endsIn (s : State) (p : Proc) (t : State) (cost : Nat) : Out := .next ((t.flowOn p (s.cpu p).pc).ran p cost)

/-- A branch or jump has completed on the state t, with control at a (04 R117). -/
def State.goesTo (t : State) (p : Proc) (a : Word) (cost : Nat) : Out := .next ((t.flowTo p a).ran p cost)

/-- The instruction has left pc and stacks as the state t holds them; a debug step in progress ends (21 R537). -/
def State.leaves (t : State) (p : Proc) (cost : Nat) : Out := .next ((t.ran p cost).settleStep p)

/-- As `State.endsIn`, for an instruction whose access may act on the device: a debug step in progress ends (21 R537). -/
def State.settlesIn (s : State) (p : Proc) (t : State) (cost : Nat) : Out := ((t.flowOn p (s.cpu p).pc)).leaves p cost

/-- The word of an application memory that an address lies in holds no bit error (16 R426). -/
def State.sound (s : State) (a : Nat) : Prop := s.mem.bad.contains (wordAt a) = false ∧ s.mem.soft.contains (wordAt a) = false

/-- The address lies in a memory of the device that the fabric reads by bytes (03 R68). -/
def inMemory (a : Nat) : Prop := regionOf a = .work ∨ regionOf a = .nv ∨ regionOf a = .sram

end Sys2Proof.Machine
end

