-- ==== Sys2Proof/Certificates/Slice0/Obligations.lean ====
section
/-! DEFINITION. The statements about the model, for the provers: for every family of commands what a command does, where it has its
own effect, what it leaves unchanged, and the invariant of the memory. -/
open Sys2Proof Sys2Proof.Machine

/-- STEP RUNS THE FRONT COMMAND. With c at the front of the queue, a step is the effect of c on the state with the queue's rest. -/
def Obligations.StepRunsFront : Prop :=
  ∀ (s : State) (c : Instr) (rest : List Instr), s.pending = c :: rest → step s = exec c { s with pending := rest }

/-- R105: the register functions of ALU write rd with their result, keep the flags and go on; slots as the table gives them. -/
def Obligations.AluResults : Prop :=
  ∀ (s : State) (p : Proc) (f : FmtR), s.runs p mSKU → f.aux = 0 →
    let a := s.gr p f.ra
    let b := s.gr p f.rb
    let fin := fun (v : Word) (cost : Nat) => s.endsIn p (s.setGr p f.rd v) cost
    exec (.add p f) s = fin (a + b) 1
    ∧ exec (.sub p f) s = fin (a - b) 1
    ∧ exec (.and_ p f) s = fin (a &&& b) 1
    ∧ exec (.or_ p f) s = fin (a ||| b) 1
    ∧ exec (.xor_ p f) s = fin (a ^^^ b) 1
    ∧ exec (.sll p f) s = fin (a <<< (b.toNat % 32)) 1
    ∧ exec (.srl p f) s = fin (a >>> (b.toNat % 32)) 1
    ∧ exec (.sra p f) s = fin (a.sshiftRight (b.toNat % 32)) 1
    ∧ exec (.mul p f) s = fin (a * b) 3
    ∧ exec (.mulh p f) s = fin (BitVec.ofInt 32 (a.toInt * b.toInt / 2 ^ 32)) 3
    ∧ exec (.mulhu p f) s = fin (BitVec.ofNat 32 (a.toNat * b.toNat / 2 ^ 32)) 3
    ∧ exec (.min_ p f) s = fin (if a.slt b then a else b) 1
    ∧ exec (.max_ p f) s = fin (if a.slt b then b else a) 1
    ∧ exec (.minu p f) s = fin (if a.ult b then a else b) 1
    ∧ exec (.maxu p f) s = fin (if a.ult b then b else a) 1

/-- R105, R107: the shifts by a constant and the immediate forms write rd with their result, keep the flags and go on. -/
def Obligations.ImmediateResults : Prop :=
  ∀ (s : State) (p : Proc), s.runs p mSKU →
    (∀ f : FmtR, f.rb = 0 → f.aux.toNat < 32 →
      exec (.slli p f) s = s.endsIn p (s.setGr p f.rd (s.gr p f.ra <<< f.aux.toNat)) 1
      ∧ exec (.srli p f) s = s.endsIn p (s.setGr p f.rd (s.gr p f.ra >>> f.aux.toNat)) 1
      ∧ exec (.srai p f) s = s.endsIn p (s.setGr p f.rd ((s.gr p f.ra).sshiftRight f.aux.toNat)) 1)
    ∧ (∀ f : FmtI,
      exec (.addi p f) s = s.endsIn p (s.setGr p f.rd (s.gr p f.ra + f.imm.signExtend 32)) 1
      ∧ exec (.andi p f) s = s.endsIn p (s.setGr p f.rd (s.gr p f.ra &&& f.imm.setWidth 32)) 1
      ∧ exec (.ori p f) s = s.endsIn p (s.setGr p f.rd (s.gr p f.ra ||| f.imm.setWidth 32)) 1
      ∧ exec (.xori p f) s = s.endsIn p (s.setGr p f.rd (s.gr p f.ra ^^^ f.imm.setWidth 32)) 1)
    ∧ (∀ f : FmtI, f.ra = 0 → f.imm.toNat < 65536 →
      exec (.lui p f) s = s.endsIn p (s.setGr p f.rd (BitVec.ofNat 32 (f.imm.toNat * 65536))) 1)

/-- R105, R107: CMP, CMPI and TST write the four flags and nothing else, and go on. -/
def Obligations.CompareFlags : Prop :=
  ∀ (s : State) (p : Proc), s.runs p mSKU →
    let compared := fun (a b : Word) => s.endsIn p (s.setCpu p { s.cpu p with st := { (s.cpu p).st with
      z := decide (a = b)
      n := (a - b).msb
      c := decide (b.toNat ≤ a.toNat)
      v := decide (a.toInt - b.toInt < -2147483648 ∨ 2147483647 < a.toInt - b.toInt) } }) 1
    (∀ f : FmtR, f.aux = 0 → f.rd = 0 →
      exec (.cmp p f) s = compared (s.gr p f.ra) (s.gr p f.rb)
      ∧ exec (.tst p f) s = s.endsIn p (s.setCpu p { s.cpu p with st := { (s.cpu p).st with
          z := decide (s.gr p f.ra &&& s.gr p f.rb = 0)
          n := (s.gr p f.ra &&& s.gr p f.rb).msb
          c := false
          v := false } }) 1)
    ∧ (∀ f : FmtI, f.rd = 0 → exec (.cmpi p f) s = compared (s.gr p f.ra) (f.imm.signExtend 32))

/-- R106: the quotients and remainders of DIVC and DIV in the three cases of the table; DIVC sets V in the first two and clears it
otherwise, keeping Z, N and C; DIV keeps every flag, and is illegal in S-mode. -/
def Obligations.DivisionResults : Prop :=
  ∀ (s : State) (p : Proc) (f : FmtR), f.aux = 0 →
    let a := s.gr p f.ra
    let b := s.gr p f.rb
    let sq : Word := if b = 0 then 0xFFFFFFFF else if a = 0x80000000 ∧ b = 0xFFFFFFFF then 0x80000000 else BitVec.ofInt 32 (a.toInt.tdiv b.toInt)
    let sr : Word := if b = 0 then a else if a = 0x80000000 ∧ b = 0xFFFFFFFF then 0 else BitVec.ofInt 32 (a.toInt.tmod b.toInt)
    let uq : Word := if b = 0 then 0xFFFFFFFF else BitVec.ofNat 32 (a.toNat / b.toNat)
    let ur : Word := if b = 0 then a else BitVec.ofNat 32 (a.toNat % b.toNat)
    let checked := fun (w : Word) (v : Bool) =>
      let t := s.setGr p f.rd w
      s.endsIn p (t.setCpu p { t.cpu p with st := { (s.cpu p).st with v := v } }) 16
    (s.runs p mSKU →
      exec (.divcSq p f) s = checked sq (decide (b = 0 ∨ (a = 0x80000000 ∧ b = 0xFFFFFFFF)))
      ∧ exec (.divcUq p f) s = checked uq (decide (b = 0))
      ∧ exec (.divcSr p f) s = checked sr (decide (b = 0 ∨ (a = 0x80000000 ∧ b = 0xFFFFFFFF)))
      ∧ exec (.divcUr p f) s = checked ur (decide (b = 0)))
    ∧ (s.runs p mKU →
      exec (.divSq p f) s = s.endsIn p (s.setGr p f.rd sq) 12
      ∧ exec (.divUq p f) s = s.endsIn p (s.setGr p f.rd uq) 12
      ∧ exec (.divSr p f) s = s.endsIn p (s.setGr p f.rd sr) 12
      ∧ exec (.divUr p f) s = s.endsIn p (s.setGr p f.rd ur) 12)
    ∧ (s.atNext p → (s.cpu p).st.mode = 2 → (s.cpu p).st.exc = false →
      ∀ x ∈ [(Instr.divSq p f, 0), (.divUq p f, 1), (.divSr p f, 2), (.divUr p f, 3)],
        exec x.1 s = .next (s.enterExc p { code := 1, eval := wordR 3 x.2 f } false (s.cpu p).pc))

/-- R108: the dual-word instructions. A word is a valid dual word when its high half is the complement of its low half; invalid
operands and sums outside 16 bits give 0; DWLO of a valid word extends it and of an invalid one raises DWX; DWMK and DWLO raise ILL
with another rb than 0. -/
def Obligations.DualWords : Prop :=
  ∀ (s : State) (p : Proc) (f : FmtR), s.runs p mSKU → f.aux = 0 →
    let a := s.gr p f.ra
    let b := s.gr p f.rb
    let lo := fun (w : Word) => w.extractLsb' 0 16
    let ok := fun (w : Word) => w.extractLsb' 16 16 = ~~~(lo w)
    let mk := fun (v : BitVec 16) => (~~~v) ++ v
    let sum := fun (x : Int) => if ok a ∧ ok b ∧ -32768 ≤ x ∧ x ≤ 32767 then mk (BitVec.ofInt 16 x) else 0
    exec (.dwadd p f) s = s.endsIn p (s.setGr p f.rd (sum ((lo a).toInt + (lo b).toInt))) 2
    ∧ exec (.dwsub p f) s = s.endsIn p (s.setGr p f.rd (sum ((lo a).toInt - (lo b).toInt))) 2
    ∧ (f.rb = 0 → exec (.dwmk p f) s = s.endsIn p (s.setGr p f.rd (mk (lo a))) 1)
    ∧ (f.rb = 0 → ok a → exec (.dwlo p f) s = s.endsIn p (s.setGr p f.rd ((lo a).signExtend 32)) 1)
    ∧ (f.rb = 0 → ¬ ok a → (s.cpu p).st.exc = false →
        exec (.dwlo p f) s = .next (s.enterExc p { code := 0xC, detail := f.ra.toNat } false (s.cpu p).pc))
    ∧ (f.rb ≠ 0 → (s.cpu p).st.exc = false →
        exec (.dwmk p f) s = .next (s.enterExc p { code := 1, eval := wordR 0xA 0 f } false (s.cpu p).pc)
        ∧ exec (.dwlo p f) s = .next (s.enterExc p { code := 1, eval := wordR 0xA 3 f } false (s.cpu p).pc))

/-- R114, R115: branches and jumps go to their target or on; BL and JLR leave the link; a safe boolean decides BSBT and BSBF and an
invalid one raises SBX.
R114: the conditions of B by name and code. -/
def Obligations.BranchesAndJumps : Prop :=
  (∀ (s : State) (p : Proc),
      let pc := (s.cpu p).pc
      let target := fun (f : FmtJ) => pc + 4 * f.off.signExtend 32
      (∀ f : FmtJ, s.runs p mSKU → f.sel.toNat < 15 → ((s.cpu p).st.mode = 2 → 0 < f.off.toInt) →
        exec (.br p f) s = if condHolds (s.cpu p).st f.sel.toNat then s.goesTo p (target f) 2 else s.endsIn p s 2)
      ∧ (∀ f : FmtJ, s.runs p mKU → f.sel = 0 → exec (.bl p f) s = (s.setGr p 15 (pc + 4)).goesTo p (target f) 2)
      ∧ (∀ f : FmtR, s.runs p mKU → f.rd = 0 → f.rb = 0 → f.aux = 0 → (s.gr p f.ra).toNat % 4 = 0 →
        exec (.jr p f 0) s = s.goesTo p (s.gr p f.ra) 3)
      ∧ (∀ f : FmtR, s.runs p mKU → f.rb = 0 → f.aux = 0 → (s.gr p f.ra).toNat % 4 = 0 →
        exec (.jlr p f 0) s = (s.setGr p f.rd (pc + 4)).goesTo p (s.gr p f.ra) 3)
      ∧ (∀ f : FmtJ, s.runs p mS → 0 < f.off.toInt →
        (s.sbr f.sel = 2 → exec (.bsbt p f) s = s.goesTo p (target f) 2 ∧ exec (.bsbf p f) s = s.endsIn p s 2)
        ∧ (s.sbr f.sel = 1 → exec (.bsbt p f) s = s.endsIn p s 2 ∧ exec (.bsbf p f) s = s.goesTo p (target f) 2)
        ∧ (s.sbr f.sel ≠ 1 → s.sbr f.sel ≠ 2 → (s.cpu p).st.exc = false →
            exec (.bsbt p f) s = .next (s.enterExc p { code := 0xB, detail := f.sel.toNat } false pc)
            ∧ exec (.bsbf p f) s = .next (s.enterExc p { code := 0xB, detail := f.sel.toNat } false pc))))
  ∧ (∀ (st : StBits),
      (condHolds st 0 = true ↔ st.z = true) ∧ (condHolds st 1 = true ↔ st.z = false)
      ∧ (condHolds st 2 = true ↔ st.n ≠ st.v) ∧ (condHolds st 3 = true ↔ st.n = st.v)
      ∧ (condHolds st 4 = true ↔ st.z = true ∨ st.n ≠ st.v) ∧ (condHolds st 5 = true ↔ st.z = false ∧ st.n = st.v)
      ∧ (condHolds st 6 = true ↔ st.c = false) ∧ (condHolds st 7 = true ↔ st.c = true)
      ∧ (condHolds st 8 = true ↔ st.c = false ∨ st.z = true) ∧ (condHolds st 9 = true ↔ st.c = true ∧ st.z = false)
      ∧ (condHolds st 10 = true ↔ st.v = true) ∧ (condHolds st 11 = true ↔ st.v = false)
      ∧ (condHolds st 12 = true ↔ st.n = true) ∧ (condHolds st 13 = true ↔ st.n = false) ∧ condHolds st 14 = true)

/-- R115-R117, R123: CALL pushes pc + 4 and RET pops it, LOOP pushes its body, count and level; full and empty stacks raise STK.
R116: where control goes after an instruction: every loop of the present level that ends there is asked, the innermost first; one with
more than one repetition left takes control back to its body's first address, with the count one lower; one with one left is
popped, and the next is asked; with none left to ask, control goes to the next address; a loop that does not end there stays. -/
def Obligations.CallsAndLoops : Prop :=
  (∀ (s : State) (p : Proc), s.runs p mSKU →
      let c := s.cpu p
      (∀ f : FmtJ, f.sel = 0 → c.rets.length < 8 →
        exec (.call p f) s = .next ((s.setCpu p { c with rets := (c.pc + 4) :: c.rets, pc := c.pc + 4 * f.off.signExtend 32 }).ran p 2))
      ∧ (∀ f : FmtJ, f.sel = 0 → 8 ≤ c.rets.length → c.st.exc = false →
        exec (.call p f) s = .next (s.enterExc p { code := 0xA, detail := 0 } false c.pc))
      ∧ (∀ (f : FmtR) (t : Word) (rest : List Word), f = ⟨0, 0, 0, 0⟩ → c.rets = t :: rest →
        let kept := c.loops.filter (fun (e : LoopEnt) => decide (e.depth ≤ rest.length))
        exec (.ret p f) s = .next (((s.setCpu p { c with rets := rest, loops := kept }).flowOn p (t - 4)).ran p 2))
      ∧ (∀ f : FmtR, f = ⟨0, 0, 0, 0⟩ → c.rets = [] → c.st.exc = false →
        exec (.ret p f) s = .next (s.enterExc p { code := 0xA, detail := 1 } false c.pc))
      ∧ (∀ f : FmtL, f.count ≠ 0 → f.len ≠ 0 → c.loops.length < 4 →
        let e : LoopEnt := {
          first := c.pc + 4
          last := c.pc + 4 * f.len.setWidth 32
          left := f.count.toNat
          depth := c.rets.length
          exc := c.st.exc }
        exec (.loop p f) s = s.endsIn p (s.setCpu p { c with loops := e :: c.loops }) 2)
      ∧ (∀ f : FmtL, f.count ≠ 0 → f.len ≠ 0 → 4 ≤ c.loops.length → c.st.exc = false →
        exec (.loop p f) s = .next (s.enterExc p { code := 0xA, detail := 0 } false c.pc)))
  ∧ (∀ (c : Cpu) (last next : Word) (e : LoopEnt) (es : List LoopEnt),
      loopNext c last next [] = (next, [], 0)
      ∧ (¬ (e.depth = c.rets.length ∧ e.exc = c.st.exc ∧ e.last = last) →
          let r := loopNext c last next es
          loopNext c last next (e :: es) = (r.1, e :: r.2.1, r.2.2))
      ∧ (e.depth = c.rets.length → e.exc = c.st.exc → e.last = last → 1 < e.left →
          loopNext c last next (e :: es) = (e.first, { e with left := e.left - 1 } :: es, 1))
      ∧ (e.depth = c.rets.length → e.exc = c.st.exc → e.last = last → e.left ≤ 1 →
          loopNext c last next (e :: es) = loopNext c last next es))

/-- R118 and 05 R142-R144: the safe-boolean functions write sd with false (01), true (10) or, for an invalid operand that they
read, 00; SVALID tells validity; SBTOG writes 1 or 0 to a general register and raises SBX on an invalid operand. -/
def Obligations.SafeBooleans : Prop :=
  ∀ (s : State) (p : Proc) (f : FmtX), s.runs p mS →
    let ok := fun (v : BitVec 2) => v = 1 ∨ v = 2
    let a := s.sbr f.sa
    let b := s.sbr f.sb
    let c := s.sbr f.sc
    let fin := fun (v : BitVec 2) => s.endsIn p (s.setSbr f.sd v) 1
    (f.sb = 0 → f.sc = 0 →
      exec (.smov p f) s = fin (if ok a then a else 0)
      ∧ exec (.snot p f) s = fin (if a = 1 then 2 else if a = 2 then 1 else 0)
      ∧ exec (.svalid p f) s = fin (if ok a then 2 else 1)
      ∧ (f.sa = 0 → exec (.sconst p f) s = fin 1)
      ∧ (f.sa = 1 → exec (.sconst p f) s = fin 2)
      ∧ (f.sd.toNat < 16 → ok a →
          exec (.sbtog p f) s = s.endsIn p (s.setGr p (f.sd.setWidth 4) (if a = 2 then 1 else 0)) 1)
      ∧ (f.sd.toNat < 16 → ¬ ok a → (s.cpu p).st.exc = false →
          exec (.sbtog p f) s = .next (s.enterExc p { code := 0xB, detail := f.sa.toNat } false (s.cpu p).pc)))
    ∧ (f.sc = 0 →
      exec (.sand p f) s = fin (if ok a ∧ ok b then (if a = 2 ∧ b = 2 then 2 else 1) else 0)
      ∧ exec (.sor p f) s = fin (if ok a ∧ ok b then (if a = 2 ∨ b = 2 then 2 else 1) else 0)
      ∧ exec (.sxor p f) s = fin (if ok a ∧ ok b then (if a ≠ b then 2 else 1) else 0))
    ∧ exec (.sand3 p f) s = fin (if ok a ∧ ok b ∧ ok c then (if a = 2 ∧ b = 2 ∧ c = 2 then 2 else 1) else 0)
    ∧ exec (.sor3 p f) s = fin (if ok a ∧ ok b ∧ ok c then (if a = 2 ∨ b = 2 ∨ c = 2 then 2 else 1) else 0)
    ∧ exec (.ssel p f) s = fin (if ok a ∧ ok b ∧ ok c then (if c = 2 then a else b) else 0)

/-- R119: SCMP compares two valid dual words as signed 16-bit numbers by the relation fn selects; an invalid operand gives 00. Another
fn, a g register above 15, or a mode other than S raises ILL. -/
def Obligations.ScmpResult : Prop :=
  ∀ (s : State) (p : Proc) (f : FmtX) (fn : BitVec 6),
    s.atNext p →
    let a := s.gr p (f.sa.setWidth 4)
    let b := s.gr p (f.sb.setWidth 4)
    let ok := fun (w : Word) => w.extractLsb' 16 16 = ~~~(w.extractLsb' 0 16)
    let x := (a.extractLsb' 0 16).toInt
    let y := (b.extractLsb' 0 16).toInt
    let holds := (fn = 0 ∧ x = y) ∨ (fn = 1 ∧ x ≠ y) ∨ (fn = 2 ∧ x < y) ∨ (fn = 3 ∧ x ≤ y) ∨ (fn = 4 ∧ x > y) ∨ (fn = 5 ∧ x ≥ y)
    let legal := (s.cpu p).st.mode = 2 ∧ fn.toNat < 6 ∧ f.sa.toNat < 16 ∧ f.sb.toNat < 16 ∧ f.sc = 0
    (legal → exec (.scmp p f fn) s = s.endsIn p (s.setSbr f.sd (if ok a ∧ ok b then (if holds then 2 else 1) else 0)) 2)
    ∧ (¬ legal → (s.cpu p).st.exc = false →
      exec (.scmp p f fn) s = .next (s.enterExc p { code := 1, eval := wordX 0x29 fn.toNat f } false (s.cpu p).pc))

/-- R109, R96: what the loads give. The safety processor reads its TCMs and takes ACCESS elsewhere; a core reads the memories of
the device by the fabric, register blocks by the same access, and takes ACCESS on a register block in U-mode; a data address that is
not aligned raises ALIGN, an answer of the fabric other than OK BUS with its status, and an uncorrectable word F133 as well; without a
free tag the load waits (16 R415); a load from another device waits for its response.
BUS for an uncorrectable word and the wait beyond four remote requests are the model's reading (log entries 64, 98); the counts of the
access in the governor's meter are the model's choice (log entry 120). -/
def Obligations.LoadResults : Prop :=
  ∀ (s : State) (p : Proc) (f : FmtI), s.runs p mSKU →
    let a := s.gr p f.ra + f.imm.signExtend 32
    let ld := fun (i : Instr) (k : Nat) (ext : Nat → Word) =>
      (a.toNat % k = 0 → p = .safety → (a.toNat < 0x80000 ∨ (0x100000 ≤ a.toNat ∧ a.toNat < 0x140000)) →
        exec i s = s.endsIn p (s.setGr p f.rd (ext (s.tcmGet a.toNat k))) 2)
      ∧ (a.toNat % k = 0 → p = .safety → 0x80000 ≤ a.toNat → (a.toNat < 0x100000 ∨ 0x140000 ≤ a.toNat) → (s.cpu p).st.exc = false →
        exec i s = .next (s.enterExc p { code := 4, eval := a } false (s.cpu p).pc))
      ∧ (a.toNat % k ≠ 0 → (s.cpu p).st.exc = false →
        exec i s = .next (s.enterExc p { code := 3, eval := a } false (s.cpu p).pc))
      ∧ (∀ n : Fin 4, a.toNat % k = 0 → p = .ac n →
        (inMemory a.toNat → s.sound a.toNat → s.revoked n = false → s.tagFree n = true →
          exec i s = s.endsIn p ((s.moved n a.toNat).setGr p f.rd (ext (s.num a.toNat k))) 2)
        ∧ (regionOf a.toNat = .regs → (s.cpu p).st.mode = 0 → (s.cpu p).st.exc = false →
          exec i s = .next (s.enterExc p { code := 4, eval := a } false (s.cpu p).pc))
        ∧ (regionOf a.toNat ≠ .remote → (regionOf a.toNat = .regs → (s.cpu p).st.mode ≠ 0) →
          let r := s.busRead n a.toNat k
          (s.tagFree n = true → r.2.1 = stOk → exec i s = s.settlesIn p (r.1.setGr p f.rd (ext r.2.2.toNat)) 2)
          ∧ (s.tagFree n = true → r.2.1 ≠ stOk →
              exec i s = .next ((r.1.raiseExc p { code := 5, detail := r.2.1, eval := a }).settleStep p))
          ∧ (s.tagFree n = false → exec i s = .next s))
        ∧ (regionOf a.toNat = .none → s.revoked n = false → s.tagFree n = true → (s.cpu p).st.exc = false →
          ∃ t, exec i s = .next t ∧ (t.cpu p).ecause = 0x00030005 ∧ (t.cpu p).eval = a ∧ (t.cpu p).epc = (s.cpu p).pc)
        ∧ (regionOf a.toNat = .work → s.mem.bad.contains (wordAt a.toNat) = true → s.revoked n = false → s.tagFree n = true →
          (s.cpu p).st.exc = false →
          ∃ t, exec i s = .next t ∧ (t.cpu p).ecause = 0x00020005 ∧ (t.cpu p).eval = a ∧ (t.cpu p).epc = (s.cpu p).pc
            ∧ (s.md.mode ≠ .off → (s.src 133).rail = .ok → (t.src 133).rail = .fault))
        ∧ (regionOf a.toNat = .remote → s.remoteNow n (State.remoteDev a) = none →
          (s.remoteFull (State.remoteDev a) = false → s.tagFree n = true →
            ∃ t sh, exec i s = .next t ∧ (t.cpu p).run = .waitRemote f.rd.toNat sh ∧ t.lnk.remote.length = s.lnk.remote.length + 1)
          ∧ (s.remoteFull (State.remoteDev a) = true ∨ s.tagFree n = false → exec i s = .next s))
        ∧ (∀ st, regionOf a.toNat = .remote → s.remoteNow n (State.remoteDev a) = some st → (s.cpu p).st.exc = false →
          exec i s = .next (s.enterExc p { code := 5, detail := st, eval := a } false (s.cpu p).pc)))
    ld (.ldw p f) 4 (fun n => BitVec.ofNat 32 n)
    ∧ ld (.ldh p f) 2 (fun n => (BitVec.ofNat 16 n).signExtend 32)
    ∧ ld (.ldhu p f) 2 (fun n => BitVec.ofNat 32 (n % 65536))
    ∧ ld (.ldb p f) 1 (fun n => (BitVec.ofNat 8 n).signExtend 32)
    ∧ ld (.ldbu p f) 1 (fun n => BitVec.ofNat 32 (n % 256))

/-- R109, R110: what the stores do. They store the low bytes of rd at the effective address: the safety processor in data TCM, and
it takes ACCESS elsewhere; a core in working memory and queue SRAM, and in the non-volatile store as a master that may write there;
a register block takes the word and answers, with BUS for DECODE or ERROR and IGNW for IGNORED while STRICT is set, and ACCESS in
U-mode; a store to another device is a request. A data address that is not aligned raises ALIGN; without a free tag the store waits
(16 R415). That a posted store has its effect at once, that the store of a U-mode core is no writer of the non-volatile store, and
the counts of the governor's meter are the model's (log entries 102, 97, 120). -/
def Obligations.StoreResults : Prop :=
  ∀ (s : State) (p : Proc) (f : FmtI), s.runs p mSKU →
    let a := s.gr p f.ra + f.imm.signExtend 32
    let st := fun (i : Instr) (k : Nat) =>
      let data := bytesOfNat k (s.gr p f.rd).toNat
      (a.toNat % k = 0 → p = .safety → 0x100000 ≤ a.toNat → a.toNat < 0x140000 →
        exec i s = s.endsIn p (s.tcmPut a.toNat data) 2)
      ∧ (a.toNat % k = 0 → p = .safety → (a.toNat < 0x100000 ∨ 0x140000 ≤ a.toNat) → (s.cpu p).st.exc = false →
        exec i s = .next (s.enterExc p { code := 4, eval := a } false (s.cpu p).pc))
      ∧ (a.toNat % k ≠ 0 → (s.cpu p).st.exc = false →
        exec i s = .next (s.enterExc p { code := 3, eval := a } false (s.cpu p).pc))
      ∧ (∀ n : Fin 4, a.toNat % k = 0 → p = .ac n →
        let r := s.busWrite n a.toNat k (s.gr p f.rd)
        let strict := (s.reg (sysB + 4)).getLsbD n
        ((regionOf a.toNat = .work ∨ regionOf a.toNat = .sram) → s.sound a.toNat → s.revoked n = false → s.tagFree n = true →
          exec i s = s.endsIn p ((s.moved n a.toNat).setBytes a.toNat data) 2)
        ∧ (0x13400000 ≤ a.toNat → a.toNat < 0x14000000 → s.sound a.toNat →
          s.revoked n = false → (s.cpu p).st.mode ≠ 0 → s.mem.stuck = [] → s.tagFree n = true →
          exec i s = s.endsIn p ((s.moved n a.toNat).setBytes a.toNat data) 2)
        ∧ (regionOf a.toNat = .regs → (s.cpu p).st.mode = 0 → (s.cpu p).st.exc = false →
          exec i s = .next (s.enterExc p { code := 4, eval := a } false (s.cpu p).pc))
        ∧ (regionOf a.toNat = .regs → (s.cpu p).st.mode ≠ 0 → s.tagFree n = true →
          (r.2 = stOk ∨ (r.2 = stIgnored ∧ strict = false) → exec i s = s.settlesIn p r.1 2)
          ∧ (r.2 = stIgnored → strict = true → exec i s = .next ((r.1.raiseExc p { code := 6 }).settleStep p))
          ∧ (r.2 ≠ stOk → r.2 ≠ stIgnored →
              exec i s = .next ((r.1.raiseExc p { code := 5, detail := r.2, eval := a }).settleStep p)))
        ∧ (regionOf a.toNat ≠ .remote → regionOf a.toNat ≠ .regs →
          (regionOf a.toNat = .nv → (s.cpu p).st.mode ≠ 0 ∨ s.revoked n = true) → s.tagFree n = true →
          exec i s = s.settlesIn p (r.1.postResponse n r.2 a) 2)
        ∧ (regionOf a.toNat = .nv → (s.cpu p).st.mode = 0 → s.revoked n = false → s.tagFree n = true →
          exec i s = s.settlesIn p ((s.satUp (memB + 0x20) 16 16).postResponse n stIgnored a) 2)
        ∧ (regionOf a.toNat ≠ .remote → (regionOf a.toNat = .regs → (s.cpu p).st.mode ≠ 0) → s.tagFree n = false → exec i s = .next s)
        ∧ (regionOf a.toNat = .remote → s.remoteNow n (State.remoteDev a) = none →
          (s.remoteFull (State.remoteDev a) = false → s.tagFree n = true →
            exec i s = s.settlesIn p (s.remoteAsk (State.remoteDev a) n a data false) 2)
          ∧ (s.remoteFull (State.remoteDev a) = true ∨ s.tagFree n = false → exec i s = .next s))
        ∧ (∀ e, regionOf a.toNat = .remote → s.remoteNow n (State.remoteDev a) = some e →
          exec i s = s.endsIn p (s.postResponse n e a) 2))
    st (.stw p f) 4 ∧ st (.sth p f) 2 ∧ st (.stb p f) 1

/-- FRAME of the stores. A store of a core to an address outside the register blocks leaves every byte of memory but those it
stores to, at the effective address that its meaning computes, and every general register, safe boolean, processor but its own, and
special register that an exception does not write. -/
def Obligations.StoreFrame : Prop :=
  ∀ (s t : State) (n : Fin 4) (f : FmtI) (i : Instr) (k : Nat),
    ((i = .stw (.ac n) f ∧ k = 4) ∨ (i = .sth (.ac n) f ∧ k = 2) ∨ (i = .stb (.ac n) f ∧ k = 1)) → s.runs (.ac n) mSKU →
    regionOf (s.memAddr (.ac n) f).toNat ≠ .regs → exec i s = .next t →
      (∀ b : Nat, (b < (s.memAddr (.ac n) f).toNat ∨ (s.memAddr (.ac n) f).toNat + k ≤ b) → t.byte b = s.byte b)
      ∧ (∀ r : BitVec 4, t.gr (.ac n) r = s.gr (.ac n) r)
      ∧ (t.cpu (.ac n)).rets = (s.cpu (.ac n)).rets ∧ (t.cpu (.ac n)).vbase = (s.cpu (.ac n)).vbase
      ∧ (t.cpu (.ac n)).scratch = (s.cpu (.ac n)).scratch
      ∧ (∀ q : Proc, q ≠ .ac n → t.cpu q = s.cpu q)
      ∧ (∀ x, t.tcmByte x = s.tcmByte x)

/-- FRAME of the instructions that write one general register from registers and constants alone: every other general register,
the flags and the rest of the status, the safe booleans, the exception and special registers, the return stack, every other
processor, every register of the register blocks and every byte of memory stay; pc and the loop stack may change.
R93: g0 reads 0 in every state, and a write of it is discarded. -/
def Obligations.RegisterFrames : Prop :=
  (∀ (s t : State) (p : Proc) (f : FmtR) (g : FmtI) (i : Instr) (rd : BitVec 4), s.runs p mSKU → f.aux = 0 →
      ((rd = f.rd ∧ (i = .add p f ∨ i = .sub p f ∨ i = .and_ p f ∨ i = .or_ p f ∨ i = .xor_ p f ∨ i = .sll p f ∨ i = .srl p f
          ∨ i = .sra p f ∨ i = .mul p f ∨ i = .mulh p f ∨ i = .mulhu p f ∨ i = .min_ p f ∨ i = .max_ p f ∨ i = .minu p f
          ∨ i = .maxu p f ∨ i = .dwadd p f ∨ i = .dwsub p f))
        ∨ (rd = g.rd ∧ (i = .addi p g ∨ i = .andi p g ∨ i = .ori p g ∨ i = .xori p g))) →
      exec i s = .next t →
        (∀ r : BitVec 4, r ≠ rd → t.gr p r = s.gr p r)
        ∧ (t.cpu p).st = (s.cpu p).st ∧ (t.cpu p).sb = (s.cpu p).sb ∧ (t.cpu p).rets = (s.cpu p).rets
        ∧ (t.cpu p).epc = (s.cpu p).epc ∧ (t.cpu p).est = (s.cpu p).est ∧ (t.cpu p).ecause = (s.cpu p).ecause
        ∧ (t.cpu p).eval = (s.cpu p).eval ∧ (t.cpu p).vbase = (s.cpu p).vbase ∧ (t.cpu p).scratch = (s.cpu p).scratch
        ∧ (t.cpu p).rtend = (s.cpu p).rtend ∧ (t.cpu p).task = (s.cpu p).task ∧ (t.cpu p).irq = (s.cpu p).irq
        ∧ (∀ q : Proc, q ≠ p → t.cpu q = s.cpu q)
        ∧ t.regs = s.regs ∧ (∀ a, t.byte a = s.byte a) ∧ (∀ a, t.tcmByte a = s.tcmByte a))
  ∧ (∀ (s : State) (p : Proc) (v : Word),
      s.gr p 0 = 0 ∧ s.setGr p 0 v = s ∧ (∀ r : BitVec 4, r ≠ 0 → (s.setGr p r v).gr p r = v))

/-- R111, R120 with 05 R148-R156: IOLD and IOST move a word of the safety I/O image or the mailbox, SBIN and SBOUT one safe boolean;
a word not yet there is waited for, and what the image does not hold or does not let write raises ACCESS.
EVAL holds the index or offset (the model's reading, log entry 37). -/
def Obligations.ImageAccess : Prop :=
  ∀ (s : State) (p : Proc), s.runs p mS →
    (∀ f : FmtI,
      let a := (if f.imm.getLsbD 17 then 0x00300000 else 0x00200000) + s.gr p f.ra + 4 * (f.imm.extractLsb' 0 17).setWidth 32
      a.toNat % 4 = 0 →
      (∀ w, s.ioRead a.toNat = .value w → exec (.iold p f) s = s.endsIn p (s.setGr p f.rd w) 4)
      ∧ (p = .safety → s.ioRead a.toNat = .wait →
          exec (.iold p f) s = .next ({ s with sp := { s.sp with run := .waitRead f.rd.toNat a.toNat } }.ran p 4))
      ∧ (s.ioRead a.toNat = .bad → (s.cpu p).st.exc = false →
          exec (.iold p f) s = .next (s.enterExc p { code := 4, eval := a } false (s.cpu p).pc))
      ∧ (∀ t, s.ioWrite a.toNat (s.gr p f.rd) = some t → exec (.iost p f) s = s.settlesIn p t 4)
      ∧ (s.ioWrite a.toNat (s.gr p f.rd) = none → (s.cpu p).st.exc = false →
          exec (.iost p f) s = .next (s.enterExc p { code := 4, eval := a } false (s.cpu p).pc)))
    ∧ (∀ f : FmtX, f.sc = 0 →
      let i := f.sa.toNat * 32 + f.sb.toNat
      let there := i < 76 ∨ (96 ≤ i ∧ i < 108) ∨ (128 ≤ i ∧ i < 131) ∨ (144 ≤ i ∧ i < 160)
      (there → exec (.sbin p f) s = s.endsIn p (s.setSbr f.sd (s.imgSb i)) 4)
      ∧ (¬ there → (s.cpu p).st.exc = false →
          exec (.sbin p f) s = .next (s.enterExc p { code := 4, eval := BitVec.ofNat 32 i } false (s.cpu p).pc))
      ∧ (64 ≤ i → i < 76 →
          exec (.sbout p f) s = s.endsIn p (s.setImgSb i (if s.sbr f.sd = 1 ∨ s.sbr f.sd = 2 then s.sbr f.sd else 1)) 4)
      ∧ (i < 64 ∨ 76 ≤ i → (s.cpu p).st.exc = false →
          exec (.sbout p f) s = .next (s.enterExc p { code := 4, eval := BitVec.ofNat 32 i } false (s.cpu p).pc)))

/-- R112: the fabric window. FWLD and FWST run with pc below RTEND, at a word-aligned address with bit 31 cleared; FWST only into a
slot the window holds reserved or its PUSH register; an answer other than OK raises BUS with its status, of FWST behind the
instruction; a response that does not come within 500 ns raises BUS with DETAIL 0x0100.
EVAL of the accesses above RTEND holds the address, and the error of an FWST is imprecise and stores nothing (the model's reading, log
entries 36, 37, 126). -/
def Obligations.FabricWindow : Prop :=
  ∀ (s : State) (p : Proc) (f : FmtI), s.runs p mS →
    let a := (s.gr p f.ra + f.imm.signExtend 32) &&& 0x7FFFFFFF
    a.toNat % 4 = 0 →
    (s.sp.pc.toNat < s.sp.rtend.toNat →
      ((s.busRead 4 a.toNat 4).2.1 = stOk →
        exec (.fwld p f) s = s.settlesIn p ((s.busRead 4 a.toNat 4).1.setGr p f.rd (s.busRead 4 a.toNat 4).2.2) 64)
      ∧ ((s.busRead 4 a.toNat 4).2.1 ≠ stOk →
        exec (.fwld p f) s = .next (((s.busRead 4 a.toNat 4).1.raiseExc p
          { code := 5, detail := (s.busRead 4 a.toNat 4).2.1, eval := a }).settleStep p))
      ∧ (s.winWritable a.toNat = true →
          ((s.busWrite 4 a.toNat 4 (s.gr p f.rd)).2 = stOk ∨ (s.busWrite 4 a.toNat 4 (s.gr p f.rd)).2 = stIgnored) →
          exec (.fwst p f) s = s.settlesIn p (s.busWrite 4 a.toNat 4 (s.gr p f.rd)).1 16)
      ∧ (s.winWritable a.toNat = false → (s.cpu p).st.exc = false →
          exec (.fwst p f) s = .next (s.enterExc p { code := 4, eval := a } false (s.cpu p).pc))
      ∧ (s.winWritable a.toNat = true → (s.busWrite 4 a.toNat 4 (s.gr p f.rd)).2 ≠ stOk →
          (s.busWrite 4 a.toNat 4 (s.gr p f.rd)).2 ≠ stIgnored →
          let t := (s.busWrite 4 a.toNat 4 (s.gr p f.rd)).1.flowOn p ((s.busWrite 4 a.toNat 4 (s.gr p f.rd)).1.cpu p).pc
          exec (.fwst p f) s = (t.enterExc p { code := 5, detail := (s.busWrite 4 a.toNat 4 (s.gr p f.rd)).2, eval := a } true
            (t.cpu p).pc).leaves p 16)
      ∧ (p = .safety → s.sp.st.exc = false →
          exec (.fabricWindowTimeout ⟨false, f⟩) s = .next (s.enterExc .safety { code := 5, detail := 0x0100, eval := a } false s.sp.pc))
      ∧ (p = .safety → s.winWritable a.toNat = true →
          let t := s.flowOn .safety s.sp.pc
          exec (.fabricWindowTimeout ⟨true, f⟩) s = .next ((t.enterExc .safety { code := 5, detail := 0x0100, eval := a } true t.sp.pc).ran .safety 16)))
    ∧ (s.sp.rtend.toNat ≤ s.sp.pc.toNat → (s.cpu p).st.exc = false →
        exec (.fwld p f) s = .next (s.enterExc p { code := 4, eval := a } false (s.cpu p).pc)
        ∧ exec (.fwst p f) s = .next (s.enterExc p { code := 4, eval := a } false (s.cpu p).pc))

/-- R113: an atomic reads the word at ra, stores the new value where it is made, and writes the old value to rd; AMOCAS stores only
if the old value equals rd, and Z tells whether it did. Outside working memory and queue SRAM it raises ACCESS, at an address that is
not aligned ALIGN; an answer other than OK raises BUS; without a free tag it waits.
The counts of the accesses in the governor's meter are the model's choice (log entry 120). -/
def Obligations.AtomicResults : Prop :=
  ∀ (s : State) (n : Fin 4) (f : FmtR), s.runs (.ac n) mKU → f.aux = 0 →
    let p := Proc.ac n
    let a := s.gr p f.ra
    let old := BitVec.ofNat 32 (s.num a.toNat 4)
    let b := s.gr p f.rb
    let each := fun (o : Out) => exec (.amoswap p f) s = o ∧ exec (.amoadd p f) s = o ∧ exec (.amocas p f) s = o
    (a.toNat % 4 = 0 →
      ((regionOf a.toNat = .work ∨ regionOf a.toNat = .sram) → s.tagFree n = true →
        (s.sound a.toNat → s.revoked n = false →
          let m := (s.moved n a.toNat).moved n a.toNat
          exec (.amoswap p f) s = s.endsIn p ((m.setBytes a.toNat (bytesOfNat 4 b.toNat)).setGr p f.rd old) 8
          ∧ exec (.amoadd p f) s = s.endsIn p ((m.setBytes a.toNat (bytesOfNat 4 (old + b).toNat)).setGr p f.rd old) 8
          ∧ (old = s.gr p f.rd →
              exec (.amocas p f) s = s.endsIn p (((m.setBytes a.toNat (bytesOfNat 4 b.toNat)).setGr p f.rd old).setZ p true) 8)
          ∧ (old ≠ s.gr p f.rd → exec (.amocas p f) s = s.endsIn p (((s.moved n a.toNat).setGr p f.rd old).setZ p false) 8))
        ∧ ((s.busRead n a.toNat 4).2.1 ≠ stOk →
          each (.next (((s.busRead n a.toNat 4).1.raiseExc p
            { code := 5, detail := (s.busRead n a.toNat 4).2.1, eval := a }).settleStep p))))
      ∧ ((regionOf a.toNat = .work ∨ regionOf a.toNat = .sram) → s.tagFree n = false → each (.next s))
      ∧ (regionOf a.toNat ≠ .work → regionOf a.toNat ≠ .sram → (s.cpu p).st.exc = false →
        each (.next (s.enterExc p { code := 4, eval := a } false (s.cpu p).pc))))
    ∧ (a.toNat % 4 ≠ 0 → (s.cpu p).st.exc = false → each (.next (s.enterExc p { code := 3, eval := a } false (s.cpu p).pc)))

/-- R121: SSEND takes 16 bytes at rd as the payload of a transmit session for this cycle, replacing one already sent; SRECV copies
the payload of a receive session to rd and Z tells that the fail-safe values were delivered; another direction, a session
not configured for channel A, or 16 bytes not all in data TCM raise ACCESS.
EVAL holds the address in rd (the model's reading, log entry 37). -/
def Obligations.SessionInstructions : Prop :=
  ∀ (s : State) (p : Proc) (f : FmtS), s.runs p mS → f.ra = 0 → f.imm.toNat < 512 →
    let a := (s.gr p f.rd).toNat
    let n := f.imm.toNat
    let inTcm := 0x100000 ≤ a ∧ a + 15 < 0x140000
    a % 4 = 0 →
    (inTcm → (s.sess n).cfgA = true → (s.sess n).tx = true →
      exec (.ssend p f) s = s.endsIn p { s with chA := { s.chA with
        sent := put [] s.chA.sent n ((upFrom 16 a).map (fun i => look 0 s.chA.tcm i)) } } 8)
    ∧ (inTcm → (s.sess n).cfgA = true → (s.sess n).tx = false →
      exec (.srecv p f) s = s.endsIn p ((s.tcmPut a (s.sesPayload n)).setZ p (!(s.sess n).a.live)) 8)
    ∧ (¬ inTcm ∨ (s.sess n).cfgA = false ∨ (s.sess n).tx = false → (s.cpu p).st.exc = false →
      exec (.ssend p f) s = .next (s.enterExc p { code := 4, eval := s.gr p f.rd } false (s.cpu p).pc))
    ∧ (¬ inTcm ∨ (s.sess n).cfgA = false ∨ (s.sess n).tx = true → (s.cpu p).st.exc = false →
      exec (.srecv p f) s = .next (s.enterExc p { code := 4, eval := s.gr p f.rd } false (s.cpu p).pc))

/-- R123, R130, R94: NOP, MFST, MTST, MFSR, MTSR, FENCE and WFI. MTST writes the flags, and IE in K-mode alone; MTSR of EPC, EST,
VBASE, SCRATCH and the first RTEND writes, of ECAUSE, EVAL and a locked RTEND has no effect and sets V; in S-mode MTSR runs below
RTEND, but for the first write of RTEND; FENCE waits for posted stores. R124: CYCEND stops the safety processor until its next
strobe, with its registers kept. V after MTSR of ECAUSE or EVAL, EST [14:0], EVAL of a refused MTSR and the place where FENCE waits
are the model's reading (log entries 37, 92, 94, 95). -/
def Obligations.SystemInstructions : Prop :=
  (∀ (s : State) (p : Proc) (f : FmtR),
      let c := s.cpu p
      (s.runs p mSKU →
        (f = ⟨0, 0, 0, 0⟩ → exec (.nop p f) s = s.endsIn p s 1)
        ∧ (f.ra = 0 → f.rb = 0 → f.aux = 0 → exec (.mfst p f) s = s.endsIn p (s.setGr p f.rd c.stWord) 1)
        ∧ (f.rd = 0 → f.rb = 0 → f.aux = 0 →
          let v := s.gr p f.ra
          exec (.mtst p f) s = s.endsIn p (s.setCpu p { c with st := { c.st with
            z := v.getLsbD 0
            n := v.getLsbD 1
            c := v.getLsbD 2
            v := v.getLsbD 3
            ie := if c.st.mode = 1 then v.getLsbD 6 else c.st.ie } }) 1)
        ∧ (f = ⟨0, 0, 0, 0⟩ → p = .safety → exec (.fence p f) s = s.endsIn p s 2)
        ∧ (∀ k : Fin 4, f = ⟨0, 0, 0, 0⟩ → p = .ac k → s.storesPending k = false → exec (.fence p f) s = s.endsIn p s 2)
        ∧ (∀ k : Fin 4, f = ⟨0, 0, 0, 0⟩ → p = .ac k → s.storesPending k = true →
          exec (.fence p f) s = .next (s.setCpu p { c with run := .waitFence })))
      ∧ (s.runs p mSK →
        (f.ra = 0 → f.rb = 0 → State.specialOk p f.aux.toNat = true →
          exec (.mfsr p f) s = s.endsIn p (s.setGr p f.rd (s.special p f.aux.toNat)) 2)
        ∧ (f.rd = 0 → f.rb = 0 → (c.st.mode = 2 → c.pc.toNat < c.rtend.toNat) →
          let v := s.gr p f.ra
          (f.aux = 0 → exec (.mtsr p f) s = s.endsIn p (s.setCpu p { c with epc := v }) 2)
          ∧ (f.aux = 1 → exec (.mtsr p f) s = s.endsIn p (s.setCpu p { c with est := v &&& 0x7FFF }) 2)
          ∧ (f.aux = 2 ∨ f.aux = 3 → exec (.mtsr p f) s = s.endsIn p (s.setCpu p { c with st := { c.st with v := true } }) 2)
          ∧ (f.aux = 4 → p ≠ .safety → exec (.mtsr p f) s = s.endsIn p (s.setCpu p { c with vbase := v &&& 0xFFFFFF00 }) 2)
          ∧ (f.aux = 7 → exec (.mtsr p f) s = s.endsIn p (s.setCpu p { c with scratch := v }) 2)
          ∧ (f.aux = 8 → p = .safety → c.rtendSet = true →
              exec (.mtsr p f) s = s.endsIn p (s.setCpu p { c with st := { c.st with v := true } }) 2))
        ∧ (f.rd = 0 → f.rb = 0 → f.aux = 8 → p = .safety → c.rtendSet = false →
          exec (.mtsr p f) s = s.endsIn p (s.setCpu p { c with rtend := s.gr p f.ra, rtendSet := true }) 2)
        ∧ (f.rd = 0 → f.rb = 0 → f.aux.toNat < 4 → c.st.mode = 2 → c.rtend.toNat ≤ c.pc.toNat → c.st.exc = false →
          exec (.mtsr p f) s = .next (s.enterExc p { code := 4, eval := BitVec.ofNat 32 f.aux.toNat } false c.pc)))
      ∧ (s.runs p mK → f = ⟨0, 0, 0, 0⟩ →
        let t := s.flowOn p c.pc
        exec (.wfi p f) s = .next ((t.setCpu p { t.cpu p with run := .waitInt }).ran p 1)))
  ∧ (∀ (s : State) (f : FmtR), s.runs .safety mS → f = ⟨0, 0, 0, 0⟩ →
      exec (.cycend .safety f) s = .next (State.ran { s with
        sp := { s.sp with run := .waitStrobe }
        chA := { s.chA with phase := .idle } } .safety 1))

/-- R127: exception entry saves pc in EPC and st in EST, writes ECAUSE and EVAL, sets EXC and clears IE, and continues at 0x80 on the
safety processor, and on a core in K-mode at VBASE, plus 0x100 for an interrupt; the stacks and general registers stay. -/
def Obligations.ExceptionEntry : Prop :=
  ∀ (s : State) (e : Exc) (imp : Bool) (epc : Word), e.code < 256 → e.detail < 65536 →
    (∀ p : Proc,
      let c := s.cpu p
      let d := (s.enterExc p e imp epc).cpu p
      d.epc = epc ∧ d.est = c.stWord ∧ d.eval = e.eval
      ∧ d.ecause.toNat = e.code + (if imp then 256 else 0) + 65536 * e.detail
      ∧ d.st.exc = true ∧ d.st.ie = false ∧ d.rets = c.rets ∧ d.loops = c.loops ∧ d.g = c.g ∧ d.sb = c.sb
      ∧ (∀ q : Proc, q ≠ p → (s.enterExc p e imp epc).cpu q = s.cpu q))
    ∧ (s.enterExc .safety e imp epc).sp.pc = 0x80
    ∧ (s.enterExc .safety e imp epc).sp.st.mode = s.sp.st.mode
    ∧ (∀ k : Fin 4,
      let c := s.cpu (.ac k)
      let d := (s.enterExc (.ac k) e imp epc).cpu (.ac k)
      d.st.mode = 1 ∧ d.pc = c.vbase + (if e.code = 16 then 0x100 else 0))

/-- R123, R125, R127, R129: TRAP raises TRAP with aux, saving the address behind it; BRK without a debugger that may halt the
processor raises BRK, and with one halts it; in a handler either is a double fault, which stops the processor. A debugger is
attached while it has a processor selected, and BRK halts with the pc behind it (the model's reading, log entry 27). -/
def Obligations.TrapAndBreak : Prop :=
  ∀ (s : State) (p : Proc) (f : FmtR), f.rd = 0 → f.ra = 0 → f.rb = 0 →
    let c := s.cpu p
    (s.runs p mKU → c.st.exc = false →
      exec (.trap p f) s = .next (s.enterExc p { code := 8, detail := f.aux.toNat } false (c.pc + 4)))
    ∧ (s.runs p mKU → c.st.exc = true → ∃ t, exec (.trap p f) s = .next t ∧ (t.cpu p).run = .stopped ∧ (t.cpu p).pc = c.pc)
    ∧ (s.runs p mSKU → f.aux = 0 →
      ((s.dbg.sel = none ∨ s.haltAllowed p = false) → c.st.exc = false → exec (.brk p f) s = .next (s.enterExc p { code := 9 } false c.pc))
      ∧ (s.dbg.sel ≠ none → s.haltAllowed p = true →
          ∃ t, exec (.brk p f) s = .next t ∧ (t.cpu p).run = .halted .running
            ∧ (c.loops = [] → (t.cpu p).pc = c.pc + 4)))

/-- R123, R127: RFE takes pc from EPC and st from EST with EXC cleared and ends the loops of the handler; EST holding another
mode than U or K is illegal and a misaligned EPC raises ALIGN. -/
def Obligations.ReturnFromException : Prop :=
  ∀ (s : State) (k : Fin 4) (f : FmtR), s.runs (.ac k) mK → f = ⟨0, 0, 0, 0⟩ →
    let p := Proc.ac k
    let c := s.cpu p
    let d : Cpu := { c with
      pc := c.epc
      st := { StBits.ofWord c.est with exc := false }
      loops := c.loops.filter (fun (e : LoopEnt) => !e.exc) }
    (c.est.toNat / 16 % 4 < 2 → c.epc.toNat % 4 = 0 →
      exec (.rfe p f) s = (((s.setCpu p d).afterRfe k)).leaves p 4)
    ∧ (c.est.toNat / 16 % 4 < 2 → c.epc.toNat % 4 ≠ 0 → c.st.exc = false →
      exec (.rfe p f) s = .next (s.enterExc p { code := 3, eval := c.epc } false c.pc))
    ∧ (2 ≤ c.est.toNat / 16 % 4 → c.st.exc = false →
      exec (.rfe p f) s = .next (s.enterExc p { code := 1, eval := 0xFC000200 } false c.pc))

/-- R97, R101, R126, R128: outside its modes an instruction raises ILL, a K-only instruction in U-mode PRIV, each with the
instruction word in EVAL; the word of WFI is 0xFC000900, of CYCEND 0xFC000B00; a double fault stops the processor. -/
def Obligations.ModeChecks : Prop :=
  ∀ (s : State) (p : Proc), s.atNext p →
    let c := s.cpu p
    (c.st.mode = 0 → c.st.exc = false →
      exec (.wfi p ⟨0, 0, 0, 0⟩) s = .next (s.enterExc p { code := 2, eval := 0xFC000900 } false c.pc)
      ∧ exec (.cycend p ⟨0, 0, 0, 0⟩) s = .next (s.enterExc p { code := 1, eval := 0xFC000B00 } false c.pc))
    ∧ (c.st.mode = 2 → c.st.exc = false →
      exec (.wfi p ⟨0, 0, 0, 0⟩) s = .next (s.enterExc p { code := 1, eval := 0xFC000900 } false c.pc))
    ∧ (c.st.mode = 2 → c.st.exc = true →
      ∃ t, exec (.wfi p ⟨0, 0, 0, 0⟩) s = .next t ∧ (t.cpu p).run = .stopped)
    ∧ (∀ f : FmtR, f.aux ≠ 0 → c.st.exc = false →
      exec (.add p f) s = .next (s.enterExc p { code := 1, eval := wordR 1 0 f } false c.pc))

/-- R126-R128, R110, 21 R537: a core takes a pending interrupt at a boundary with IE 1 and EXC 0 and no error of a posted store
before it, saving its pc; the error of a posted store is taken with IMP set and its address, IGNORED as IGNW, and within an
instruction it waits for the boundary; a breakpoint at the next instruction's address halts the processor where it may be halted.
Whichever stands goes before the next instruction: the error, then the interrupt with the lowest number, then the breakpoint; an
instruction that a breakpoint has held executes once the debugger lets it.
The error is taken whatever EXC is, and the order among interrupts and breakpoints is the model's choice (log entries 15, 93, 134). -/
def Obligations.AsynchronousEvents : Prop :=
  ∀ (s : State),
    (∀ (k : Fin 4) (n : BitVec 6),
      let c := s.cpu (.ac k)
      (c.run = .running ∨ c.run = .waitInt ∨ c.run = .idle) → c.st.ie = true → c.st.exc = false → c.stepping = false → c.due = [] →
      s.irqPending k n.toNat = true →
      (∃ t, exec (.interrupt k n) s = .next t
        ∧ (t.cpu (.ac k)).epc = c.pc ∧ (t.cpu (.ac k)).pc = c.vbase + 0x100 ∧ (t.cpu (.ac k)).est = c.stWord
        ∧ (t.cpu (.ac k)).st.mode = 1 ∧ (t.cpu (.ac k)).st.ie = false ∧ (t.cpu (.ac k)).st.exc = true
        ∧ (t.cpu (.ac k)).ecause.toNat = 16 + 65536 * n.toNat
        ∧ (t.cpu (.ac k)).irq.getLsbD n.toNat = false)
      ∧ (c.run = .running → c.killDue = false → (∀ m : Nat, m < n.toNat → s.irqPending k m = false) →
          ∀ f : FmtR, exec (.nop (.ac k) f) s = exec (.interrupt k n) s))
    ∧ (∀ (k : Fin 4) (st : Nat) (a : Word) (rest : List (Nat × Word)),
      let c := s.cpu (.ac k)
      c.posted = (st, a) :: rest → c.due = [] →
      ((c.run = .running ∨ c.run = .waitInt ∨ c.run = .idle ∨ c.run = .waitFence) → (st = stError ∨ st = stDecode ∨ st = stIgnored) →
        ∃ t, exec (.impreciseBus k) s = .next t
          ∧ (t.cpu (.ac k)).epc = c.pc ∧ (t.cpu (.ac k)).pc = c.vbase
          ∧ (t.cpu (.ac k)).eval = (if st = stIgnored then 0 else a)
          ∧ (t.cpu (.ac k)).ecause.toNat = (if st = stIgnored then 6 + 256 else 5 + 256 + 65536 * st)
          ∧ (t.cpu (.ac k)).posted = rest ∧ (t.cpu (.ac k)).due = [])
      ∧ (∀ rd sh, c.run = .waitRemote rd sh →
        exec (.impreciseBus k) s = .next (s.setCpu (.ac k) { c with posted := rest, due := [(st, a)] })))
    ∧ (∀ (k : Fin 4), (s.cpu (.ac k)).run = .running → (s.cpu (.ac k)).killDue = false → (s.cpu (.ac k)).posted = [] →
      (s.cpu (.ac k)).due ≠ [] → ∀ f : FmtR, exec (.nop (.ac k) f) s = exec (.impreciseBus k) s)
    ∧ (∀ (p : Proc) (slot : Fin 4),
      look none s.dbg.bps (4 * (match p with | .ac k => k.val | .safety => 4) + slot) = some (s.cpu p).pc →
      (s.cpu p).run = .running → s.haltAllowed p = true → (s.cpu p).past ≠ some (s.cpu p).pc →
      (∃ t, exec (.breakpointHit p slot) s = .next t ∧ (t.cpu p).run = .halted .running ∧ (t.cpu p).pc = (s.cpu p).pc)
      ∧ ((∀ k : Fin 4, p = .ac k → (s.cpu p).killDue = false ∧ (s.cpu p).due = [] ∧ (s.cpu p).st.ie = false) →
          ∀ f : FmtR, exec (.nop p f) s = exec (.breakpointHit p slot) s))
    ∧ (∀ p : Proc,
      let u := s.setCpu p { s.cpu p with past := none }
      (s.cpu p).run = .running → (s.cpu p).stepping = false → s.firstDue p = none → u.fetch p = (u, none) →
      (s.cpu p).st.mode.toNat < 3 → exec (.nop p ⟨0, 0, 0, 0⟩) s = u.endsIn p u 1)

/-- R131-R135: what the task instructions do: TNEW takes a FREE context, TRUN makes a HELD one READY, TKILL frees one, TGET and
TSET read and write a field, TSELF gives the running one; where they fail Z is 0 and nothing else changes, but for TNEW's rd when no
context is FREE.
Which FREE context TNEW takes is free (log entry 1). -/
def Obligations.TaskInstructions : Prop :=
  ∀ (s : State) (k : Fin 4) (f : FmtR), s.runs (.ac k) mK →
    let p := Proc.ac k
    let x := (s.gr p f.ra).toNat
    let v := s.gr p f.rb
    let allowed := v.toNat % 8 ≠ 0 ∧ v.toNat % 8 ≤ 4 ∧ v.toNat / 256 % 16 ≠ 0
    let next := (s.setZ p true).flowOn p (s.cpu p).pc
    let field := f.aux.toNat ≤ 3 ∨ (0x11 ≤ f.aux.toNat ∧ f.aux.toNat ≤ 0x1F)
    let access := State.enterExc s p { code := 4, eval := s.gr p f.ra } false (s.cpu p).pc
    let fails := s.endsIn p (s.setZ p false)
    (f.aux = 0 → (∀ y, y < 64 → (s.ctx y).state ≠ .free) →
      exec (.tnew p f) s = s.endsIn p ((s.setGr p f.rd 0xFFFFFFFF).setZ p false) 8)
    ∧ (f.aux = 0 → (∃ y, y < 64 ∧ (s.ctx y).state = .free) → ¬ allowed → exec (.tnew p f) s = fails 8)
    ∧ (f.aux = 0 → (∃ y, y < 64 ∧ (s.ctx y).state = .free) → allowed →
      let made : Ctx := {
        state := .held
        pc := s.gr p f.ra &&& 0xFFFFFFFC
        cls := v.extractLsb' 0 3
        energy := v.extractLsb' 4 2
        affin := v.extractLsb' 8 4 }
      ∃ y : Nat, y < 64 ∧ (s.ctx y).state = .free
        ∧ exec (.tnew p f) s = s.endsIn p (((s.drawn.setCtx y made).setGr p f.rd (BitVec.ofNat 32 y)).setZ p true) 8)
    ∧ (f.rd = 0 → f.rb = 0 → f.aux = 0 → x < 64 →
      ((s.ctx x).state = .held → exec (.trun p f) s = (next.makeReady x).leaves p 4)
      ∧ ((s.ctx x).state ≠ .held → exec (.trun p f) s = fails 4)
      ∧ ((s.ctx x).state = .free → exec (.tkill p f) s = fails 8)
      ∧ ((s.ctx x).state ≠ .free → (s.core k).task ≠ some x →
          exec (.tkill p f) s = (next.kill x).leaves p 8)
      ∧ ((s.ctx x).state ≠ .free → (s.core k).task = some x → exec (.tkill p f) s = (s.exitCtx k).leaves p 8))
    ∧ (f.rb = 0 → field → x < 64 →
      ((s.ctx x).state = .free → exec (.tget p f) s = fails 4)
      ∧ (∀ w, (s.ctx x).state ≠ .free → s.ctxField x f.aux.toNat = some w →
          exec (.tget p f) s = s.endsIn p ((s.setGr p f.rd w).setZ p true) 4))
    ∧ (f.rd = 0 → field → x < 64 →
      ((s.ctx x).state = .running ∨ f.aux = 0 ∨ (f.aux = 3 ∧ ¬ allowed) → exec (.tset p f) s = fails 4)
      ∧ ((s.ctx x).state ≠ .running → f.aux = 3 → allowed →
          exec (.tset p f) s = ((next.setCtxField x 3 v).settleReady).leaves p 4)
      ∧ ((s.ctx x).state ≠ .running → f.aux ≠ 0 → f.aux ≠ 3 →
          exec (.tset p f) s = s.endsIn p ((s.setCtxField x f.aux.toNat v).setZ p true) 4))
    ∧ (f.ra = 0 → f.rb = 0 → f.aux = 0 →
      exec (.tself p f) s = s.endsIn p (s.setGr p f.rd (BitVec.ofNat 32 ((s.core k).task.getD 0))) 1)
    ∧ (64 ≤ x → (s.cpu p).st.exc = false →
      (f.rd = 0 → f.rb = 0 → f.aux = 0 → exec (.trun p f) s = .next access ∧ exec (.tkill p f) s = .next access)
      ∧ (f.rb = 0 → field → exec (.tget p f) s = .next access)
      ∧ (f.rd = 0 → field → exec (.tset p f) s = .next access))

/-- R133-R136: TYIELD puts the running context at the tail of its ready queue, TWAITQ on an empty queue that the core owns makes it
WAITING, TEXIT frees it, and each has the core dispatch its next; TWAITQ on a queue with an entry goes on, and on one that the
core does not own raises ACCESS; TASK_WAKE makes a WAITING context READY once its queue holds an entry. -/
def Obligations.TaskSwitches : Prop :=
  ∀ (s : State) (k : Fin 4) (f : FmtR) (x : Nat), s.runs (.ac k) mKU →
    let p := Proc.ac k
    let q := (s.gr p f.ra).toNat
    let t := s.flowOn p (s.cpu p).pc
    let saved := (t.saveCtx k x).ctx x
    (f = ⟨0, 0, 0, 0⟩ → (s.core k).task = some x →
      exec (.tyield p f) s = (((((t.saveCtx k x).setReady k saved.cls.toNat ((t.saveCtx k x).readyList k saved.cls.toNat ++ [x])).setCtx x
        { saved with state := .ready, core := k }).leaveCtx k).settleReady).leaves p 4)
    ∧ (f = ⟨0, 0, 0, 0⟩ → (s.core k).task = none → exec (.tyield p f) s = (t.leaveCtx k).leaves p 4)
    ∧ (f = ⟨0, 0, 0, 0⟩ → exec (.texit p f) s = (s.exitCtx k).leaves p 4)
    ∧ (f.rd = 0 → f.rb = 0 → f.aux = 0 → q < 128 → s.qOwned q = true → s.qOwner q = k →
      (s.qAvail q = true ∨ (s.core k).task = none → exec (.twaitq p f) s = s.endsIn p s 4)
      ∧ (s.qAvail q = false → (s.core k).task = some x →
          exec (.twaitq p f) s = (((t.saveCtx k x).setCtx x { saved with state := .waiting, waitQ := q }).leaveCtx k).leaves p 4))
    ∧ (f.rd = 0 → f.rb = 0 → f.aux = 0 → (128 ≤ q ∨ s.qOwned q = false ∨ s.qOwner q ≠ k) → (s.cpu p).st.exc = false →
      exec (.twaitq p f) s = .next (s.enterExc p { code := 4, eval := s.gr p f.ra } false (s.cpu p).pc))
    ∧ (∀ y : Fin 64, (s.ctx y).state = .waiting → s.qAvail (s.ctx y).waitQ = true → exec (.taskWake y) s = .next (s.makeReady y))
    ∧ (∀ y : Fin 64, ((s.ctx y).state ≠ .waiting ∨ s.qAvail (s.ctx y).waitQ = false) → exec (.taskWake y) s = .next s)

/-- What the spec states of the machine right after reset, as State.reset holds it: the counters and latch of the mode controller, the
processors' registers and status (04 R93, R94, R130), the governor's registers (17), the contexts' attributes (04 R132), open ports
(10 R301).
That no command waits is the model's choice. -/
def Obligations.ResetState : Prop :=
  State.reset.md.latch = false ∧ State.reset.md.reacts = 0 ∧ State.reset.md.locks = 0 ∧ State.reset.md.holds = 0
  ∧ (∀ p : Proc, (State.reset.cpu p).rets = [] ∧ (State.reset.cpu p).loops = []
      ∧ (State.reset.cpu p).epc = 0 ∧ (State.reset.cpu p).est = 0 ∧ (State.reset.cpu p).ecause = 0 ∧ (State.reset.cpu p).eval = 0
      ∧ (State.reset.cpu p).vbase = 0 ∧ (State.reset.cpu p).scratch = 0 ∧ (State.reset.cpu p).rtend = 0
      ∧ (State.reset.cpu p).st.exc = false)
  ∧ State.reset.sp.st.mode = 2
  ∧ (∀ k : Fin 4, (State.reset.cpu (.ac k)).st.mode = 1 ∧ (State.reset.cpu (.ac k)).st.ie = false)
  ∧ State.reset.reg (govB + 0x04) = 0x2328 ∧ State.reset.reg (govB + 0x08) = 0x73 ∧ State.reset.reg (govB + 0x0C) = 0x3C
  ∧ State.reset.reg (govB + 0x10) = 0x32 ∧ State.reset.reg (govB + 0x14) = 0x382A1C0E ∧ State.reset.reg (govB + 0x18) = 0x64
  ∧ (∀ x : Nat, (State.reset.ctx x).state = .free ∧ (State.reset.ctx x).cls = 3 ∧ (State.reset.ctx x).affin = 15)
  ∧ (∀ m : Nat, State.reset.revoked m = false)
  ∧ State.reset.pending = []

/-- R46, R47, R50, R53, R61, R65: what the supplies and RST_N do. Power up enters RESET from OFF; a failing logic rail enters OFF
from START, RESET and HOLDUP; RST_N enters RESET from every mode but OFF; VL below the hold-up entry enters HOLDUP from VERIFY and
every mode after it, with the cores stopped and the switches open; HOLDUP ends in RESET once the flush is complete and VL valid; a
power cycle clears the lockout latch and the entry counters. In every other mode the event leaves the mode unchanged. -/
def Obligations.SupplyTransitions : Prop :=
  ∀ (s : State),
    (s.md.mode = .off → ∃ t, exec .powerUp s = .next t ∧ t.md.mode = .reset ∧ t.md.prev = .off ∧ t.md.cause = 0 ∧ t.md.latch = s.md.latch)
    ∧ (s.md.mode ≠ .off → exec .powerUp s = .next s)
    ∧ ((s.md.mode = .start ∨ s.md.mode = .reset ∨ s.md.mode = .holdup) → ∃ t, exec .logicRailFail s = .next t ∧ t.md.mode = .off)
    ∧ (s.md.mode ≠ .start → s.md.mode ≠ .reset → s.md.mode ≠ .holdup → exec .logicRailFail s = .next s)
    ∧ (s.md.mode ≠ .off → ∃ t, exec .rstNLow s = .next t ∧ t.md.mode = .reset ∧ t.md.prev = s.md.mode ∧ t.md.cause = 1
        ∧ (s.md.latch = true → t.md.latch = true) ∧ t.md.restarts = (if s.md.restarts < 255 then s.md.restarts + 1 else s.md.restarts))
    ∧ (s.md.mode = .off → exec .rstNLow s = .next s)
    ∧ (s.md.mode ≠ .off → s.md.mode ≠ .reset → s.md.mode ≠ .start → s.md.mode ≠ .holdup →
      ∃ t, exec .holdupEntry s = .next t ∧ t.md.mode = .holdup ∧ t.md.prev = s.md.mode ∧ t.md.cause = 0x30
        ∧ t.md.holds = (if s.md.holds < 255 then s.md.holds + 1 else s.md.holds)
        ∧ (∀ k : Fin 4, (t.cpu (.ac k)).run = .stopped)
        ∧ (∀ k, (t.out k).swA = false ∧ (t.out k).swB = false))
    ∧ (s.md.mode = .holdup → s.md.flushed = false →
      (s.md.powerValid = true → ∃ t, exec .holdupFlushComplete s = .next t ∧ t.md.mode = .reset ∧ t.md.cause = 6)
      ∧ (s.md.powerValid = false → ∃ t, exec .holdupFlushComplete s = .next t ∧ t.md.mode = .holdup ∧ t.md.flushed = true
          ∧ t.mem.stage = []))
    ∧ (s.md.mode = .holdup → s.md.flushed = true → ∃ t, exec .powerValid s = .next t ∧ t.md.mode = .reset ∧ t.md.cause = 6)
    ∧ (s.md.mode ≠ .holdup ∨ s.md.flushed = false → exec .powerValid s = .next { s with md := { s.md with powerValid := true } })
    ∧ (s.md.mode ≠ .holdup ∨ s.md.flushed = true → exec .holdupFlushComplete s = .next s)
    ∧ ((s.md.mode = .off ∨ s.md.mode = .reset ∨ s.md.mode = .start ∨ s.md.mode = .holdup) → exec .holdupEntry s = .next s)
    ∧ (∃ t, exec .powerCycleDetect s = .next t ∧ t.md.latch = false ∧ t.md.lcause = 0 ∧ t.md.reacts = 0 ∧ t.md.locks = 0
        ∧ t.md.holds = 0 ∧ t.md.restarts = 0 ∧ t.md.mode = s.md.mode)

/-- R47, R61 with 18 R473, 20 R505, 22 R551: the start. RESET is released into START; the power-on run ends in LOCKOUT where a step
or the on-test of an output failed or a region of OTP is not locked, and in VERIFY otherwise; the decision that ends VERIFY gives
LOCKOUT without firmware, with the latch or after a C3 fault, IDLE in RETURNED or without a pair of images, and else RUN or
COMMISSION; it waits for VHOLD but for LOCKOUT, and a C3 fault received meanwhile leads to LOCKOUT. 06 R203, 01 R21: the loader runs
in VERIFY on the released parameter image; LDSTAT tells that it has loaded or refused it. The cause where several conditions for
LOCKOUT hold is the model's choice (log entry 114). -/
def Obligations.StartSequence : Prop :=
  (∀ (s : State),
      (∀ straps pll weak, s.md.mode = .reset →
        ∃ t, exec (.resetRelease straps pll weak) s = .next t ∧ t.md.mode = .start ∧ t.md.cause = 5 ∧ t.lnk.id = straps.toNat
          ∧ t.tmr.lock = pll ∧ t.chA.tcm = [] ∧ t.queues = [])
      ∧ (∀ e : PostEnv, s.md.mode = .start →
        let bad := e.onFail ≠ 0 ∨ ∃ i : Nat, i < 10 ∧ i ≠ 8 ∧ e.failed.getLsbD i = true
        (bad → ∃ t, exec (.powerOnRunComplete e) s = .next t ∧ t.md.mode = .lockout ∧ t.md.cause = 0x32 ∧ t.md.latch = true)
        ∧ (¬ bad → (s.isLocked 0 = false ∨ s.isLocked 1 = false) →
            ∃ t, exec (.powerOnRunComplete e) s = .next t ∧ t.md.mode = .lockout ∧ t.md.cause = 0x34 ∧ t.md.latch = true)
        ∧ (¬ bad → s.isLocked 0 = true → s.isLocked 1 = true →
            ∃ t, exec (.powerOnRunComplete e) s = .next t ∧ t.md.mode = .verify ∧ t.md.cause = 4))
      ∧ (s.md.mode = .verify → s.md.decision = none → (s.md.pairOk = true → s.md.loaderRan = true) →
        (s.md.firmwareOk = false → ∃ t, exec .modeDecision s = .next t ∧ t.md.mode = .lockout ∧ t.md.cause = 0x33 ∧ t.md.latch = true)
        ∧ (s.md.firmwareOk = true → s.md.latch = true → ∃ t, exec .modeDecision s = .next t ∧ t.md.mode = .lockout ∧ t.md.cause = 0x31
            ∧ t.md.lcause = s.md.lcause)
        ∧ (s.md.firmwareOk = true → s.md.latch = false → s.md.startC3 = true →
            ∃ t, exec .modeDecision s = .next t ∧ t.md.mode = .lockout ∧ t.md.cause = 0x36 ∧ t.md.latch = true)
        ∧ (s.md.firmwareOk = true → s.md.latch = false → s.md.startC3 = false →
          ((s.md.pairOk = false ∨ s.lc = 3) →
            (s.md.vholdCharged = true → ∃ t, exec .modeDecision s = .next t ∧ t.md.mode = .idle ∧ t.md.cause = 0x21)
            ∧ (s.md.vholdCharged = false →
              ∃ t, exec .modeDecision s = .next t ∧ t.md.mode = .verify ∧ t.md.decision = some (.idle, 0x21)))
          ∧ (s.md.pairOk = true → s.lc ≠ 3 → s.md.vholdCharged = true →
            ∃ t, exec .modeDecision s = .next t ∧ ((t.md.mode = .run ∧ t.md.cause = 0x23) ∨ (t.md.mode = .commission ∧ t.md.cause = 0x22)))))
      ∧ (∀ m c, s.md.mode = .verify → s.md.decision = some (m, c) → m ≠ .off →
        (s.md.startC3 = false ∨ m = .lockout →
          (∃ t, exec .vholdCharged s = .next t ∧ t.md.mode = m ∧ t.md.cause = c ∧ t.md.prev = .verify)
          ∧ (s.md.vholdCharged = false → ∃ t, exec .vholdChargeTimeout s = .next t ∧ t.md.mode = m ∧ t.md.cause = c))
        ∧ (s.md.startC3 = true → m ≠ .lockout →
          (∃ t, exec .vholdCharged s = .next t ∧ t.md.mode = .lockout ∧ t.md.cause = 0x36)
          ∧ (s.md.vholdCharged = false → ∃ t, exec .vholdChargeTimeout s = .next t ∧ t.md.mode = .lockout ∧ t.md.cause = 0x36))
        ∧ (s.md.vholdCharged = false → m ≠ .reset → (s.src 85).rail = .ok →
          ∃ t, exec .vholdChargeTimeout s = .next t ∧ ∃ r ∈ t.flt.raised, r.src = 85 ∧ r.detail = 1))
      ∧ (s.md.mode ≠ .verify → exec .vholdCharged s = .next { s with md := { s.md with vholdCharged := true } }))
  ∧ (∀ (s : State) (slot : Bool) (a len : Nat), s.md.mode = .verify → s.md.loaderRan = false → s.released slot.toNat = some (a, len) →
      ∃ t, exec (.loaderRun slot) s = .next t ∧ t.md.loaderRan = true
        ∧ ((t.reg (sioB + 0x20) = 2 ∧ t.lat.loaded = true ∧ t.reg (sioB + 0x24) = 0)
          ∨ (t.reg (sioB + 0x20) = 3 ∧ t.lat.loaded = false ∧ t.md.pairOk = false)))

/-- 10 R290, R291, R304, 01 R36, 08 R243: hardware conditions drive their source: its pair shows Fault and the raise waits for its
receipt; a source that shows Fault already stays as it is. The loss of a switch driver's rail opens that channel's switches.
That the raise waits for its receipt, and that a rail out of its window is its loss, is the model's choice (log entries 29, 123). -/
def Obligations.HardwareFaults : Prop :=
  ∀ (s : State), s.md.mode ≠ .off →
    let raises := fun (i : Instr) (n : Nat) (d : BitVec 16) =>
      ((s.src n).rail = .ok → ∃ t, exec i s = .next t ∧ (t.src n).rail = .fault
        ∧ t.flt.raised = s.flt.raised ++ [{ src := n, detail := d, time := s.now }]
        ∧ (∀ k, k ≠ n → t.src k = s.src k) ∧ t.md = s.md ∧ t.mem = s.mem)
      ∧ ((s.src n).rail ≠ .ok → ∃ t, exec i s = .next t ∧ t.flt = s.flt ∧ t.md = s.md ∧ t.mem = s.mem)
    raises (.vlOvervoltage true) 80 0
    ∧ raises (.coreRailFault false true) 81 0 ∧ raises (.coreRailFault true true) 82 0
    ∧ (∀ k : Fin 8, raises (.junctionOvertemp k true) 83 (BitVec.ofNat 16 k))
    ∧ raises (.vioFault true) 84 0
    ∧ (∀ b : Bool, ∃ t, exec (.coreRailFault b true) s = .next t
        ∧ (∀ k : Nat, k < 12 → (if b then (t.out k).swB else (t.out k).swA) = false
          ∧ (if b then (t.out k).swA = (s.out k).swA else (t.out k).swB = (s.out k).swB)))

/-- 10 R288, R293, R295-R297, 02 R47, R49: a received fault with reaction DEVICE_STO, in RUN or COMMISSION, takes the device to
REACT with every switch open, the mode left as return mode, and the source among those being recovered; one of a lower reaction
leaves the mode. It is the lowest source of its receipt (R303), at a time when no quiet period has run to its end. A wiring fault is
a fault of at least class C2. A source whose code returns to OK while it is being recovered is CLEARING. -/
def Obligations.FaultReactions : Prop :=
  ∀ (s : State) (n : BitVec 8) (d : BitVec 16) (e : Raised) (w : Bool) (rest : List Raised),
    State.takeRaised n.toNat s.flt.raised = some (e, rest) → (srcDefault n.toNat).isSome = true → (s.src n.toNat).st = .ok →
    (∀ r ∈ s.flt.raised, r.time = e.time → n.toNat ≤ r.src) → (∀ k x, s.windowEnd k = some x → s.now < x) →
    n.toNat < 32 ∨ 60 ≤ n.toNat → n ≠ 12 → (s.md.mode = .run ∨ s.md.mode = .commission) →
    (2 ≤ s.recoveredAs n.toNat (s.matEnt n.toNat).cls →
      ∃ t, exec (.faultReceipt n w d) s = .next t ∧ t.md.mode = .react ∧ t.md.cause = 0x10 ∧ t.md.returnMode = s.md.mode
        ∧ (t.src n.toNat).causing = true ∧ (t.src n.toNat).st = .fault
        ∧ (∀ k, (t.out k).swA = false ∧ (t.out k).swB = false))
    ∧ (s.recoveredAs n.toNat (s.matEnt n.toNat).cls < 2 →
      ∃ t, exec (.faultReceipt n w d) s = .next t ∧ t.md = s.md ∧ (t.src n.toNat).st = .fault ∧ t.outputs = s.outputs)

/-- 10 R288, R295, R297: a wiring fault of a source in FAULT gives it the state WIRING and at least class C2; the return of a source
to OK clears its pair, and leaves it CLEARING while it is being recovered or holds ZONE_STOP lines; the end of its window makes it
quiet.
R47, R49, 10 R296: REACT ends in QUIET once the outputs are confirmed off, in LOCKOUT with a C3 fault or one beyond its recovery
limit, and in LOCKOUT after 50 ms without confirmation; LOCKOUT sets the latch with its cause. -/
def Obligations.SourcesAndReactionEnds : Prop :=
  (∀ (s : State) (n : BitVec 8) (d : BitVec 16),
      ((s.src n.toNat).st = .fault → s.md.mode = .lockout →
        ∃ t, exec (.wiringFault n d) s = .next t ∧ (t.src n.toNat).st = .wiring ∧ 2 ≤ (t.src n.toNat).cls ∧ t.md = s.md)
      ∧ ((s.src n.toNat).st = .fault → s.standing n.toNat = false →
        ∃ t, exec (.sourceClear n) s = .next t ∧ (n ≠ 137 → (t.src n.toNat).rail = .ok) ∧ (t.src n.toNat).clearAt = s.now
          ∧ (t.src n.toNat).st = (if (s.src n.toNat).causing = true ∨ (s.src n.toNat).zline = true then .clearing else .ok)
          ∧ t.md = s.md)
      ∧ (∀ w, s.windowEnd n.toNat = some w → s.md.mode = .quiet → w ≤ s.now →
        ∃ t, exec (.quietPeriodComplete n) s = .next t ∧ (t.src n.toNat).quiet = true))
  ∧ (∀ (s : State),
      (s.md.mode = .react →
        (s.mustLock = false → ∃ t, exec .outputsConfirmedOff s = .next t ∧ t.md.mode = .quiet ∧ t.md.cause = 0x14
          ∧ t.md.returnMode = s.md.returnMode)
        ∧ (s.mustLock = true → ∃ t, exec .outputsConfirmedOff s = .next t ∧ t.md.mode = .lockout ∧ t.md.cause = 0x11 ∧ t.md.latch = true)
        ∧ (∃ t, exec .reactConfirmTimeout s = .next t ∧ t.md.mode = .lockout ∧ t.md.cause = 0x12 ∧ t.md.latch = true
            ∧ (s.md.latch = false → t.md.lcause = 0x12)))
      ∧ (s.md.mode ≠ .react → exec .outputsConfirmedOff s = .next s ∧ exec .reactConfirmTimeout s = .next s))

/-- R51, R62, R63: SYS.MODEREQ. A software restart in VERIFY, IDLE, COMMISSION, RUN or LOCKOUT and a service exit in SERVICE enter
RESET with their cause; a service request with its authorisation stands PENDING until the next col slot; what is refused leaves the
mode and reports its reason; a write while a request is PENDING is IGNORED.
The response OK of a restart is the model's reading, and the reason kept where several hold its choice (log entries 67, 138). -/
def Obligations.ModeRequests : Prop :=
  ∀ (s : State) (m : Fin 10), s.revoked m = false →
    (s.md.reqState ≠ 1 →
      ((s.md.mode = .verify ∨ s.md.mode = .idle ∨ s.md.mode = .commission ∨ s.md.mode = .run ∨ s.md.mode = .lockout) →
        ∃ t, exec (.softwareRestart m) s = .next t ∧ t.md.mode = .reset ∧ t.md.cause = 2 ∧ t.resp.status = stOk)
      ∧ ((s.md.mode = .react ∨ s.md.mode = .quiet) →
        ∃ t, exec (.softwareRestart m) s = .next t ∧ t.md = { s.md with reqState := 3, reqRefuse := 5 })
      ∧ (s.md.mode = .service → ∃ t, exec (.serviceExit m) s = .next t ∧ t.md.mode = .reset ∧ t.md.cause = 3
          ∧ (s.md.svcFromLock = true → t.md.latch = false))
      ∧ (s.md.mode ≠ .service → ∃ t, exec (.serviceExit m) s = .next t ∧ t.md = { s.md with reqState := 3, reqRefuse := 1 })
      ∧ (s.md.mode = .holdup → ∃ t, exec (.softwareRestart m) s = .next t ∧ t.md = { s.md with reqState := 3, reqRefuse := 4 })
      ∧ ((s.md.mode = .start ∨ s.md.mode = .service) →
        ∃ t, exec (.softwareRestart m) s = .next t ∧ t.md = { s.md with reqState := 3, reqRefuse := 1 })
      ∧ ((s.md.mode = .idle ∨ s.md.mode = .commission ∨ s.md.mode = .lockout ∨ s.md.mode = .run) →
        (s.hasAuth 1 = true → (s.md.mode = .run → s.zonesStopped = true) → s.coincides = false →
          ∃ t, exec (.serviceRequest m) s = .next t ∧ t.md = { s.md with reqState := 1, reqRefuse := 0 })
        ∧ (s.hasAuth 1 = false → ∃ t, exec (.serviceRequest m) s = .next t ∧ t.md = { s.md with reqState := 3, reqRefuse := 2 })
        ∧ (s.hasAuth 1 = true → s.md.mode = .run → s.zonesStopped = false →
          ∃ t, exec (.serviceRequest m) s = .next t ∧ t.md = { s.md with reqState := 3, reqRefuse := 3 })
        ∧ (s.hasAuth 1 = true → (s.md.mode = .run → s.zonesStopped = true) → s.coincides = true →
          ∃ t, exec (.serviceRequest m) s = .next t ∧ t.md = { s.md with reqState := 3, reqRefuse := 6 }))
      ∧ ((s.md.mode = .react ∨ s.md.mode = .quiet) →
        ∃ t, exec (.serviceRequest m) s = .next t ∧ t.md = { s.md with reqState := 3, reqRefuse := 5 }))
    ∧ (s.md.reqState = 1 →
      exec (.softwareRestart m) s = .next (s.answer stIgnored []) ∧ exec (.serviceExit m) s = .next (s.answer stIgnored [])
      ∧ exec (.serviceRequest m) s = .next (s.answer stIgnored []))

/-- R54, R66, R67: SYS.TESTREL. With the key, in COMMISSION, of a zone in use, with no release running and no fault, START is
accepted and takes effect at the end of the col slot; STOP ends the release there, and wins over START; the refused write is IGNORED
with its reason; the 60 s end the release. A core in U-mode and the other masters do not write it. IGNORED for those masters, OK for
a STOP without a release and the order of the reasons are the model's (log entries 118, 139). -/
def Obligations.TestReleases : Prop :=
  ∀ (s : State) (m : Fin 10) (v : Word), s.revoked m = false →
    let may := (m.val < 4 ∧ (s.core m).st.mode = 1) ∨ m = 5 ∨ m = 6
    let start := exec (.testReleaseStart m v) s
    let stop := exec (.testReleaseStop m v) s
    let refuses := fun (o : Out) (r : Nat) => o = .next ({ s with md := { s.md with trelRefuse := r } }.answer stIgnored [])
    (may → v.toNat / 2 ^ 24 = 0x5A → v.toNat % 2 ^ 24 / 64 = 0 →
      (v.getLsbD 5 = false →
        (s.md.mode = .commission → s.md.trel = none → s.md.trelStart = none → s.zuseA.testBit (v.toNat % 16) = true → s.coincides = false →
          start = .next ({ s with md := { s.md with trelStart := some (v.toNat % 16) } }.answer stOk []))
        ∧ (s.md.mode ≠ .commission → refuses start 1)
        ∧ (s.md.mode = .commission → (s.md.trel ≠ none ∨ s.md.trelStart ≠ none) → refuses start 2)
        ∧ (s.md.mode = .commission → s.md.trel = none → s.md.trelStart = none → s.zuseA.testBit (v.toNat % 16) = false → refuses start 3)
        ∧ (s.md.mode = .commission → s.md.trel = none → s.md.trelStart = none → s.zuseA.testBit (v.toNat % 16) = true →
            s.coincides = true → refuses start 4))
      ∧ ((s.md.trel ≠ none ∨ s.md.trelStart ≠ none) →
          stop = .next ({ s with md := { s.md with trelStop := true } }.answer stOk []) ∧ (v.getLsbD 5 = true → start = stop))
      ∧ (s.md.trel = none → s.md.trelStart = none → stop = .next (s.answer stOk [])))
    ∧ (may → (v.toNat / 2 ^ 24 ≠ 0x5A ∨ v.toNat % 2 ^ 24 / 64 ≠ 0) → refuses start 5 ∧ refuses stop 5)
    ∧ (¬ may → start = .next (s.answer stIgnored []) ∧ stop = .next (s.answer stIgnored []))
    ∧ (s.md.trel ≠ none → ∃ t, exec .testReleaseExpire s = .next t ∧ t.md = { s.md with trel := none, trelStart := none, trelStop := false })

/-- 10 R301, R304: USRRAISE and the aliases of REVOKE. Each bit of USRRAISE that is 1 drives its source, and the pair of one that is 0
returns to OK where no fault has been received; SET closes the ports of
other masters and is IGNORED for the writer itself and for the safety processor's window; CLR reopens ports of other masters. -/
def Obligations.CollectorCommands : Prop :=
  ∀ (s : State) (m : Fin 10), s.revoked m = false →
    (∀ v : Word, ∃ t, exec (.usrraise m .direct v) s = .next t ∧ t.reg (fltB + 0xC4) = v &&& 0xFFFF ∧ t.resp.status = stOk
      ∧ (∀ u : Fin 16, v.getLsbD u = true → (t.src (224 + u)).rail ≠ .ok)
      ∧ (∀ u : Fin 16, v.getLsbD u = false → ((s.src (224 + u)).st = .ok ∨ (s.src (224 + u)).st = .clearing) →
          (t.src (224 + u)).rail = .ok ∧ ∀ r ∈ t.flt.raised, r.src ≠ 224 + u)
      ∧ t.md = s.md)
    ∧ (∀ v : Word, ∃ t, exec (.usrraise m .set v) s = .next t ∧ t.reg (fltB + 0xC4) = (s.reg (fltB + 0xC4) ||| v) &&& 0xFFFF)
    ∧ (∀ v : Word, ∃ t, exec (.usrraise m .clr v) s = .next t ∧ t.reg (fltB + 0xC4) = (s.reg (fltB + 0xC4) &&& ~~~v) &&& 0xFFFF)
    ∧ (∀ v : Word, ∃ t, exec (.usrraise m .tgl v) s = .next t ∧ t.reg (fltB + 0xC4) = (s.reg (fltB + 0xC4) ^^^ v) &&& 0xFFFF)
    ∧ (∀ v : Word, ∃ t, exec (.revokeSet m v) s = .next t
      ∧ (∀ k : Fin 10, k ≠ 4 → k ≠ m → v.getLsbD k = true → t.revoked k = true)
      ∧ t.revoked m = false
      ∧ t.resp.status = (if v.getLsbD 4 = true ∨ v.getLsbD m = true then stIgnored else stOk) ∧ t.md = s.md)
    ∧ (∀ v : Word, ∃ t, exec (.revokeClear m v) s = .next t
      ∧ (∀ k : Fin 10, k ≠ m → v.getLsbD k = true → t.revoked k = false)
      ∧ (∀ k : Fin 10, v.getLsbD k = false → t.revoked k = s.revoked k) ∧ t.md = s.md)

/-- 01 R22-R26, R40, 04 R124, 05 R150-R154, R159: channel A's strobe reaches channel B as a hint, latches its mode, clears the record words and the verdict
flag, and resumes a safety processor that waits in CYCEND at 0x40 with its stacks empty, EXC clear and its registers kept. Without a
configuration, in a mode without cycles or without the PLL, no strobe takes place.
The phases of the runtime are the model's (log entry 20); its CRC check is an operand (log entry 24). -/
def Obligations.CycleStrobe : Prop :=
  ∀ (s : State) (e : StrobeEnv),
    (s.cycles = true → s.tmr.lock = true → (s.wc 0).armed = true →
      ∃ t, exec (.cycleStrobe e) s = .next t
        ∧ t.chA.published = false ∧ t.chA.verdictUp = false ∧ t.chA.recIn = 0 ∧ t.chA.recZone = 0 ∧ t.chA.recDmd = 0 ∧ t.chA.recTag = 0
        ∧ t.chA.slots = 0 ∧ t.chA.seenMode ≠ none ∧ t.chA.crcOk = e.crcOk ∧ t.col.hint = some e.rc
        ∧ (s.sp.run = .waitStrobe → t.sp.run = .running ∧ t.sp.pc = 0x40 ∧ t.sp.rets = [] ∧ t.sp.loops = [] ∧ t.sp.st.exc = false
            ∧ t.sp.g = s.sp.g ∧ t.sp.sb = s.sp.sb ∧ t.chA.phase = .prologue))
    ∧ (s.cycles = false ∨ s.tmr.lock = false ∨ (s.wc 0).armed = false → exec (.cycleStrobe e) s = .next s)

/-- 01 R24, R26, R40: channel B strobes with channel A locked when A's strobe falls inside its acceptance window, or at the window's
close unlocked, with its loss counted and F008 driven; a strobe before the window opens unlocks it with F008 and is ignored. The end
of the col slot consumes both records and lifts the verdict. Which records are due is the model's reading (log entry 50). -/
def Obligations.ChannelB : Prop :=
  ∀ (s : State), s.cycles = true →
    (∀ e : StrobeEnvB,
      let u := s.noVerdictB
      (∀ rc, s.col.hint = some rc → s.lat.winLo ≤ rc.toNat → rc.toNat < s.lat.winHi →
        exec (.channelBStrobeLocked e) s = .next ({ u with
          lat := { u.lat with locked := true }
          col := { u.col with aSeen := false, hint := none } }.strobeB e rc.toNat))
      ∧ (∀ rc, s.col.hint = some rc → (rc.toNat < s.lat.winLo ∨ s.lat.winHi ≤ rc.toNat) → exec (.channelBStrobeLocked e) s = .next s)
      ∧ (s.col.hint = none → exec (.channelBStrobeLocked e) s = .next s))
    ∧ (∀ e : StrobeEnvB, ∃ u : State, exec (.acceptanceWindowClose e) s = .next (u.strobeB e s.lat.winHi)
        ∧ u.lat.locked = false ∧ u.lat.lostCnt = (if s.lat.lostCnt < 255 then s.lat.lostCnt + 1 else s.lat.lostCnt)
        ∧ (u.src 8).rail ≠ .ok ∧ u.col.aSeen = false ∧ u.col.hint = none
        ∧ (s.col.aSeen = false → s.chA.seenMode.isSome = true → u.col.dueA = true))
    ∧ (∀ rc, s.col.hint = some rc →
      (rc.toNat < s.lat.winLo →
        ∃ t, exec .earlyStrobeIgnored s = .next t ∧ t.lat = { s.lat with locked := false } ∧ (t.src 8).rail ≠ .ok
          ∧ t.col = { s.col with hint := none })
      ∧ (s.lat.winLo ≤ rc.toNat → exec .earlyStrobeIgnored s = .next s))
    ∧ (s.col.hint = none → exec .earlyStrobeIgnored s = .next s)
    ∧ (∀ (a b : BitVec 16) (r m : Bool),
      (s.col.slotOpen = true →
        ∃ t, exec (.colSlotEnd a b r m) s = .next t ∧ t.col.slotOpen = false ∧ t.col.recA = none ∧ t.col.recB = none
          ∧ t.col.dueA = false ∧ t.col.dueB = false ∧ t.col.openA = false ∧ t.col.openB = false ∧ t.chA.verdictUp = true)
      ∧ (s.col.slotOpen = false → exec (.colSlotEnd a b r m) s = .next s))

/-- 05 R140, R146, R153-R157, R164-R166: what the runtime's writes do: REC_DONE publishes the record, in a handler with all zones
and demands off if none is published and the program suspended, and at the end of an epilogue raises ACCESS where one is published
already; the first CYCSET of a code 0 to 4 sets WC0 to the first multiple of 25000 * 2^code ticks at least a cycle away; RESTORE
starts the engine in an entry cycle, whose end is RESTORE_COMPLETE; FLTA drives its sources. Where the word refuses the write the
processor takes ACCESS. The phases of the runtime, that it writes no other valid code than 01 R22's and that its first word is
REC_IN are the model's (log entries 20, 112, 113). -/
def Obligations.RuntimeWrites : Prop :=
  ∀ (s : State),
    (s.sp.run = .running →
      (s.sp.st.exc = true → ∃ t, exec .recDone s = .next t ∧ t.chA.published = true ∧ t.chA.suspended = true ∧ t.sp.sb = []
        ∧ (s.chA.published = false → t.chA.recDmd = 0 ∧ t.chA.recZone = 0))
      ∧ (s.sp.st.exc = false → s.chA.phase = .allOff → s.chA.published = false →
          ∃ t, exec .recDone s = .next t ∧ t.chA.published = true ∧ t.chA.recDmd = 0 ∧ t.chA.recZone = 0 ∧ t.chA.phase = .done)
      ∧ (s.sp.st.exc = false → s.chA.phase = .program → s.sp.rets = [] → s.chA.published = false →
          ∃ t, exec .recDone s = .next t ∧ t.chA.published = true ∧ t.chA.phase = .done)
      ∧ (s.sp.st.exc = false → (s.chA.phase = .allOff ∨ (s.chA.phase = .program ∧ s.sp.rets = [])) → s.chA.published = true →
          exec .recDone s = .next (s.enterExc .safety { code := 4, eval := 0x300000 } false s.sp.pc))
      ∧ (∀ code : BitVec 32, code.toNat ≤ 4 → code.toNat ≠ s.cycCode → exec (.cycset code) s = .next s)
      ∧ (∀ code : BitVec 32, s.chA.cycsetLock = false → code.toNat ≤ 4 → code.toNat = s.cycCode →
          let len := 25000 * 2 ^ code.toNat
          ∃ t, exec (.cycset code) s = .next t ∧ t.tmr.cycLen = len ∧ t.chA.cycsetLock = true ∧ (t.wc 0).armed = true
            ∧ (t.wc 0).nextV % len = 0 ∧ s.now + len ≤ (t.wc 0).nextV ∧ (t.wc 0).nextV < s.now + 2 * len)
      ∧ (∀ code : BitVec 32, ((s.chA.cycsetLock = true ∧ code.toNat = s.cycCode) ∨ 4 < code.toNat) → s.sp.st.exc = false →
          exec (.cycset code) s = .next (s.enterExc .safety { code := 4, eval := 0x300038 } false s.sp.pc))
      ∧ (s.chA.entryNow = true → ∃ t, exec .restore s = .next t ∧ t.chA.restoring = true ∧ t.chA.restoreDone = false)
      ∧ (s.chA.entryNow = false → s.sp.st.exc = false →
          exec .restore s = .next (s.enterExc .safety { code := 4, eval := 0x300044 } false s.sp.pc))
      ∧ (∀ v : BitVec 6, ∃ t, exec (.flta v) s = .next t ∧ t.chA.flta = v
          ∧ (∀ i : Fin 5, v.getLsbD i = true → (t.src (16 + i)).rail ≠ .ok) ∧ (v.getLsbD 5 = true → (t.src 9).rail ≠ .ok)))
    ∧ (s.chA.restoring = true → ∃ t, exec .restoreComplete s = .next t ∧ t.chA.restoring = false ∧ t.chA.restoreDone = true
        ∧ t.chA.restored = true)

/-- R78-R80, R83: a commit of a mask without a conflict is BUSY until its apply, one with a conflict REFUSED with the first conflict
shown, one of mask 0 DONE at once, and one written while another is BUSY is IGNORED; in every case the pending writes stay.
Which of several conflicts is the first within one pin is the model's reading (log entries 85, 86). -/
def Obligations.CommitStarts : Prop :=
  ∀ (s : State) (m : Fin 10) (mask : Word), s.revoked m = false →
    (s.conv.cstate = 1 → exec (.commit m mask) s = .next (s.answer stIgnored []))
    ∧ (s.conv.cstate ≠ 1 →
      (mask.toNat % 256 = 0 → ∃ t, exec (.commit m mask) s = .next t ∧ t.conv.cstate = 2 ∧ t.conv.shadow = s.conv.shadow
        ∧ t.reg (sysB + 0x20) = 0 ∧ t.resp.status = stOk)
      ∧ (mask.toNat % 256 ≠ 0 → s.firstConflict (mask.toNat % 256) = 0 →
          ∃ t, exec (.commit m mask) s = .next t ∧ t.conv.cstate = 1 ∧ t.conv.cmask = mask.toNat % 256
            ∧ t.conv.shadow = s.conv.shadow ∧ t.reg (sysB + 0x20) = 0 ∧ t.resp.status = stOk)
      ∧ (mask.toNat % 256 ≠ 0 → s.firstConflict (mask.toNat % 256) ≠ 0 →
          ∃ t, exec (.commit m mask) s = .next t ∧ t.conv.cstate = 3 ∧ t.conv.shadow = s.conv.shadow
            ∧ t.reg (sysB + 0x20) = s.firstConflict (mask.toNat % 256) ∧ t.resp.status = stOk))

/-- R80: the pending writes of a refused commit stay pending; DISCARD of a group mask drops those of its groups and keeps the others;
a reset drops all of them. -/
def Obligations.DiscardAndReset : Prop :=
  ∀ (s : State),
    (∀ (m : Fin 10) (mask : Word), s.revoked m = false → s.conv.cstate ≠ 1 → mask.toNat % 256 ≠ 0 →
      s.firstConflict (mask.toNat % 256) ≠ 0 →
      ∃ t, exec (.commit m mask) s = .next t ∧ t.conv.cstate = 3 ∧ t.conv.shadow = s.conv.shadow)
    ∧ (∀ (m : Fin 10) (mask : Word), s.revoked m = false →
      ∃ t, exec (.discard m mask) s = .next t ∧ t.resp.status = stOk
        ∧ (∀ e : Nat × Option Word, e ∈ t.conv.shadow ↔
            e ∈ s.conv.shadow ∧ ¬ ((look none s.conv.shadow e.1).isSome = true
              ∧ ∃ g, groupAt e.1 = some g ∧ (mask.toNat % 256).testBit g = true)))
    ∧ (∀ cause, (s.toMode .reset cause).conv.shadow = [])

/-- R77-R79, R90: once every group of a commit is held at its safe point its apply ends it: DONE, with COUNT one higher, and no
write of its groups pending any more. The pending values of the collector's group, applied alone, become the active ones. Before
that, and outside a commit in progress, nothing is applied. Where the safe points lie among the commands is the model's reading (log
entry 116). R87: a request of a snapshot sets BUSY; the snapshot's tick clears it, counts SEQ and holds the time base after the
tick. -/
def Obligations.CommitsAndSnapshots : Prop :=
  (∀ (s : State),
      (s.conv.cstate = 1 → s.allHeld = true → s.tmr.lock = true → s.conv.heldBack = [] →
        ∃ t, exec .commitApply s = .next t ∧ t.conv.cstate = 2 ∧ t.conv.ccount = s.conv.ccount + 1
          ∧ (∀ e ∈ t.conv.shadow, s.pend s.conv.cmask e.1 = false)
          ∧ (s.conv.cmask = 0x80 → tabWf none s.conv.shadow = true → ∀ (a : Nat) (v : Word), look none s.conv.shadow a = some v →
              groupAt a = some 7 → t.reg a = v ∧ look none t.conv.shadow a = none))
      ∧ (s.conv.cstate ≠ 1 ∨ s.allHeld = false ∨ s.tmr.lock = false → exec .commitApply s = .next s)
      ∧ (s.conv.cstate = 1 → s.conv.cmask < 256 →
          (s.allHeld = true ↔ ∀ g : Nat, g < 8 → s.conv.cmask.testBit g = true →
            s.conv.held.testBit g = true ∨ g = 0 ∨ g = 2 ∨ g = 4 ∨ (g = 6 ∧ s.host.read = none))))
  ∧ (∀ (s : State),
      (∀ (m : Fin 10) (v : Word), s.revoked m = false → v.getLsbD 0 = true →
        exec (.snapshotRequest m v) s = .next ({ s with conv := { s.conv with snapBusy := true } }.answer stOk []))
      ∧ (s.conv.snapBusy = true → s.tmr.lock = true →
        ∃ t, exec .snapshot s = .next t ∧ t.conv.snapBusy = false ∧ t.conv.snapSeq = s.conv.snapSeq + 1
          ∧ t.tmr.tb = s.tmr.tb + 1 ∧ t.reg (sysB + 0x48) = BitVec.ofNat 32 (s.tmr.tb + 1).toNat
          ∧ t.reg (sysB + 0x4C) = BitVec.ofNat 32 ((s.tmr.tb + 1).toNat / 2 ^ 32))
      ∧ (s.conv.snapBusy = false → exec .snapshot s = .next s))

/-- R86: a read of the time-base low word latches the high word for its master alone; that master's next read of the high word answers
the latched value and frees the latch; without a latch a read of the high word answers the live one. -/
def Obligations.TimeBaseLatch : Prop :=
  ∀ (s : State) (m : Fin 10),
    (s.revoked m = false →
      ∃ t, exec (.timeBaseLowRead m) s = .next t ∧ t.resp.status = stOk ∧ t.resp.data = [BitVec.ofNat 32 s.tmr.tb.toNat]
        ∧ (∀ k : Fin 10, k ≠ m → look none t.conv.tbLatch k = look none s.conv.tbLatch k)
        ∧ (∀ u : State, look none u.conv.tbLatch m = look none t.conv.tbLatch m →
            (u.regRead m (tmrB + 0xC)).2 = (stOk, BitVec.ofNat 32 (s.tmr.tb.toNat / 2 ^ 32))
            ∧ look none (u.regRead m (tmrB + 0xC)).1.conv.tbLatch m = none
            ∧ (∀ k : Fin 10, k ≠ m → look none (u.regRead m (tmrB + 0xC)).1.conv.tbLatch k = look none u.conv.tbLatch k)))
    ∧ (look none s.conv.tbLatch m = none →
        s.regRead m (tmrB + 0xC) = (s, stOk, BitVec.ofNat 32 (s.tmr.tb.toNat / 2 ^ 32)))

/-- R69, R71-R73: what a write of a register does by its access code: an access that is not a word, not aligned or names no register
answers DECODE and a write of an RO or RS register IGNORED, with no effect; an RWC write, direct or through an alias, changes the
pending value alone, from the pending value if there is one, and waits while its group's commit is in progress; an RW write changes
the register, and a direct write of 1 bits clears those of W1C; an alias of another code than RW or RWC answers IGNORED. IGNORED for
an RS register, and IGN with a write of each counter, are the model's reading (log entries 82, 88). -/
def Obligations.RegisterWrites : Prop :=
  ∀ (s : State) (m : Fin 10) (a v : Word), s.revoked m = false →
    let b := (a.toNat - 0x30000000) / 0x10000
    let o := a.toNat % 0x4000
    let base := a.toNat - a.toNat % 0x10000 + o
    let alias_ := a.toNat % 0x10000 / 0x4000
    (∀ z, z ≠ AccessSize.b32 → exec (.registerWrite m a v z) s = .next (s.answer stDecode []))
    ∧ (a.toNat % 4 ≠ 0 → exec (.registerWrite m a v .b32) s = .next (s.answer stDecode []))
    ∧ (a.toNat / 0x100000 = 0x300 → a.toNat % 4 = 0 →
      (regKind b o = none → exec (.registerWrite m a v .b32) s = .next (s.answer stDecode []))
      ∧ ((regKind b o = some .ro ∨ regKind b o = some .rs) →
          exec (.registerWrite m a v .b32) s = .next (s.answer stIgnored []))
      ∧ (s.regLocked b o = false → alias_ ≠ 0 → (regKind b o = some .wo ∨ ∃ k, regKind b o = some (.w1c k)) →
          exec (.registerWrite m a v .b32) s = .next (s.answer stIgnored []))
      ∧ (∀ k, regKind b o = some (.rwc k) → s.regLocked b o = false → s.committing b = false →
          let old := (look none s.conv.shadow base).getD (s.reg base)
          let new := if alias_ = 0 then v else if alias_ = 1 then old ||| v else if alias_ = 2 then old &&& ~~~v else old ^^^ v
          exec (.registerWrite m a v .b32) s = .next ({ s with conv := { s.conv with
            shadow := put none s.conv.shadow base (some ((old &&& ~~~k) ||| (new &&& k))) } }.answer stOk []))
      ∧ (∀ k, regKind b o = some (.rwc k) → s.regLocked b o = false → s.committing b = true →
          exec (.registerWrite m a v .b32) s = .next ({ s with conv := { s.conv with
            heldBack := s.conv.heldBack ++ [(a.toNat, v)] } }.answer stOk []))
      ∧ (∀ k, regKind b o = some (.rw k) → s.regLocked b o = false → b ≠ 1 → b ≠ 5 → b ≠ 7 → b ≠ 11 →
          let old := s.reg base
          let new := if alias_ = 0 then v else if alias_ = 1 then old ||| v else if alias_ = 2 then old &&& ~~~v else old ^^^ v
          exec (.registerWrite m a v .b32) s = .next ((s.setReg base ((old &&& ~~~k) ||| (new &&& k))).answer stOk []))
      ∧ (∀ k, regKind b o = some (.w1c k) → s.regLocked b o = false → alias_ = 0 → b ≠ 4 → b ≠ 5 →
          exec (.registerWrite m a v .b32) s = .next ((s.setReg base (s.reg base &&& ~~~(v &&& k))).answer stOk []))
      ∧ (∀ st, regKind b o = some (.count st) → alias_ = 0 →
          exec (.registerWrite m a v .b32) s = .next ((s.setReg st (s.reg st ||| 1)).answer stIgnored [])))

/-- R301, R72: a master whose port is revoked gets ERROR from every register access and changes nothing. -/
def Obligations.RevokedMaster : Prop :=
  ∀ (s : State) (m : Fin 10), s.revoked m = true →
    let refused := fun (i : Instr) => exec i s = .next (s.answer stError [])
    (∀ a v z, refused (.registerWrite m a v z)) ∧ (∀ v, refused (.commit m v)) ∧ (∀ v, refused (.discard m v))
    ∧ (∀ v, refused (.snapshotRequest m v)) ∧ refused (.softwareRestart m) ∧ refused (.serviceExit m) ∧ refused (.serviceRequest m)
    ∧ (∀ v, refused (.testReleaseStart m v)) ∧ (∀ v, refused (.testReleaseStop m v)) ∧ (∀ k v, refused (.usrraise m k v))
    ∧ (∀ v, refused (.revokeSet m v)) ∧ (∀ v, refused (.revokeClear m v)) ∧ (∀ v, refused (.wdkick m v))
    ∧ (∀ q a, refused (.queuePublish m q a)) ∧ (∀ q a, refused (.queueRelease m q a))
    ∧ (∀ n v, refused (.transmitData m n v)) ∧ (∀ n v, refused (.fskTxStart m n v))
    ∧ (∀ k, refused (.truQuote m k)) ∧ (∀ t k, refused (.truLcadv m t k)) ∧ (∀ w k, refused (.otpProg m w k))
    ∧ (∀ v, refused (.cairnExtend m v)) ∧ (∀ k, refused (.hstFulltest m k)) ∧ (∀ v, refused (.joback m v))

/-- 07 R220, R221, R227-R234: the safety inputs and the test pulses. A masked input holds its filter; from OFF a filter of F samples
turns on with the F-th consecutive ON sample and not before, and a comparator under test feeds none. The unit pulses in the cycle
that its schedule gives the source, and each channel opens the masks of its inputs in the cycle that its own gives it; at the end an
input that did not show the pulse has PMISS, and a pin that a channel did not see low is STUCK with F040; the masks close after it.
A source that trips is low with OVLD and F040 until it is driven again and has cleared. A command that cannot happen changes nothing
(the model's choice, log entry 17). -/
def Obligations.SafetyInputs : Prop :=
  ∀ (s : State) (k : Fin 8),
    let v := s.tp k
    let slot := v.pulsing || v.winA || v.winB
    (∀ (n : Fin 32) (chB : Bool) (xs : InSamples), s.md.mode ≠ .off → s.md.mode ≠ .reset →
      ((s.inChan chB n).mask = true → exec (.inputFilterChange n chB xs) s = .next s)
      ∧ ((s.inChan chB n).mask = false → (s.spareAt chB n && s.cmpOff) = true →
          ∃ t, exec (.inputFilterChange n chB xs) s = .next t ∧ (∀ j, t.inp j = s.inp j))
      ∧ ((s.inChan chB n).mask = false → (s.spareAt chB n && s.cmpOff) = false → (s.inChan chB n).filt.out = false →
          (s.inChan chB n).filt.run = 0 → 1 ≤ s.inFilt chB n - 2 →
          ∃ t, exec (.inputFilterChange n chB xs) s = .next t
            ∧ (xs.own.length < s.inFilt chB n - 2 → (t.inChan chB n).filt.out = false)
            ∧ (xs.own = List.replicate (s.inFilt chB n - 2) true → (t.inChan chB n).filt.out = true)
            ∧ t.inChan (!chB) n = s.inChan (!chB) n ∧ (∀ j, j ≠ n.val → t.inp j = s.inp j)))
    ∧ (∀ (n : Fin 32) (chB : Bool) (xs : InSamples), (s.md.mode = .off ∨ s.md.mode = .reset) →
        exec (.inputFilterChange n chB xs) s = .next s)
    ∧ (s.tpModes = true → slot = false → (s.unitFires k || s.tpFires false k || s.tpFires true k) = true →
        ∃ t, exec (.testPulseStart k) s = .next t ∧ (t.tp k).pulsing = s.unitFires k
          ∧ (t.tp k).winA = s.tpFires false k ∧ (t.tp k).winB = s.tpFires true k
          ∧ (∀ (chB : Bool) (n : Fin 32), s.tpFires chB k = true → s.inSrc chB n = some k.val → (t.inChan chB n).mask = true))
    ∧ ((s.tpModes = false ∨ slot = true ∨ (s.unitFires k || s.tpFires false k || s.tpFires true k) = false) →
        exec (.testPulseStart k) s = .next s)
    ∧ (∀ (seenA seenB forA forB : BitVec 32) (tpA tpB : Bool),
      (slot = true →
        ∃ t, exec (.testPulseEnd k seenA seenB forA forB tpA tpB) s = .next t ∧ (t.tp k).pulsing = false ∧ (t.tp k).winA = false
          ∧ (t.tp k).winB = false
          ∧ (((v.winA = true ∧ tpA = false) ∨ (v.winB = true ∧ tpB = false)) → (t.tp k).stuck = true ∧ (t.src 40).rail ≠ .ok)
          ∧ (v.winA = true → v.winB = true → tpA = true → tpB = true → (t.tp k).stuck = false)
          ∧ (v.winA = true → ∀ n : Fin 32, s.inSrc false n = some k.val → seenA.getLsbD n = false → (t.inChan false n).pmiss = true)
          ∧ (v.winB = true → ∀ n : Fin 32, s.inSrc true n = some k.val → seenB.getLsbD n = false → (t.inChan true n).pmiss = true))
      ∧ (slot = false → exec (.testPulseEnd k seenA seenB forA forB tpA tpB) s = .next s))
    ∧ (slot = false →
        ∃ t, exec (.testPulseMaskClose k) s = .next t
          ∧ (∀ (chB : Bool) (n : Fin 32), s.inSrc chB n = some k.val → (t.inChan chB n).mask = false))
    ∧ (slot = true → exec (.testPulseMaskClose k) s = .next s)
    ∧ (s.tpHigh k = true → ∃ t, exec (.tpOverloadTrip k) s = .next t ∧ (t.tp k).ovl = true ∧ t.tpHigh k = false
        ∧ (t.src 40).rail ≠ .ok)
    ∧ (s.tpHigh k = false → exec (.tpOverloadTrip k) s = .next s)
    ∧ ((s.tp k).ovl = true →
        exec (.tpOverloadRetry k) s = .next (s.setTp k { s.tp k with retryLow := false })
        ∧ ((s.tp k).retryLow = false → exec (.tpOverloadClear k) s = .next (s.setTp k { s.tp k with ovl := false }))
        ∧ ((s.tp k).retryLow = true → exec (.tpOverloadClear k) s = .next s))
    ∧ ((s.tp k).ovl = false → exec (.tpOverloadRetry k) s = .next s ∧ exec (.tpOverloadClear k) s = .next s)

/-- 08 R248-R252, R255, R258, R259: the tests and trips of the safety outputs. An off-test opens one switch; where it passes the
switch closes again if its channel has demanded on throughout, where it does not it stays open with OTF and the stuck-high source.
An on-test that does not end gives ONTF and the switch source; an output whose readback moves with the tested one is TIED, as is the
tested one. A trip opens both switches of an output, or every switch of a group, and its flag stands until the output or the group
is off. That a trip holds the switches open is the model's reading (log entry 10); a command that cannot happen changes nothing (log
entry 17). -/
def Obligations.SafetyOutputs : Prop :=
  ∀ (s : State),
    (∀ k : Fin 12, s.offDue k = true →
      ∃ t, exec (.offTestStart k) s = .next t ∧ (t.out k).test = .off s.testRound ∧ (t.out k).sw s.testRound = false
        ∧ (t.out k).sw (!s.testRound) = (s.out k).sw (!s.testRound) ∧ (∀ j, j ≠ k.val → t.out j = s.out j))
    ∧ (∀ k : Fin 12, s.offDue k = false → exec (.offTestStart k) s = .next s)
    ∧ (∀ (k : Nat) (b : Bool) (fell : BitVec 12), s.testedOut true = some (k, b) →
      (∃ t, exec (.offTestPass fell) s = .next t ∧ (t.out k).test = .none
        ∧ (t.out k).diag.extractLsb' 16 8 = (s.out k).diag.extractLsb' 16 8 + 1
        ∧ ((s.out k).dmd b = true → (s.out k).stayOff = false → s.outModes = true → s.railOut b = false →
            (if b then s.md.badModeB else s.md.badModeA) = false → s.outTripped k = false → (s.out k).hold b = false →
            (t.out k).sw b = true)
        ∧ (((s.out k).dmd b = false ∨ (s.out k).stayOff = true) → (t.out k).sw b = false)
        ∧ (∀ j : Fin 12, j.val ≠ k → fell.getLsbD j = true → (s.out j).swA = true → (s.out j).swB = true →
            (t.out j).diag.getLsbD 6 = true ∧ (t.out k).diag.getLsbD 6 = true))
      ∧ (∀ midOn : Bool, ∃ t, exec (.offTestTimeout fell midOn) s = .next t ∧ (t.out k).test = .none
        ∧ (t.out k).hold b = true ∧ (t.out k).sw b = (s.out k).sw b ∧ (t.out k).diag.getLsbD 1 = true
        ∧ (t.src (48 + k)).rail ≠ .ok))
    ∧ (∀ (fell : BitVec 12) (midOn : Bool), s.testedOut true = none →
        exec (.offTestPass fell) s = .next s ∧ exec (.offTestTimeout fell midOn) s = .next s)
    ∧ (∀ k : Fin 12,
      (s.onDue k = true → exec (.onTestStart k) s = .next (s.setOut k { s.out k with test := .on s.testRound }))
      ∧ (s.onDue k = false → exec (.onTestStart k) s = .next s))
    ∧ (∀ (k : Nat) (b : Bool) (rose : BitVec 12), s.testedOut false = some (k, b) →
      (∃ t, exec (.onTestPass rose) s = .next t ∧ (t.out k).test = .none
        ∧ (t.out k).diag.extractLsb' 24 8 = (s.out k).diag.extractLsb' 24 8 + 1)
      ∧ (∃ t, exec (.onTestTimeout rose) s = .next t ∧ (t.out k).test = .none ∧ (t.out k).diag.getLsbD 3 = true
        ∧ (t.src (60 + k)).rail ≠ .ok))
    ∧ (∀ rose : BitVec 12, s.testedOut false = none →
        exec (.onTestPass rose) s = .next s ∧ exec (.onTestTimeout rose) s = .next s)
    ∧ (∀ (k : Fin 12) (temp : Bool),
      (∃ t, exec (.outputOverloadTrip k temp) s = .next t ∧ (t.out k).swA = false ∧ (t.out k).swB = false
          ∧ (t.out k).test = .none ∧ (t.out k).diag.getLsbD 4 = true ∧ (temp = true → (t.out k).diag.getLsbD 5 = true)
          ∧ (t.src (if 6 ≤ k.val then 73 else 72)).rail ≠ .ok ∧ (∀ j, j ≠ k.val → t.out j = s.out j))
      ∧ ((s.out k).swA = false → (s.out k).swB = false →
          ∃ t, exec (.outputOverloadClear k) s = .next t ∧ (t.out k).diag.getLsbD 4 = false ∧ (t.out k).diag.getLsbD 5 = false)
      ∧ (((s.out k).swA = true ∨ (s.out k).swB = true) → exec (.outputOverloadClear k) s = .next s))
    ∧ (∀ g : Bool,
      (∃ t, exec (.groupCurrentTrip g) s = .next t ∧ t.govc g = true ∧ (t.src (if g then 73 else 72)).rail ≠ .ok
        ∧ (∀ k : Fin 12, decide (6 ≤ k.val) = g → (t.out k).swA = false ∧ (t.out k).swB = false)
        ∧ (∀ k : Fin 12, decide (6 ≤ k.val) ≠ g → t.out k = s.out k))
      ∧ (s.groupOff g = true → ∃ t, exec (.groupCurrentClear g) s = .next t ∧ t.govc g = false ∧ t.govc (!g) = s.govc (!g))
      ∧ (s.groupOff g = false → exec (.groupCurrentClear g) s = .next s)
      ∧ (∀ low : Bool, ∃ t, exec (.groupSupplyChange g low) s = .next t ∧ t.supLow g = low
        ∧ (low = false → t.vfLow g = false)
        ∧ (∀ k : Fin 12, low = true → decide (6 ≤ k.val) = g → ((s.out k).dmdA = true ∨ (s.out k).dmdB = true) → t.vfLow g = true)))

/-- 11 R311-R331: the rings. A port out of use takes and sends nothing. A fragment or short frame is dropped and counted; a frame
addressed to another device leaves by the other port with HOPS one lower, and with HOPS 0, or at a manager that does not forward, is
dropped, an idle egress port ending it as a fragment; one addressed to the device goes to the receive queue of its class, and where
the network DMA cannot write it DMAERR is set with F101. An egress port sends the oldest frame of its lowest priority number, those
of the transmit queues by the queue's. The manager sends a check frame on both ports; three windows in a row without one on a port,
or frames of two managers, end WHOLE, as does the loss of a link; three with one on both ports set it. TSINFO gives the oldest time
stamp. The priority of a check frame, the counters of short frames and how two managers show are the model's reading (log entries
57, 58, 119). -/
def Obligations.RingCommands : Prop :=
  ∀ (s : State) (r2 pB : Bool),
    let cnt := netB + (if r2 then 0x60 else 0x40)
    let rank := fun (g : OutFrame) => 64 * g.prio + g.qno
    let ended := fun (f : RingFrame) (t : State) =>
      t.port r2 pB = s.port r2 pB ∧ ((s.port r2 (!pB)).out ≠ [] → t.port r2 (!pB) = s.port r2 (!pB))
      ∧ (s.portUp r2 (!pB) = true → (s.port r2 (!pB)).out = [] →
          (t.port r2 (!pB)).out = [{ prio := 0, bytes := f.bytes.take 14, badFcs := true }])
    (∀ f : RingFrame,
      (s.portUp r2 pB = false → exec (.ringFrameReceive r2 pB f) s = .next s ∧ exec (.netDmaWriteFailure r2 pB f) s = .next s)
      ∧ (s.portUp r2 pB = true →
        ((f.fragment = true ∨ f.bytes.length < 60) → exec (.ringFrameReceive r2 pB f) s = .next (s.ringCount r2 0x14))
        ∧ (f.fragment = false → 60 ≤ f.bytes.length → f.bytes.length ≤ 1514 → natOfBE (sub f.bytes 12 2) = s.etype → s.etype ≠ 0x88F7 →
            sub f.bytes 6 6 ≠ s.mac →
          (f.bytes.take 6 ≠ s.mac → (f.bytes.getD 0 0).getLsbD 0 = false →
            (f.bytes.getD 16 0 = 0 → ∃ t, exec (.ringFrameReceive r2 pB f) s = .next t ∧ t.reg (cnt + 0x1C) = s.reg (cnt + 0x1C) + 1
                ∧ ended f t)
            ∧ (f.bytes.getD 16 0 ≠ 0 → s.ringMgr r2 = true → (s.ring r2).mgrFwd = false →
                ∃ t, exec (.ringFrameReceive r2 pB f) s = .next t ∧ ended f t)
            ∧ (f.bytes.getD 16 0 ≠ 0 → (s.ringMgr r2 = false ∨ (s.ring r2).mgrFwd = true) → s.portUp r2 (!pB) = true →
                let cls := (f.bytes.getD 17 0).toNat
                let g : OutFrame := {
                  prio := if 1 ≤ cls ∧ cls ≤ 3 then 1 else 3
                  bytes := f.bytes.set 16 (f.bytes.getD 16 0 - 1)
                  badFcs := !f.fcsOk }
                ∃ t, exec (.ringFrameReceive r2 pB f) s = .next t ∧ (t.port r2 (!pB)).out = (s.port r2 (!pB)).out ++ [g]
                  ∧ (t.port r2 pB).out = (s.port r2 pB).out ∧ t.queues = s.queues ∧ t.reg (cnt + 4) = s.reg (cnt + 4) + 1))
          ∧ (f.bytes.take 6 = s.mac → f.fcsOk = true → 16 ≤ (f.bytes.getD 17 0).toNat →
              (f.bytes.getD 17 0).toNat < 128 → s.revoked 8 = false →
            let q := s.rxQueue r2 ((f.bytes.getD 17 0).toNat / 16)
            (s.qFull q = false → s.qEn q = true →
              ∃ t, exec (.ringFrameReceive r2 pB f) s = .next t
                ∧ (t.queue q).slots = (s.queue q).slots ++ [{ idx := (s.queue q).next, st := .published }])
            ∧ (∃ t, exec (.netDmaWriteFailure r2 pB f) s = .next t ∧ (t.reg (netB + 0x18)).getLsbD 1 = true ∧ (t.src 101).rail ≠ .ok
                ∧ t.queues = s.queues ∧ t.mem = s.mem)))))
    ∧ (s.portUp r2 pB = true → (s.conv.cstate ≠ 1 ∨ s.conv.cmask.testBit 3 = false) → (s.port r2 pB).out ≠ [] →
        (s.revoked 8 = true ∨ ∀ q, q < 8 → s.qAvail ((if r2 then 40 else 32) + q) = false) →
        ∃ pre f post t, (s.port r2 pB).out = pre ++ f :: post ∧ (∀ g ∈ pre, rank f < rank g) ∧ (∀ g ∈ post, rank f ≤ rank g)
          ∧ exec (.ringTransmit r2 pB) s = .next t ∧ (t.port r2 pB).out = pre ++ post)
    ∧ (s.portUp r2 pB = false → exec (.ringTransmit r2 pB) s = .next s)
    ∧ (s.ringMgr r2 = true → s.ringOn r2 = true → s.bypass = false →
        (s.conv.cstate ≠ 1 ∨ s.conv.cmask.testBit 3 = false) →
        let f : OutFrame := {
          prio := 2
          bytes := s.ringHead r2 State.broadcast 3 ++ List.replicate 42 0
          badFcs := false }
        ∃ t, exec (.ringCheckSend r2) s = .next t ∧ (t.ring r2).rseq = (s.ring r2).rseq + 1
          ∧ (∀ p : Bool, s.portUp r2 p = true → (t.port r2 p).out = (s.port r2 p).out ++ [f])
          ∧ (∀ p : Bool, s.portUp r2 p = false → (t.port r2 p).out = (s.port r2 p).out))
    ∧ ((s.ringMgr r2 = false ∨ s.ringOn r2 = false ∨ s.bypass = true) → exec (.ringCheckSend r2) s = .next s)
    ∧ (s.ringLine r2 = true → exec (.ringCheckWindow r2) s = .next s)
    ∧ (s.ringLine r2 = false →
      (((s.port r2 pB).seen = false ∧ 2 ≤ (s.port r2 pB).misses) ∨ 2 ≤ (s.ring r2).mgrs.length →
        ∃ t, exec (.ringCheckWindow r2) s = .next t ∧ (t.ring r2).whole = false
          ∧ ((s.ring r2).whole = true → (t.src (if r2 then 100 else 99)).rail ≠ .ok))
      ∧ ((∀ p : Bool, (s.port r2 p).seen = true ∧ 2 ≤ (s.port r2 p).hits ∧ (s.port r2 p).link = true) → (s.ring r2).mgrDup = false →
          (s.ring r2).mgrs.length < 2 →
        ∃ t, exec (.ringCheckWindow r2) s = .next t ∧ (t.ring r2).whole = true))
    ∧ ((s.port r2 pB).link = true → exec (.portLinkChange r2 pB true) s = .next s)
    ∧ ((s.port r2 pB).link = false → exec (.portLinkChange r2 pB false) s = .next s
        ∧ (s.ringOn r2 = true → ∃ t, exec (.portLinkChange r2 pB true) s = .next t ∧ (t.port r2 pB).link = true)
        ∧ (s.ringOn r2 = false → exec (.portLinkChange r2 pB true) s = .next s))
    ∧ ((s.port r2 pB).link = true →
        ∃ t, exec (.portLinkChange r2 pB false) s = .next t ∧ (t.port r2 pB).link = false
          ∧ (s.ringLine r2 = false → (t.ring r2).whole = false)
          ∧ (10 ≤ (s.recentLosses (s.port r2 pB)).length → (t.ring r2).phyErr = true))
    ∧ (∀ m : Fin 10, s.revoked m = false →
      (∀ e es, s.net.ts = e :: es →
        ∃ t w, exec (.tsinfoPop m) s = .next t ∧ t.net.ts = es ∧ t.resp.status = stOk ∧ t.resp.data = [w]
          ∧ w.extractLsb' 0 8 = e.tag ∧ w.getLsbD 8 = true ∧ w.getLsbD 9 = e.portB ∧ w.getLsbD 10 = e.ring2
          ∧ w.getLsbD 11 = s.net.tsLost ∧ t.reg (netB + 0x84) = BitVec.ofNat 32 e.stamp
          ∧ t.reg (netB + 0x88) = BitVec.ofNat 32 (e.stamp / 2 ^ 32))
      ∧ (s.net.ts = [] → ∃ t w, exec (.tsinfoPop m) s = .next t ∧ t.resp.status = stOk ∧ t.resp.data = [w] ∧ w.getLsbD 8 = false
          ∧ t.net.tsLost = false))

/-- 13 R361-R376, 09 R592: the timer island. A count step of COUNT, STEP and quadrature channels on levels that have held for the
length of the channel's filter, of the timer clock at the wrap and at a compare value; a quadrature edge on both inputs is QERR
without a step; a capture enters its FIFO or, with the FIFO full, sets CAPOVF with F112, its stamp earlier by the filter's length; a
spilled and a popped capture leave it; a WC channel fires at its next value, unless the time base has passed that, and advances by
STEP; without lock nothing counts and the captures stay. A step on an empty queue is one tick of the timer clock (the model's
choice, log entry 4). An interval with more than 10 steps marks the encoder. -/
def Obligations.TimerCommands : Prop :=
  ∀ (s : State) (n : Fin 16),
    let c := s.tc n
    let top : Word := if c.period = 0 then 0xFFFFFFFF else c.period
    let ctl := s.reg (State.tcA n 0)
    let glitch : Nat := if ctl.extractLsb' 16 2 = 0 then 0 else if ctl.extractLsb' 16 2 = 1 then 2 else if ctl.extractLsb' 16 2 = 2 then 8 else 32
    let counted := fun (down : Bool) (t : State) => (t.tc n).down = down
      ∧ (t.tc n).cnt = (if down then (if c.cnt = 0 then top else c.cnt - 1) else (if c.cnt = top then 0 else c.cnt + 1))
    (s.pending = [] → ∃ t, step s = .next t ∧ t.pending = [] ∧ t.tmr.tb = (if s.tmr.lock then s.tmr.tb + 1 else s.tmr.tb))
    ∧ (∀ held : BitVec 16, glitch ≤ held.toNat → s.tmr.lock = true →
      (∀ b : Bool, c.stopped = false → c.a = false → c.skip = false →
        (∀ down : Bool, (s.tcMode n = 4 ∧ down = ctl.getLsbD 7) ∨ (s.tcMode n = 6 ∧ down = (b != ctl.getLsbD 7)) →
          ∃ t, exec (.tcCountEdge n ⟨true, held⟩ ⟨b, held⟩) s = .next t ∧ counted down t))
      ∧ (c.stopped = false → c.skip = false → s.tcMode n = 5 → ctl.extractLsb' 5 2 = 0 →
          (∃ t, exec (.tcCountEdge n ⟨!c.a, held⟩ ⟨c.b, held⟩) s = .next t ∧ counted (((!c.a) == c.b) != ctl.getLsbD 7) t)
          ∧ (∃ t, exec (.tcCountEdge n ⟨c.a, held⟩ ⟨!c.b, held⟩) s = .next t ∧ counted ((c.a != (!c.b)) != ctl.getLsbD 7) t))
      ∧ (c.stopped = false → s.tcMode n = 5 →
          exec (.tcCountEdge n ⟨!c.a, held⟩ ⟨!c.b, held⟩) s =
            .next ((s.setTc n { c with a := !c.a, b := !c.b }).setBits (State.tcA n 0x20) (BitVec.ofNat 32 16)))
      ∧ (∀ a b : Bool, c.stopped = true → exec (.tcCountEdge n ⟨a, held⟩ ⟨b, held⟩) s = .next (s.setTc n { c with a := a, b := b }))
      ∧ (∀ (a : HeldLevel) (lv : Bool), a.held.toNat < glitch →
          exec (.tcCountEdge n a ⟨lv, held⟩) s = exec (.tcCountEdge n ⟨c.a, held⟩ ⟨lv, held⟩) s
          ∧ exec (.tcCountEdge n ⟨lv, held⟩ a) s = exec (.tcCountEdge n ⟨lv, held⟩ ⟨c.b, held⟩) s))
    ∧ (∀ a b : HeldLevel, ((a.held.toNat < glitch ∧ b.held.toNat < glitch) ∨ s.tmr.lock = false) →
        exec (.tcCountEdge n a b) s = .next s)
    ∧ (s.tmr.lock = true → s.tcMode n = 1 → c.stopped = false → c.skip = false → c.phase = (s.reg (State.tcA n 8)).toNat % 65536 →
      (c.cnt = top → ∃ t, exec (.tcWrap n) s = .next t ∧ (t.tc n).cnt = 0 ∧ (t.reg (State.tcA n 0x20)).getLsbD 2 = true
          ∧ t.tmr.tb = s.tmr.tb + 1)
      ∧ (∀ k1 : Bool, c.cnt ≠ top → s.reg (State.tcA n (if k1 then 0x14 else 0x10)) = c.cnt + 1 →
          (c.period = 0 ∨ (c.cnt + 1).toNat ≤ c.period.toNat) →
          ∃ t, exec (.tcCompareMatch n k1) s = .next t ∧ (t.tc n).cnt = c.cnt + 1
            ∧ (t.reg (State.tcA n 0x20)).getLsbD (if k1 then 1 else 0) = true ∧ t.tmr.tb = s.tmr.tb + 1))
    ∧ (s.tmr.lock = false → exec (.tcWrap n) s = .next s ∧ (∀ k1, exec (.tcCompareMatch n k1) s = .next s)
        ∧ (∀ r d, exec (.tcCapture n r d) s = .next s) ∧ exec (.captureSpill n) s = .next s
        ∧ (∀ m : Fin 10, s.revoked m = false → exec (.capturePop m n) s = .next (s.answer stOk [0]))
        ∧ (∀ w, exec (.wcFire w) s = .next s) ∧ exec .pllLockLost s = .next s)
    ∧ (∀ (rise : Bool) (held : BitVec 6),
      ((held.toNat < glitch ∨ (s.reg (State.tcA n 0x24)).getLsbD (if rise then 0 else 1) = false) →
          exec (.tcCapture n rise held) s = .next s)
      ∧ (s.tmr.lock = true → glitch ≤ held.toNat → (s.reg (State.tcA n 0x24)).getLsbD (if rise then 0 else 1) = true →
        (c.caps.length < 8 → exec (.tcCapture n rise held) s =
            .next (s.setTc n { c with caps := c.caps ++ [{ stamp := s.now - glitch, cnt := c.cnt, rise := rise }] }))
        ∧ (8 ≤ c.caps.length → ∃ t, exec (.tcCapture n rise held) s = .next t ∧ t.tc n = c
            ∧ (t.reg (State.tcA n 0x20)).getLsbD 5 = true ∧ (t.src 112).rail ≠ .ok)))
    ∧ (∀ e es, c.caps = e :: es → s.tmr.lock = true →
      ((s.reg (State.tcA n 0x24)).getLsbD 8 = true → s.qFull (108 + n) = false → s.qEn (108 + n) = true →
        ∃ t, exec (.captureSpill n) s = .next t ∧ (t.tc n).caps = es
          ∧ (t.queue (108 + n)).slots = (s.queue (108 + n)).slots ++ [{ idx := (s.queue (108 + n)).next, st := .published }])
      ∧ (∀ m : Fin 10, s.revoked m = false → (s.reg (State.tcA n 0x24)).getLsbD 8 = false →
        ∃ t w, exec (.capturePop m n) s = .next t ∧ (t.tc n).caps = es ∧ t.resp.status = stOk ∧ t.resp.data = [w]
          ∧ w.getLsbD 0 = true ∧ w.getLsbD 1 = e.rise ∧ t.reg (State.tcA n 0x2C) = BitVec.ofNat 32 e.stamp
          ∧ t.reg (State.tcA n 0x30) = BitVec.ofNat 32 (e.stamp / 2 ^ 32) ∧ t.reg (State.tcA n 0x34) = e.cnt))
    ∧ ((s.reg (State.tcA n 0x24)).getLsbD 8 = false → exec (.captureSpill n) s = .next s)
    ∧ (∀ m : Fin 10, s.revoked m = false → c.caps = [] → exec (.capturePop m n) s = .next (s.answer stOk [0]))
    ∧ (∀ w : Fin 4, (s.wc w).nextV < s.now → exec (.wcFire w) s = .next s)
    ∧ (∀ w : Fin 4, w.val ≠ 0 → s.tmr.lock = true → (s.wc w).armed = true → (s.reg (State.wcA w 0)).getLsbD 0 = true →
        s.now ≤ (s.wc w).nextV →
        let stepV := s.reg (State.wcA w 0xC)
        ∃ t, exec (.wcFire w) s = .next t ∧ (t.reg (State.wcA w 0x10)).getLsbD 0 = true
          ∧ t.wc w = (if stepV = 0 then { s.wc w with armed := false } else { s.wc w with nextV := (s.wc w).nextV + stepV.toNat }))
    ∧ (s.tmr.lock = true → ∃ t, exec .pllLockLost s = .next t ∧ t.tmr = { s.tmr with lock := false }
        ∧ (t.reg tmrB).getLsbD 1 = true ∧ (t.src 113).rail ≠ .ok)
    ∧ (s.md.mode ≠ .off → s.md.mode ≠ .reset → exec .pllLockRestored s =
        .next { s with tmr := { s.tmr with lock := true }, lnk := { s.lnk with opened := true } })
    ∧ ((s.md.mode = .off ∨ s.md.mode = .reset) → exec .pllLockRestored s = .next s)
    ∧ (∀ (a : Fin 4) (e : Fin 2) (lv : List (BitVec 16)),
        let i := 2 * a.val + e.val
        let x := s.axis i
        ∃ t, exec (.encoderRateInterval a e lv) s = .next t
          ∧ t.axis i = (if x.bound then { x with err := x.err || decide (10 < x.steps), steps := 0 } else x)
          ∧ (∀ cell y ys, s.speedCell i = some cell → lv = y :: ys →
              (10 < ((s.cellSteps cell y ys).1.filter (· ≠ 0)).length → bit t.lat.overrate cell = true)
              ∧ (((s.cellSteps cell y ys).1.filter (· ≠ 0)).length ≤ 10 → t.lat = s.lat)))

/-- 14 R388-R403: the current loops and their modems. A DAC update stores what the converters read and sets the target: none at high
impedance in the modes without loops, after a back-feed and while the channel is off; 3.50 mA in LOCKOUT and HOLDUP; the committed
value otherwise. The modem sends a waiting message once no carrier is detected, byte by byte, then its trailer; ABORT empties the
FIFO and wins over START; each byte has its start, parity and stop bit; a received byte is stored with its flags, or sets RXOVF
where the FIFO is full, unless no carrier stands, the modem sends or has just sent, or it is stopped. When a stopped modem and a
byte that began in the mute are judged is the model's reading (log entry 122). -/
def Obligations.LoopCommands : Prop :=
  ∀ (s : State) (n : Fin 4),
    let c := s.lp n
    let par := (s.reg (State.lpA n 8)).extractLsb' 8 2
    let odd := fun (b : Byte) => (List.range 8).foldl (fun x i => x != b.getLsbD i) false
    let frame := fun (b : Byte) => [false] ++ (List.range 8).map (fun i => b.getLsbD i)
      ++ (if par = 2 then [] else [if par = 1 then odd b else !odd b]) ++ [true]
    (∀ (x : Fin 4 → LoopSample) (v : Bool), (s.conv.cstate ≠ 1 ∨ s.conv.cmask.testBit 1 = false) →
      ∃ t, exec (.loopDacUpdate (x 0) (x 1) (x 2) (x 3) v) s = .next t ∧ t.loop.vlLow = v
        ∧ (t.lp n).rb = (x n).rb ∧ (t.lp n).head = (x n).head ∧ (t.lp n).temp = (x n).temp
        ∧ ((s.md.mode.loopsOff = true ∨ c.live.getLsbD 3 = true) → (t.lp n).itgt = 0 ∧ (t.lp n).hiz = true)
        ∧ ((s.md.mode = .lockout ∨ s.md.mode = .holdup) → c.live.getLsbD 3 = false → (t.lp n).itgt = 0x2555)
        ∧ (150 < (x n).temp.toInt → (t.lp n).live.getLsbD 4 = true)
        ∧ (t.reg (State.lpA n 0xC)).extractLsb' 0 5 = (s.reg (State.lpA n 0xC)).extractLsb' 0 5 ||| (t.lp n).live
        ∧ ((t.lp n).live ≠ 0 → (t.src (114 + n)).rail ≠ .ok)
        ∧ (s.md.mode.follows = true → c.live.getLsbD 3 = false →
          ((s.reg (State.lpA n 0)).getLsbD 0 = false → (t.lp n).itgt = 0 ∧ (t.lp n).hiz = true)
          ∧ ((s.reg (State.lpA n 0)).getLsbD 0 = true → (t.lp n).live.getLsbD 4 = true → (t.lp n).itgt = 0x2555)
          ∧ ((s.reg (State.lpA n 0)).getLsbD 0 = true → (s.reg (State.lpA n 0)).getLsbD 2 = false → (t.lp n).live.getLsbD 4 = false →
              (t.lp n).itgt = (s.reg (State.lpA n 4)).extractLsb' 0 16)))
    ∧ (∃ t, exec (.loopBackfeed n) s = .next t ∧ (t.lp n).live.getLsbD 3 = true ∧ (t.lp n).hiz = true
        ∧ (t.reg (State.lpA n 0xC)).getLsbD 3 = true ∧ (t.src (114 + n)).rail ≠ .ok)
    ∧ exec (.loopBackfeedClear n) s = .next (s.setLp n { c with live := c.live &&& 0x17 })
    ∧ exec (.loopModeSwitchEnd n) s = .next (s.setLp n { c with switching := false })
    ∧ (∀ (m : Fin 10) (v : Word), s.revoked m = false →
      (c.tx.length < 64 → exec (.transmitData m n v) s =
          .next ((s.setLp n { c with tx := c.tx ++ [v.extractLsb' 0 8] }).answer stOk []))
      ∧ (64 ≤ c.tx.length → ∃ t, exec (.transmitData m n v) s = .next t ∧ t.lp n = c ∧ (t.reg (State.lpA n 0xC)).getLsbD 7 = true
          ∧ t.resp.status = stIgnored)
      ∧ (v.getLsbD 1 = false → State.txBusy c = false → c.tx ≠ [] →
          exec (.fskTxStart m n v) s = .next ((s.setLp n { c with ph := .pending }).answer stOk []))
      ∧ (v.getLsbD 1 = false → (State.txBusy c = true ∨ c.tx = []) → exec (.fskTxStart m n v) s = .next (s.answer stOk []))
      ∧ (∃ t, exec (.fskAbort m n v) s = .next t ∧ t.lp n = { c with tx := [], ph := if State.txBusy c then .aborted else .idle }
          ∧ (t.reg (State.lpA n 0xC)).getLsbD 5 = true ∧ (t.reg (State.lpA n 0xC)).getLsbD 6 = true ∧ t.resp.status = stOk))
    ∧ (∀ b bs, c.ph = .pending → c.tx = b :: bs →
      (c.cd = false → s.fskOn n = true → exec (.fskTxBegin n) s =
          .next (s.setLp n { c with tx := bs, ph := .sending (some b), line := frame b }))
      ∧ ((c.cd = true ∨ s.fskOn n = false) → exec (.fskTxBegin n) s = .next s))
    ∧ (s.fskOn n = false → exec (.fskTxByte n) s = .next s ∧ exec (.fskTxEnd n) s = .next s
        ∧ (∀ up, exec (.fskCarrierDetect n up) s = .next s) ∧ (∀ d p e, exec (.fskRxByte n d p e) s = .next s))
    ∧ (s.fskOn n = true →
      (∀ x, c.ph = .sending x →
        (c.tx = [] → exec (.fskTxByte n) s = .next (s.setLp n { c with ph := .trailer, line := [] }))
        ∧ (∀ b bs, c.tx = b :: bs →
            exec (.fskTxByte n) s = .next (s.setLp n { c with tx := bs, ph := .sending (some b), line := frame b })))
      ∧ (c.ph = .trailer → ∃ t, exec (.fskTxEnd n) s = .next t
          ∧ t.lp n = { c with ph := .idle, line := [], muteTo := s.now + 333334 } ∧ (t.reg (State.lpA n 0xC)).getLsbD 5 = true)
      ∧ (c.ph = .aborted →
          exec (.fskTxEnd n) s = .next (s.setLp n { c with ph := .idle, line := [], muteTo := s.now + 333334 }))
      ∧ (∀ up : Bool,
          exec (.fskCarrierDetect n up) s = .next (s.setLp n { c with cd := up, gap := (up && !c.cd) || c.gap }))
      ∧ (∀ (d : Byte) (parity stop : Bool),
        ((c.cd = false ∨ State.txBusy c = true) → exec (.fskRxByte n d parity stop) s = .next s)
        ∧ (c.cd = true → State.txBusy c = false →
            (c.muteTo = 0 ∨ c.muteTo + (if par = 2 then 19 else 21) * 166667 / 2 ≤ s.now) →
          (c.rx.length < 64 → ∃ t, exec (.fskRxByte n d parity stop) s = .next t ∧ (t.lp n).gap = false
            ∧ (t.lp n).rx = c.rx ++ [{
                data := d
                perr := decide (par ≠ 2) && ((if par = 1 then odd d else !odd d) != parity)
                ferr := !stop
                gap := c.gap }])
          ∧ (64 ≤ c.rx.length → ∃ t, exec (.fskRxByte n d parity stop) s = .next t ∧ (t.lp n).rx = c.rx
              ∧ (t.reg (State.lpA n 0xC)).getLsbD 8 = true))))
    ∧ (∀ m : Fin 10, s.revoked m = false →
      (c.rx = [] → exec (.rxdPop m n) s = .next (s.answer stOk [0]))
      ∧ (∀ e es, c.rx = e :: es → ∃ t w, exec (.rxdPop m n) s = .next t ∧ t.lp n = { c with rx := es } ∧ t.resp.status = stOk
          ∧ t.resp.data = [w] ∧ w.extractLsb' 0 8 = e.data ∧ w.getLsbD 8 = true ∧ w.getLsbD 9 = e.perr ∧ w.getLsbD 10 = e.ferr
          ∧ w.getLsbD 11 = e.gap))

/-- 15 R405-R412: the general I/O bank. A used pin takes a level that has held for its filter time and counts the edges CEDGE
selects; a current limit, a readback mismatch and a temperature are held per pin with FAULT and F118, and a tripped or hot driver is
off; a valid kick opens a new watchdog window; the end of a window sets WDEXP with F119 and drives the safe pattern until software
clears it. -/
def Obligations.GioCommands : Prop :=
  ∀ (s : State) (n : Fin 16),
    let cfg := s.reg (gioB + 0x40 + 4 * n)
    let filt : Nat := if cfg.extractLsb' 2 2 = 0 then 10 else if cfg.extractLsb' 2 2 = 1 then 100 else if cfg.extractLsb' 2 2 = 2 then 1000 else 10000
    (∀ x : HeldLevel,
      ((s.gioPin n = 0 ∨ s.gio.lv.getLsbD n = x.level ∨ x.held.toNat < filt) → exec (.gioInputChange n x) s = .next s)
      ∧ (s.gioPin n ≠ 0 → s.gio.lv.getLsbD n ≠ x.level → filt ≤ x.held.toNat →
          ∃ t, exec (.gioInputChange n x) s = .next t ∧ t.gio.lv.getLsbD n = x.level
            ∧ t.reg (gioB + 0x100 + 4 * n) = (if cfg.getLsbD (if x.level then 4 else 5) then s.reg (gioB + 0x100 + 4 * n) + 1
                else s.reg (gioB + 0x100 + 4 * n))
            ∧ (cfg.getLsbD (if x.level then 4 else 5) = true → (t.reg (gioB + 0x28)).getLsbD n = true)))
    ∧ (s.gioOn n = true →
        ∃ t, exec (.gioCurrentLimitTrip false n) s = .next t ∧ t.gio.trip.getLsbD n = true ∧ t.gioOn n = false
          ∧ look 0 t.gio.tripAt n = s.now ∧ (t.reg gioB).getLsbD 1 = true ∧ (t.src 118).rail ≠ .ok)
    ∧ (s.gioOn n = false → exec (.gioCurrentLimitTrip false n) s = .next s)
    ∧ (s.gioPin n = 2 →
      (∃ t, exec (.gioOvertemp n true) s = .next t ∧ t.gio.hot.getLsbD n = true ∧ t.gioOn n = false
        ∧ (t.reg gioB).getLsbD 1 = true ∧ (t.src 118).rail ≠ .ok)
      ∧ (∃ t, exec (.gioOvertemp n false) s = .next t ∧ t.gio.hot.getLsbD n = false))
    ∧ (s.gioPin n ≠ 2 → ∀ b, exec (.gioOvertemp n b) s = .next s)
    ∧ (∀ bad : Bool, ∃ t, exec (.gioReadbackMismatch n bad) s = .next t
        ∧ t.gio.mism.getLsbD n = (bad && decide (s.gioPin n = 2) && (s.gioOn n != s.gio.lv.getLsbD n))
        ∧ (t.gio.mism.getLsbD n = true → (t.reg gioB).getLsbD 1 = true ∧ (t.src 118).rail ≠ .ok))
    ∧ (n.val < 8 → s.tpDrive n = true →
        ∃ t, exec (.gioCurrentLimitTrip true n) s = .next t ∧ t.gio.tpTrip.getLsbD n = true ∧ t.tpDrive n = false
          ∧ (t.reg gioB).getLsbD 1 = true)
    ∧ ((8 ≤ n.val ∨ s.tpDrive n = false) → exec (.gioCurrentLimitTrip true n) s = .next s)
    ∧ (s.gio.trip.getLsbD n = true → ∃ t, exec (.gioDriverRestore false n) s = .next t ∧ t.gio.trip.getLsbD n = false
        ∧ t.gio.tpTrip = s.gio.tpTrip)
    ∧ (s.gio.trip.getLsbD n = false → exec (.gioDriverRestore false n) s = .next s)
    ∧ (n.val < 8 → (∀ b : Bool, bit s.gio.tpTrip n = b →
        (b = true → ∃ t, exec (.gioDriverRestore true n) s = .next t ∧ bit t.gio.tpTrip n = false ∧ t.gio.trip = s.gio.trip)
        ∧ (b = false → exec (.gioDriverRestore true n) s = .next s)))
    ∧ (∀ low : Bool, ∃ t, exec (.vgLow low) s = .next t ∧ t.gio.vgLow = low)
    ∧ (∀ (m : Fin 10) (v : Word), s.revoked m = false →
      (v.extractLsb' 0 16 ≠ 0xA55A → exec (.wdkick m v) s = .next (s.answer stIgnored []))
      ∧ (v.extractLsb' 0 16 = 0xA55A → s.gioTime ≠ 0 → s.md.mode.follows = true → s.gio.wdexp = false →
        (s.gio.wdAt = none ∨ (∃ u, s.gio.wdAt = some u ∧ s.now < u + s.gioTime)) →
          exec (.wdkick m v) s = .next ({ s with gio := { s.gio with wdAt := some s.now } }.answer stOk []))
      ∧ (v.extractLsb' 0 16 = 0xA55A → (s.gioTime = 0 ∨ s.gio.wdexp = true ∨ ∃ u, s.gio.wdAt = some u ∧ u + s.gioTime ≤ s.now) →
          exec (.wdkick m v) s = .next (s.answer stOk [])))
    ∧ (∀ u, s.gio.wdAt = some u → s.gioTime ≠ 0 →
        ∃ t, exec .gioWatchdogExpire s = .next t ∧ t.gio.wdexp = true ∧ t.gio.wdAt = none ∧ t.gioSafe = true ∧ (t.src 119).rail ≠ .ok)
    ∧ (s.gio.wdAt = none → exec .gioWatchdogExpire s = .next s)
    ∧ (∀ m : Fin 10, s.revoked m = false →
      (s.gio.wdexp = true → ∃ t, exec (.gioWatchdogClear m) s = .next t ∧ t.gio.wdexp = false ∧ t.resp.status = stOk
        ∧ t.gio.wdAt = (if s.gioTime ≠ 0 ∧ s.md.mode.follows = true then some s.now else none))
      ∧ (s.gio.wdexp = false → exec (.gioWatchdogClear m) s = .next (s.answer stOk [])))

/-- 16 R417-R434, 23 R576: queues and memories. A master with the permission reserves the next slot, publishes a slot that it has
reserved, takes the oldest published entry and releases an entry that it has taken; without one a read answers 0 and a write is
IGNORED. A fabric timeout answers ERROR with F132, and a core's oldest posted store has that response. The scrubber, under its
grant, goes on word by word and leaves the data, and without one it waits; a drain of the recorder writes the collector's entries at
once and, in HOLDUP or under its grant, empties the staging buffer. When a hardware job is admitted and which request a timeout ends
are the model's (log entries 125, 131), as is that a command that cannot happen changes nothing (log entry 17). -/
def Obligations.QueuesAndMemories : Prop :=
  ∀ (s : State) (m : Fin 10) (q : Fin 128),
    let v := s.queue q
    (s.revoked m = false →
      (s.qFull q = false → s.qEn q = true → s.qOwned q = true → (s.qPushM q).testBit m = true →
        exec (.queueReserve m q) s = .next ((s.setQueue q { v with
          slots := v.slots ++ [{ idx := v.next, st := .reserved m }]
          next := (v.next + 1) % s.qDepth q }).answer stOk [BitVec.ofNat 32 (s.qSlotAddr q v.next) ||| 1]))
      ∧ ((s.qFull q = true ∨ s.qEn q = false ∨ s.qOwned q = false ∨ (s.qPushM q).testBit m = false) →
        exec (.queueReserve m q) s = .next (s.answer stOk [0]))
      ∧ (∀ a : Word,
        (∀ i, s.qFind q a.toNat (.reserved m) = some i →
          exec (.queuePublish m q a) s = .next ((s.setQueue q { v with slots := Queue.mark i .published v.slots }).answer stOk []))
        ∧ ((∀ e ∈ v.slots, ¬ (s.qSlotAddr q e.idx = a.toNat ∧ e.st = .reserved m)) →
          exec (.queuePublish m q a) s = .next (s.answer stIgnored []))
        ∧ (∀ i, s.qFind q a.toNat (.taken m) = some i →
          exec (.queueRelease m q a) s =
            .next ((s.setQueue q (Queue.trim { v with slots := Queue.mark i .released v.slots })).answer stOk []))
        ∧ ((∀ e ∈ v.slots, ¬ (s.qSlotAddr q e.idx = a.toNat ∧ e.st = .taken m)) →
          exec (.queueRelease m q a) s = .next (s.answer stIgnored [])))
      ∧ (∀ e, Queue.front v.slots = some e → (s.qPopM q).testBit m = true →
          exec (.queueTake m q) s = .next ((s.setQueue q { v with slots := Queue.mark e.idx (.taken m) v.slots }).answer stOk
            [BitVec.ofNat 32 (s.qSlotAddr q e.idx) ||| 1]))
      ∧ ((Queue.front v.slots = none ∨ (s.qPopM q).testBit m = false) → exec (.queueTake m q) s = .next (s.answer stOk [0])))
    ∧ (∀ u : BitVec 16, m ≠ 4 → ∃ t, exec (.fabricTimeout m u) s = .next t ∧ t.resp.status = stError ∧ t.resp.data = []
        ∧ ((∀ x ∈ s.lnk.remote, x.core ≠ m.val) → (t.src 132).rail ≠ .ok ∧ t.mem = s.mem
          ∧ (∀ (k : Fin 4) e rest, k.val = m.val → (s.cpu (.ac k)).posted = e :: rest →
              (t.cpu (.ac k)).posted = (stError, e.2) :: rest)))
    ∧ (∀ u : BitVec 16, m = 4 → exec (.fabricTimeout m u) s = .next s)
    ∧ (∀ err : EccErr,
      ((s.reg (memB + 0x10)).getLsbD 0 = false → s.governs = true → (∃ g ∈ s.gov.grants, g.who = .job 6 ∧ g.ended = false) →
        ∃ t, exec (.patrolScrubRead err) s = .next t ∧ t.mem.cells = s.mem.cells
          ∧ t.mem.scrubAt = (if 0x10000000 ≤ s.mem.scrubAt + 8 then 0 else s.mem.scrubAt + 8))
      ∧ ((s.governs = false ∨ (s.gov.hot = true ∧ ∀ g ∈ s.gov.grants, g.who = .job 6 → g.ended = true)) →
          ∃ t, exec (.patrolScrubRead err) s = .next t ∧ t.mem = s.mem ∧ t.regs = s.regs)
      ∧ ((s.reg (memB + 0x10)).getLsbD 0 = true → exec (.patrolScrubRead err) s = .next s))
    ∧ (s.md.mode ≠ .off → s.md.mode ≠ .reset → ∃ t, exec .recorderDrain s = .next t ∧ t.md = s.md
        ∧ (∀ e ∈ t.mem.stage, e.fromCollector = false)
        ∧ ((s.md.mode = .holdup ∨ (s.governs = true ∧ ∃ g ∈ s.gov.grants, g.who = .job 1 ∧ g.ended = false)) → t.mem.stage = []))
    ∧ ((s.md.mode = .off ∨ s.md.mode = .reset) → exec .recorderDrain s = .next s)
    ∧ (∀ (n : Fin 16) (hot : Bool), ∃ t, exec (.tioDriverOvertemp n hot) s = .next t ∧ t.tmr.hot.getLsbD n = hot
        ∧ (∀ k : Fin 16, k ≠ n → t.tmr.hot.getLsbD k = s.tmr.hot.getLsbD k))

/-- 17 R444-R452, 18 R461-R466: the governor and the self-test. A window counts, stores P_pkg and D_field as reported; what remains
of the reserve joins the shared budget half a window later; the difference between estimate and measured energy of a grant returns
to its pool, in the instant of a boundary to that of the window it opens; a sample at or above TLIM + 5 C sets HOT. A cycle runs at
most one slice, which is admitted first; a step that passes goes on to the next, one that fails is run again, and one that fails
again is confirmed with FAIL; a switch point of a comparator outside the band of its ITYPE, or hysteresis below 0.5 V, fails INCMP
with F036-F039; a debt of 1.0 sets OVERDUE with F144. A field shows the low bits of its value, the table that ITYPE of a spare's
test comes from and the admission of a hardware job are the model's (log entries 100, 124, 131). -/
def Obligations.GovernorAndSelfTest : Prop :=
  ∀ (s : State),
    (∀ e : GovEnv,
      (s.tmr.lock = true → (s.conv.cstate ≠ 1 ∨ s.conv.cmask.testBit 5 = false) → ∃ t, exec (.governorWindow e) s = .next t
        ∧ t.reg (govB + 0x20) = s.reg (govB + 0x20) + 1
        ∧ (t.reg (govB + 0x24)).toNat % 65536 = (e.pLogic.toNat + e.dField.toNat) % 65536
        ∧ t.reg (govB + 0x28) = e.dField.setWidth 32)
      ∧ (s.tmr.lock = false → exec (.governorWindow e) s = .next s ∧ exec .reserveRelease s = .next s))
    ∧ (s.tmr.lock = true → ∃ t, exec .reserveRelease s = .next t ∧ t.gov.left = s.gov.left + s.gov.res ∧ t.gov.res = 0)
    ∧ (∀ (n : BitVec 16) (e : BitVec 32) (g : Grant) (rest : List Grant),
      State.takeGrant (.job n.toNat) s.gov.grants = some (g, rest) → g.cost ≤ e.toNat →
        (s.boundaryDue = false → exec (.grantEnd (.job n) e) s = .next { s with gov := { s.gov with
          grants := rest
          left := if g.fromRes then s.gov.left else s.gov.left + (g.cost - e.toNat)
          res := if g.fromRes then s.gov.res + (g.cost - e.toNat) else s.gov.res } })
        ∧ (s.boundaryDue = true → exec (.grantEnd (.job n) e) s = .next { s with gov := { s.gov with
          grants := rest
          carry := if g.fromRes then s.gov.carry else s.gov.carry + (g.cost - e.toNat)
          carryRes := if g.fromRes then s.gov.carryRes + (g.cost - e.toNat) else s.gov.carryRes } }))
    ∧ (∀ (w : GrantRef) (e : BitVec 32),
      (∀ g ∈ s.gov.grants, g.who ≠ (match w with | .core k => .core k.val | .job n => .job n.toNat)) →
        exec (.grantEnd w e) s = .next s)
    ∧ (∀ (k : Fin 8) (c : BitVec 10),
      (((s.reg (govB + 8)).toNat % 256 : Nat) + 5 ≤ c.toInt →
        ∃ t, exec (.hotEntry k c) s = .next t ∧ t.gov.hot = true ∧ (t.reg (govB + 0x40 + 4 * k)).extractLsb' 0 10 = c)
      ∧ (c.toInt < ((s.reg (govB + 8)).toNat % 256 : Nat) + 5 → exec (.hotEntry k c) s = .next s))
    ∧ (∀ e : SliceEnv,
      ((s.slices = false ∨ s.bst.active ≠ none ∨ s.bst.used = true) → exec (.selfTestSlice e) s = .next s)
      ∧ (s.slices = true → s.bst.active = none → s.bst.used = false →
          (∃ n, n < 11 ∧ s.yields n = false ∧ (n ≠ 0 ∨ s.incmpReady = true)) →
          ∃ t, exec (.selfTestSlice e) s = .next t
            ∧ (s.deferCause e ≠ none → t.bst.used = true ∧ t.bst.active = none ∧ (t.reg bstB).getLsbD 2 = true
                ∧ (t.src 146).rail ≠ .ok)
            ∧ (s.deferCause e = none → (t.bst.used = true ↔ t.bst.active ≠ none)
                ∧ (s.governs = true → (∃ g ∈ s.gov.grants, g.who = .job 0 ∧ g.ended = false) → t.bst.used = true))))
    ∧ (∀ r : SliceResult,
      (s.bst.active = none → exec (.sliceEnd r) s = .next s)
      ∧ (∀ n, s.bst.active = some n → ∃ t, exec (.sliceEnd r) s = .next t ∧ t.bst.active = none
        ∧ (n = 0 → (s.seq 0).step < 192 →
            let st := (s.seq 0).step
            let type1 := s.inType1 (st % 6 / 2 != 1) (st / 6)
            let low : Int := (if type1 then 10000 else 6000) + (if st % 2 = 0 then 1000 else 0)
            let v := r.meas.toInt
            let fails : Prop := v < low ∨ low + 3500 < v ∨ (st % 2 = 1 ∧ s.inputs.riseMv - v < 500)
            (fails → (t.seq 0).failed = true ∧ (t.reg bstB).getLsbD 1 = true ∧ (t.src (36 + st / 48)).rail ≠ .ok)
            ∧ (¬ fails → (t.seq 0).failed = (s.seq 0).failed))
        ∧ (n ≠ 0 → r.failed = false → r.disagreed = false →
            (t.seq n).step = (if seqLen n ≤ (s.seq n).step + 1 then 0 else (s.seq n).step + 1) ∧ (t.seq n).retry = none)
        ∧ (n ≠ 0 → (r.failed = true ∨ r.disagreed = true) → (s.seq n).confirmed.contains r.item.toNat = false →
            ((s.seq n).retry ≠ some ((s.seq n).step, r.item) →
              (t.seq n).retry = some ((s.seq n).step, r.item) ∧ (t.seq n).step = (s.seq n).step)
            ∧ ((s.seq n).retry = some ((s.seq n).step, r.item) →
              (t.seq n).failed = true ∧ (t.seq n).confirmed.contains r.item.toNat = true ∧ (t.reg bstB).getLsbD 1 = true))))
    ∧ (∀ n : Fin 11,
      ((s.seq n).overdue = false → s.tmr.lock = true →
        ∃ t, exec (.debtExpire n) s = .next t ∧ (t.seq n).overdue = true ∧ (t.reg bstB).getLsbD 3 = true ∧ (t.src 144).rail ≠ .ok)
      ∧ (((s.seq n).overdue = true ∨ s.tmr.lock = false) → exec (.debtExpire n) s = .next s))

/-- 19 R489-R497: the OTP jobs. With KEY 0x5A and no job running a JOBCMD starts its job, or ends FAILED with the result and word of
its refusal; another key, or a job running, makes it IGNORED. A job that ends is DONE or FAILED; a burn that nothing disturbs pulses
every missing bit of its word, and a job that a reset has ended leaves only its burns.
The progress in JOBSTAT is free (log entry 1). -/
def Obligations.OtpJobs : Prop :=
  ∀ (s : State) (m : Fin 10) (key : BitVec 8), s.revoked m = false →
    let asks := fun (i : Instr) (op arg : Nat) (repair : Bool) (refusal : Option (Nat × Nat)) =>
      ((key ≠ 0x5A ∨ s.otpBusy = true) → exec i s = .next (s.answer stIgnored []))
      ∧ (key = 0x5A → s.otpBusy = false →
        (refusal = none → ∃ t, exec i s = .next t ∧ t.reg (otpB + 0x28) = 1 ∧ t.resp.status = stOk
          ∧ t.otp.job = some { op := op, arg := arg, repair := repair, data := s.reg (otpB + 0x24) })
        ∧ (∀ code w, refusal = some (code, w) → ∃ t, exec i s = .next t ∧ t.otp.job = none ∧ t.resp.status = stOk
          ∧ (t.reg (otpB + 0x28)).toNat % 16 = 4 ∧ (t.reg (otpB + 0x28)).toNat / 65536 = code % 65536
          ∧ t.reg (otpB + 0x2C) = BitVec.ofNat 32 w ∧ t.otp.normal = s.otp.normal ∧ t.otp.strict = s.otp.strict))
    (∀ w : BitVec 10, asks (.otpProg m w key) 1 w.toNat false ((s.progRefusal w.toNat).map (fun c => (c, w.toNat))))
    ∧ (∀ r : BitVec 4, asks (.otpFinal m r key) 2 r.toNat false (s.finalRefusal r.toNat))
    ∧ (∀ (w : BitVec 10) (rep : Bool), asks (.otpStrengthen m w rep key) 3 w.toNat rep (s.strengthenRefusal w.toNat))
    ∧ (s.otpProgMode = false → ∀ w, s.progRefusal w = some 1)
    ∧ (∀ e : BurnEnv,
      (s.otp.job = none → exec (.otpJobEnd e) s = .next s)
      ∧ (∀ j, s.otp.job = some j → ∃ t, exec (.otpJobEnd e) s = .next t ∧ t.otp.job = none
        ∧ (j.lost = false → (t.reg (otpB + 0x28)).toNat % 16 = 3 ∨ (t.reg (otpB + 0x28)).toNat % 16 = 4)
        ∧ (j.lost = false → j.stopped = false → e.vlBad = false → e.fails = [] → j.op = 1 →
            (t.reg (otpB + 0x28)).toNat % 16 = 3 ∧ t.otpT j.arg = s.otpT j.arg ||| otpCode j.data)))

/-- 20 R502-R522, 22 R559-R564: the trust engine. With KEY 0x5A, no job running and outside START and VERIFY a JOBCMD starts its job
or ends FAILED with the result of its refusal; LCADV and NVWIPE set their mark as they start. The challenge is used up by every
AUTH, and an accepted authorisation stands until it expires or DEAUTH ends it, which in SERVICE returns the device to RESET; LCADV
ends in RESET; CONFIRM is refused for other CCVs. An extend replaces its cairn by the hash of the cairn and the value; a queued
quote is answered in Q125. A job ends under its grant (class 3 for a quote, else 4), one that has been stopped without it. The hash,
the signatures and the entropy are fixed functions without a known value (log entries 3, 14); when a hardware job is admitted, and
what a command does that cannot happen, are the model's choice (log entries 131, 17). -/
def Obligations.TrustJobs : Prop :=
  ∀ (s : State),
    (∀ (m : Fin 10) (key : BitVec 8), s.revoked m = false →
      let asks := fun (i : Instr) (op arg : Nat) =>
        ((key ≠ 0x5A ∨ s.truModes = false ∨ s.truBusy = true) → exec i s = .next (s.answer stIgnored []))
        ∧ (key = 0x5A → s.truModes = true → s.truBusy = false →
          (s.truRefusal op arg = none → ∃ t, exec i s = .next t ∧ t.reg (truB + 0x48) = 1 ∧ t.resp.status = stOk
            ∧ t.tru.job = some { op := op, arg := arg } ∧ (op = 3 → t.tru.wipePend = true) ∧ (op = 4 → t.mem.wipe = true))
          ∧ (∀ code, s.truRefusal op arg = some code → ∃ t, exec i s = .next t ∧ t.tru.job = none ∧ t.resp.status = stOk
            ∧ (t.reg (truB + 0x48)).toNat % 16 = 4 ∧ (t.reg (truB + 0x48)).toNat / 65536 = code % 65536))
      asks (.truQuote m key) 1 0 ∧ asks (.truAuth m key) 2 0 ∧ (∀ g : BitVec 4, asks (.truLcadv m g key) 3 g.toNat)
      ∧ asks (.truNvwipe m key) 4 0 ∧ asks (.truDeauth m key) 5 0 ∧ (∀ k : BitVec 4, asks (.truUpbegin m k key) 8 k.toNat)
      ∧ (∀ k : BitVec 4, asks (.truUpdata m k key) 9 k.toNat) ∧ (∀ k : BitVec 4, asks (.truUpact m k key) 10 k.toNat)
      ∧ asks (.truConfirm m key) 11 0)
    ∧ (∀ (e : BurnEnv) (nv : Bool),
      (s.tru.job = none → exec (.truJobEnd e nv) s = .next s)
      ∧ (∀ j, s.tru.job = some j → j.lost = true → ∃ t, exec (.truJobEnd e nv) s = .next t ∧ t.tru.job = none)
      ∧ (∀ j, s.tru.job = some j → j.lost = false → j.stopped = false → s.governs = false →
          ∃ t, exec (.truJobEnd e nv) s = .next t ∧ t.tru = s.tru ∧ t.regs = s.regs ∧ t.mem = s.mem)
      ∧ (∀ j, s.tru.job = some j → j.lost = false →
        (j.stopped = true ∨ (s.governs = true
          ∧ ∃ g ∈ s.gov.grants, g.who = (if j.op = 1 then Worker.job 4 else .job 5) ∧ g.ended = false)) →
        (j.op = 1 → ∃ t, exec (.truJobEnd e nv) s = .next t ∧ t.tru.job = none ∧ (t.reg (truB + 0x48)).toNat % 16 = 3)
        ∧ (j.op = 2 → ∃ t, exec (.truJobEnd e nv) s = .next t ∧ t.tru.job = none ∧ t.tru.chal = none
          ∧ (s.authResult = 0 → (t.reg (truB + 0x48)).toNat % 16 = 3 ∧ ∃ a, t.tru.auth = some a ∧ a.kind = s.winNum 4 1
              ∧ a.expires = s.now + s.winNum 48 4 * 200000000)
          ∧ (s.authResult ≠ 0 → t.tru.auth = s.tru.auth ∧ (t.reg (truB + 0x48)).toNat / 65536 = s.authResult % 65536
              ∧ (t.reg truB).getLsbD 4 = true))
        ∧ (j.op = 3 → ∃ t, exec (.truJobEnd e nv) s = .next t ∧ t.md.mode = .reset ∧ t.md.cause = 2)
        ∧ (j.op = 4 → j.stopped = false → ∃ t, exec (.truJobEnd e nv) s = .next t ∧ t.tru.job = none ∧ t.mem.wipe = false)
        ∧ (j.op = 5 → ∃ t, exec (.truJobEnd e nv) s = .next t ∧ t.tru.auth = none
          ∧ (s.md.mode = .service → s.tru.auth ≠ none → t.md.mode = .reset ∧ t.md.cause = 3))
        ∧ (j.op = 8 → s.upModes j.arg = true → ∃ t, exec (.truJobEnd e nv) s = .next t ∧ t.tru.job = none
          ∧ t.upd.opened = some (j.arg, 0))
        ∧ (j.op = 9 → s.upModes j.arg = true → s.openOf j.arg = none → ∃ t, exec (.truJobEnd e nv) s = .next t ∧ t.tru.job = none
          ∧ (t.reg (truB + 0x48)).toNat / 65536 = 0x30)
        ∧ (j.op = 11 → s.md.mode = .commission → s.md.trel = none →
          (BitVec.ofNat 32 (s.winNum 0 4) ≠ s.ccvA → ∃ t, exec (.truJobEnd e nv) s = .next t ∧ t.tru.job = none
            ∧ (t.reg (truB + 0x48)).toNat / 65536 = 0x41 ∧ t.md = s.md ∧ t.mem = s.mem)
          ∧ (BitVec.ofNat 32 (s.winNum 0 4) = s.ccvA → BitVec.ofNat 32 (s.winNum 0 4) ≠ s.ccvB →
            ∃ t, exec (.truJobEnd e nv) s = .next t ∧ t.tru.job = none ∧ (t.reg (truB + 0x48)).toNat / 65536 = 0x42 ∧ t.md = s.md
              ∧ t.mem = s.mem))))
    ∧ (∀ (t : State) (entry : List Byte), s.truModes = true → s.truBusy = false → s.qPop 124 = (t, some entry) →
        s.qFull 125 = false → s.qEn 125 = true → s.governs = true → (∃ g ∈ s.gov.grants, g.who = .job 4 ∧ g.ended = false) →
        ∃ u, exec .quoteQueueRequest s = .next u ∧ u.queue 124 = t.queue 124
          ∧ (u.queue 125).slots = (s.queue 125).slots ++ [{ idx := (s.queue 125).next, st := .published }])
    ∧ ((s.truModes = false ∨ s.truBusy = true ∨ s.qAvail 124 = false) → exec .quoteQueueRequest s = .next s)
    ∧ (∀ m : Fin 10, s.revoked m = false →
      (∃ t, exec (.challenge m) s = .next t ∧ t.tru.chal = some (Config.entropy s.fresh) ∧ t.resp.status = stOk ∧ t.resp.data = [1]
        ∧ t.fresh = s.fresh + 1)
      ∧ (∀ v : Word,
        (s.tru.ext = none → 12 ≤ v.toNat % 16 →
          ∃ t x, exec (.cairnExtend m v) s = .next t ∧ t.tru.ext = some (v.toNat % 16, x) ∧ t.tru.cairns = s.tru.cairns
            ∧ t.resp.status = stOk)
        ∧ ((s.tru.ext ≠ none ∨ v.toNat % 16 < 12) → exec (.cairnExtend m v) s = .next (s.answer stIgnored []))))
    ∧ (∀ c x, s.tru.ext = some (c, x) →
        ∃ t, exec .extendComplete s = .next t ∧ t.tru.ext = none ∧ (∀ d, d ≠ c → t.cairn d = s.cairn d)
          ∧ t.cairn c = Config.sha3_512 (bytesOfNat 64 (s.cairn c).toNat ++ bytesOfNat 64 x.toNat))
    ∧ (s.tru.ext = none → exec .extendComplete s = .next s)
    ∧ (∀ e : BurnEnv,
      (s.tru.advPend = true → (s.md.mode = .idle ∨ s.md.mode = .run) → e.vlBad = false → e.fails = [] →
        ∃ t, exec (.antiRollbackAdvance e) s = .next t ∧ t.tru.advPend = false ∧ t.md = s.md)
      ∧ ((s.tru.advPend = false ∨ (s.md.mode ≠ .idle ∧ s.md.mode ≠ .run)) → exec (.antiRollbackAdvance e) s = .next s))
    ∧ (s.tru.auth ≠ none → ∃ t, exec .authorisationExpire s = .next t ∧ t.tru.auth = none
        ∧ (s.md.mode = .service → t.md.mode = .reset ∧ t.md.cause = 3))
    ∧ (s.tru.auth = none → exec .authorisationExpire s = .next s)

/-- FRAME of the commands of the field units: what each of them may change, everything else of the state (the processors, the tasks,
memories and queues, the modes, the other units, the commands that wait) staying as it is. Inputs and test pulses (07) change their
own state and the fault rails; outputs (08) the same; loops (14), general I/O (15) and timers (13) their state, registers, rails and
the answer, where ticks pass the snapshot that one of them takes, and with lock the opening of the link; a DAC update that is no
commit's safe point as the loops; rings (11) and ridge link (21) likewise, for the commands named. -/
def Obligations.FieldCommandFrames : Prop :=
  ∀ (s t : State) (i : Instr), exec i s = .next t →
    let inputs := match i with
      | .inputFilterChange _ _ _ | .testPulseStart _ | .testPulseEnd _ _ _ _ _ _ _ | .testPulseMaskClose _ | .tpOverloadTrip _
      | .tpOverloadRetry _ | .tpOverloadClear _ => true
      | _ => false
    let outputs := match i with
      | .offTestStart _ | .offTestPass _ | .offTestTimeout _ _ | .onTestStart _ | .onTestPass _ | .onTestTimeout _
      | .outputOverloadTrip _ _ | .outputOverloadClear _ | .groupCurrentTrip _ | .groupCurrentClear _ | .groupSupplyChange _ _ => true
      | _ => false
    let loops := match i with
      | .loopBackfeed _ | .loopBackfeedClear _ | .loopModeSwitchEnd _ | .transmitData _ _ _ | .fskTxStart _ _ _
      | .fskAbort _ _ _ | .fskTxBegin _ | .fskTxByte _ | .fskTxEnd _ | .fskCarrierDetect _ _ | .fskRxByte _ _ _ _ | .rxdPop _ _ => true
      | _ => false
    let gio := match i with
      | .gioInputChange _ _ | .gioCurrentLimitTrip _ _ | .gioDriverRestore _ _ | .gioReadbackMismatch _ _ | .gioOvertemp _ _ | .vgLow _
      | .wdkick _ _ | .gioWatchdogExpire | .gioWatchdogClear _ => true
      | _ => false
    let timers := match i with
      | .tcCountEdge _ _ _ | .tcCompareMatch _ _ | .tcWrap _ | .tcCapture _ _ _ | .capturePop _ _ | .wcFire _ | .pllLockLost
      | .pllLockRestored | .tioDriverOvertemp _ _ => true
      | _ => false
    let rings := match i with
      | .ringCheckSend _ | .ringCheckWindow _ | .portLinkChange _ _ _ | .tsinfoPop _ => true
      | _ => false
    let ridge := match i with
      | .ridgeStop _ _ _ _ _ | .ridgeStopSend | .ridgeOriginTimeout _ | .ridgeSideDown _ | .ridgeTime _ _ _ _ _ _ _
      | .ridgeAlignmentTimeout _ => true
      | _ => false
    let dac := match i with
      | .loopDacUpdate _ _ _ _ _ => s.conv.cstate != 1 || !s.conv.cmask.testBit 1
      | _ => false
    let conv := { s.conv with snapBusy := t.conv.snapBusy, snapSeq := t.conv.snapSeq }
    (inputs = true → t = { s with inputs := t.inputs, flt := t.flt })
    ∧ (outputs = true → t = { s with outputs := t.outputs, flt := t.flt })
    ∧ ((loops || dac) = true → t = { s with loop := t.loop, regs := t.regs, flt := t.flt, resp := t.resp })
    ∧ (gio = true → t = { s with gio := t.gio, tmr := t.tmr, conv := conv, regs := t.regs, flt := t.flt, resp := t.resp })
    ∧ (timers = true → t = { s with tmr := t.tmr, conv := conv, lnk := { s.lnk with opened := t.lnk.opened }, regs := t.regs, flt := t.flt
                                    resp := t.resp })
    ∧ (rings = true → t = { s with net := t.net, regs := t.regs, flt := t.flt, resp := t.resp })
    ∧ (ridge = true → t = { s with lnk := t.lnk, tmr := t.tmr, regs := t.regs, flt := t.flt, fresh := t.fresh })

/-- 21 R523-R532, R546, 18 R474: the host port and the HST jobs. A write that the buffer has no room for is dropped with WOVF, and
the first one that is not OK leaves its status and address in STAT; one to another device leaves as a request or waits; a READ
fetches COUNT words, which the start byte sends with the worst status, and waits for a word of another device; a wrong COUNT is a
protocol error with F179; the port is silent in RESET and START. FULLTEST holds the processors and runs in SERVICE alone; the job's
owner may abort it, and its JOBACK makes room in the window; the end of the full run gives the first failed step and leaves working
memory at zero. The result 1 of a job refused for its mode and the dropping of a word by an operand are the model's (log entries 28,
33). -/
def Obligations.HostCommands : Prop :=
  ∀ (s : State),
    (s.hostLive = false → (∀ a ws, exec (.hostWrite a ws) s = .next s.hostBegin) ∧ (∀ a c, exec (.hostRead a c) s = .next s.hostBegin)
      ∧ exec .hostStatus s = .next s.hostBegin ∧ exec .hostProtocolError s = .next s.hostBegin)
    ∧ (s.hostLive = true →
      (∀ a v, exec (.hostWrite a [(v, true)]) s = .next (s.hostBegin.setBits hstB 1))
      ∧ (∀ (a v : Word), s.revoked 5 = false → s.host.wbuf = [] →
        let h := s.hostBegin
        let r := { h with lnk := { h.lnk with sent := [] } }.busWrite 5 a.toNat 4 v
        (s.asksRemote 5 a = false → r.2 = stOk →
          ∃ t, exec (.hostWrite a [(v, false)]) s = .next t ∧ { t with lnk := r.1.lnk } = r.1)
        ∧ (s.asksRemote 5 a = false → r.2 ≠ stOk → (r.1.reg hstB).extractLsb' 2 2 = 0 →
            ∃ t, exec (.hostWrite a [(v, false)]) s = .next t ∧ (t.reg hstB).toNat / 4 % 4 = r.2 % 4 ∧ t.reg (hstB + 0x10) = a)
        ∧ (s.asksRemote 5 a = true → s.remoteOpen 5 a = true →
            ∃ t f, exec (.hostWrite a [(v, false)]) s = .next t ∧ t.lnk.sent = [f] ∧ f.type = 3 ∧ f.dest = State.remoteDev a
              ∧ t.lnk.remote = s.lnk.remote ++ [{
                  dest := State.remoteDev a
                  tag := s.lnk.nextTag
                  core := 5
                  addr := a
                  isLoad := false }])
        ∧ (s.asksRemote 5 a = true → s.remoteOpen 5 a = false →
            ∃ t, exec (.hostWrite a [(v, false)]) s = .next t ∧ t.host.wbuf = [(a, v)] ∧ t.lnk = s.lnk))
      ∧ (∀ (a : Word) (c : BitVec 8),
        (1 ≤ c.toNat → c.toNat ≤ 64 → (∀ i, i < c.toNat → regionOf (a + BitVec.ofNat 32 (4 * i)).toNat ≠ .remote) →
          ∃ t ws worst first, exec (.hostRead a c) s = .next t ∧ t.host.read = some (ws, worst, first) ∧ ws.length = c.toNat)
        ∧ (1 ≤ c.toNat → c.toNat ≤ 64 → s.asksRemote 5 a = true →
          ∃ t f, exec (.hostRead a c) s = .next t ∧ t.host.read = none ∧ t.host.fetch = some f ∧ f.addr = a ∧ f.left = c.toNat
            ∧ f.tag = (if s.remoteOpen 5 a then some s.lnk.nextTag else none))
        ∧ ((c = 0 ∨ 64 < c.toNat) → ∃ t, exec (.hostRead a c) s = .next t ∧ t.host.read = none ∧ (t.reg hstB).getLsbD 1 = true
          ∧ (t.src 179).rail ≠ .ok))
      ∧ exec .hostStatus s = .next (s.hostBegin.answer stOk [s.hostBegin.hstStat])
      ∧ (∃ t, exec .hostProtocolError s = .next t ∧ (t.reg hstB).getLsbD 1 = true ∧ (t.src 179).rail ≠ .ok))
    ∧ (∀ ws worst first, s.host.read = some (ws, worst, first) →
        ∃ t w, exec .hostReadStartByte s = .next t ∧ t.host.read = none ∧ t.resp.data = w :: ws ∧ t.resp.status = worst
          ∧ w.toNat % 4 = worst % 4)
    ∧ (s.host.read = none → exec .hostReadStartByte s = .next s)
    ∧ (∀ (m : Fin 10) (key : BitVec 8), s.revoked m = false →
      ((key ≠ 0x5A ∨ s.host.job ≠ none) → exec (.hstFulltest m key) s = .next (s.answer stIgnored [])
        ∧ exec (.hstRecsearch m key) s = .next (s.answer stIgnored []))
      ∧ (key = 0x5A → s.host.job = none →
        (s.md.mode = .service → ∃ t, exec (.hstFulltest m key) s = .next t ∧ t.host.job = some { op := 1 } ∧ t.bst.fullRun = true
          ∧ (∀ p : Proc, (t.cpu p).run = .held) ∧ t.reg State.hjOwn = BitVec.ofNat 32 m ∧ t.resp.status = stOk)
        ∧ (s.md.mode ≠ .service → ∃ t, exec (.hstFulltest m key) s = .next t ∧ t.host.job = none
          ∧ (t.reg State.hjStat).toNat % 16 = 4 ∧ (t.reg State.hjStat).toNat / 65536 = 1)
        ∧ (s.searchModes = true → ∃ t, exec (.hstRecsearch m key) s = .next t ∧ t.reg State.hjOwn = BitVec.ofNat 32 m
          ∧ t.resp.status = stOk ∧ (∃ j, t.host.job = some j ∧ j.op = 2) ∧ t.mem = s.mem))
      ∧ ((key ≠ 0x5A ∨ s.host.job = none ∨ s.reg State.hjOwn ≠ BitVec.ofNat 32 m) →
          exec (.hstAbort m key) s = .next (s.answer stIgnored []))
      ∧ (key = 0x5A → s.host.job ≠ none → s.reg State.hjOwn = BitVec.ofNat 32 m →
          ∃ t, exec (.hstAbort m key) s = .next t ∧ t.host.job = none ∧ t.bst.fullRun = false
            ∧ (t.reg State.hjStat).toNat % 16 = 4 ∧ (t.reg State.hjStat).toNat / 65536 = 7)
      ∧ (∀ v : Word,
        (s.reg State.hjOwn ≠ BitVec.ofNat 32 m → exec (.joback m v) s = .next (s.answer stIgnored []))
        ∧ (s.reg State.hjOwn = BitVec.ofNat 32 m → (∀ j, s.host.job = some j → j.op ≠ 2) →
          (v.toNat % 512 ≤ (s.reg State.hjPart).toNat → exec (.joback m v) s =
            .next ((s.setReg State.hjPart (BitVec.ofNat 32 ((s.reg State.hjPart).toNat - v.toNat % 512))).answer stOk []))
          ∧ ((s.reg State.hjPart).toNat < v.toNat % 512 →
            exec (.joback m v) s = .next ((s.setReg State.hjPart 0).answer stIgnored [])))))
    ∧ (∀ f : BitVec 12,
      (s.host.job = none → exec (.hstJobEnd f) s = .next s)
      ∧ (∀ j, s.host.job = some j → j.op = 1 → s.md.mode ≠ .service →
        ∃ t, exec (.hstJobEnd f) s = .next t ∧ t.host.job = none ∧ (t.reg State.hjStat).toNat % 16 = 4
          ∧ (t.reg State.hjStat).toNat / 65536 = 6)
      ∧ (∀ j, s.host.job = some j → j.op = 1 → s.md.mode = .service →
        ∃ t, exec (.hstJobEnd f) s = .next t ∧ t.host.job = none ∧ t.bst.fullRun = false ∧ (∀ a, a < 0x10000000 → t.byte a = 0)
          ∧ (f = 0 → (t.reg State.hjStat).toNat % 16 = 3)
          ∧ (∀ i : Fin 12, f.getLsbD i = true → (∀ k : Fin 12, k < i → f.getLsbD k = false) →
              (t.reg State.hjStat).toNat % 16 = 4 ∧ (t.reg State.hjStat).toNat / 65536 = i.val + 1)))

/-- 21 R533-R538, R546: the debug port. A request with a bad CRC has no effect and one that the life-cycle state does not allow is
refused; SELECT names the processor; a halted processor shows and takes its registers, executes one instruction on STEP and goes on on
RESUME, past the breakpoint it stands at; within an instruction HALT and STEP answer WAIT; RDMEM and WRMEM access the word at ADDR and
advance it, and RDMEM of another device answers WAIT until its data return; breakpoints are set and cleared by slot; the port's reset
leaves halts and breakpoints.
Which rule judges a command, FAB of the reply and when a breakpoint passes are the model's reading (log entries 38, 91, 134). -/
def Obligations.DebugCommands : Prop :=
  ∀ (s : State) (v : Word),
    let atProc : List (Byte × (Byte → Instr)) := [(0x03, .dbgHalt v), (0x04, .dbgResume v), (0x05, .dbgStep v), (0x06, .dbgArg v),
      (0x07, .dbgRdreg v), (0x08, .dbgWrreg v), (0x13, .dbgBpset v), (0x14, .dbgBpclr v)]
    let atMem : List (Byte × (Byte → Instr)) := [(0x10, .dbgAddr v), (0x11, .dbgRdmem v), (0x12, .dbgWrmem v)]
    let all := [((0x01 : Byte), Instr.dbgIdent v), (0x02, .dbgSelect v)] ++ atProc ++ atMem
    let good := fun (c : Byte) => State.dbgCrc c v
    (∀ b : Byte, s.md.mode = .off → ∀ i ∈ all, exec (i.2 b) s = .next s)
    ∧ (s.md.mode ≠ .off →
      (∀ i ∈ all, ∀ b : Byte, b ≠ good i.1 → exec (i.2 b) s = .next (s.dbgReply ackCrc 0 0))
      ∧ ((s.dbgProc = none ∨ ∃ p, s.dbgProc = some p ∧ s.dbgMay p = false) →
          ∀ i ∈ atProc, exec (i.2 (good i.1)) s = .next (s.dbgReply ackRefused 0 0))
      ∧ (s.dbgMayMem = false → ∀ i ∈ atMem, exec (i.2 (good i.1)) s = .next (s.dbgReply ackRefused 0 0))
      ∧ exec (.dbgIdent v (good 1)) s = .next (s.dbgReply ackDone 0 (s.sysVal 0))
      ∧ (∀ p, procOf (v.toNat % 8) = some p → s.dbgMay p = true →
          ∃ t, exec (.dbgSelect v (good 2)) s = .next t ∧ t.dbg.sel = some (v.toNat % 8) ∧ t.dbg.data = s.modeWord)
      ∧ (∀ p, s.dbgProc = some p → s.dbgMay p = true →
        let c := s.cpu p
        (s.midInstr p = true → exec (.dbgHalt v (good 3)) s = .next (s.dbgReply ackWait 0 0)
            ∧ exec (.dbgStep v (good 5)) s = .next (s.dbgReply ackWait 0 0))
        ∧ (s.midInstr p = false → ∃ t, exec (.dbgHalt v (good 3)) s = .next t ∧ t.isHalted p = true ∧ t.dbg.data = c.pc
            ∧ (t.cpu p).pc = c.pc ∧ (t.cpu p).g = c.g)
        ∧ (∀ r, p = .safety → c.run = .halted r →
            ∃ t, exec (.dbgResume v (good 4)) s = .next t ∧ t.sp = { s.sp with run := r, past := some c.pc })
        ∧ (∀ k, p = .ac k → exec (.dbgResume v (good 4)) s =
            .next (((s.setCpu p { c with past := some c.pc }).resumeCore k).dbgReply ackDone 0 0))
        ∧ ((c.run = .halted .running ∨ c.run = .running) →
            ∃ t, exec (.dbgStep v (good 5)) s = .next t ∧ t.dbg.data = c.pc
              ∧ t.cpu p = { c with run := .running, stepping := true, past := some c.pc })
        ∧ (∃ t, exec (.dbgArg v (good 6)) s = .next t ∧ t.dbg.arg = v ∧ t.cpu p = c)
        ∧ (v.toNat < 16 → ∃ t, exec (.dbgRdreg v (good 7)) s = .next t ∧ t.dbg.data = c.r v.toNat ∧ t.cpu p = c)
        ∧ (v = 0x10 → ∃ t, exec (.dbgRdreg v (good 7)) s = .next t ∧ t.dbg.data = c.pc)
        ∧ (v = 0x11 → ∃ t, exec (.dbgRdreg v (good 7)) s = .next t ∧ t.dbg.data = c.stWord)
        ∧ (v.toNat < 16 → ∃ t, exec (.dbgWrreg v (good 8)) s = .next t ∧ t.cpu p = c.w v.toNat s.dbg.arg)
        ∧ (v = 0x10 → ∃ t, exec (.dbgWrreg v (good 8)) s = .next t ∧ (t.cpu p).pc = s.dbg.arg &&& 0xFFFFFFFC)
        ∧ (0x60 ≤ v.toNat → exec (.dbgRdreg v (good 7)) s = .next (s.dbgReply ackRefused 0 0)
            ∧ exec (.dbgWrreg v (good 8)) s = .next (s.dbgReply ackRefused 0 0))
        ∧ (∃ t, exec (.dbgBpset v (good 0x13)) s = .next t ∧ look none t.dbg.bps (State.bpBase p + s.dbg.arg.toNat % 4) = some v)
        ∧ (v.toNat < 4 → ∃ t, exec (.dbgBpclr v (good 0x14)) s = .next t ∧ look none t.dbg.bps (State.bpBase p + v.toNat) = none)
        ∧ (v = 4 → ∃ t, exec (.dbgBpclr v (good 0x14)) s = .next t ∧ (∀ i : Fin 4, look none t.dbg.bps (State.bpBase p + i) = none)))
      ∧ (s.dbgMayMem = true →
        (∃ t, exec (.dbgAddr v (good 0x10)) s = .next t ∧ t.dbg.addr = v)
        ∧ (s.dbgPrivate = false → s.asksRemote 6 s.dbg.addr = false →
          let r := s.busRead 6 s.dbg.addr.toNat 4
          let w := s.busWrite 6 s.dbg.addr.toNat 4 v
          (∃ t, exec (.dbgRdmem v (good 0x11)) s = .next t ∧ t.dbg.data = (if r.2.1 = stOk then r.2.2 else 0)
            ∧ t.dbg.addr = r.1.dbg.addr + 4 ∧ t.mem = r.1.mem)
          ∧ (∃ t, exec (.dbgWrmem v (good 0x12)) s = .next t ∧ t.dbg.addr = w.1.dbg.addr + 4 ∧ t.dbg.fab = w.2 ∧ t.mem = w.1.mem))
        ∧ (s.dbgPrivate = false → s.asksRemote 6 s.dbg.addr = true →
          (s.dbg.got = none → ∃ t, exec (.dbgRdmem v (good 0x11)) s = .next t ∧ t.dbg.status.extractLsb' 0 2 = 1
            ∧ t.dbg.addr = s.dbg.addr
            ∧ t.dbg.asked = (if s.dbg.asked = none ∧ s.remoteOpen 6 s.dbg.addr = true then some s.lnk.nextTag else s.dbg.asked))
          ∧ (∀ st w, s.dbg.got = some (st, w) → ∃ t, exec (.dbgRdmem v (good 0x11)) s = .next t
            ∧ t.dbg.data = (if st = stOk then w else 0) ∧ t.dbg.addr = s.dbg.addr + 4 ∧ t.dbg.got = none)
          ∧ (s.remoteOpen 6 s.dbg.addr = true → ∃ t f, exec (.dbgWrmem v (good 0x12)) s = .next t ∧ t.lnk.sent = [f] ∧ f.type = 3
            ∧ f.dest = State.remoteDev s.dbg.addr ∧ t.dbg.addr = s.dbg.addr + 4))))
    ∧ exec .debugPortReset s = .next { s with dbg := { s.dbg with sel := none, addr := 0, asked := none, got := none } }

/-- 21 R539-R549: the ridge link. A frame while the link is off, with an error or of the device's own ID has none of its effect; an
error counts, and an own STOP frame is a fault. A STOP frame marks its origin and is relayed; 60 us without one ends its side or its
origin. A TIME exchange gives the offset; a request of another device is answered, with ERROR outside the exposed region or while
the link is revoked; a response ends its request, and the debug port has its word; a queue message enters its queue, and one leaves
under the grant of its job. The payload of a response, the rounding of the offset, the side of a frame, the discarding of own frames
and the admission of a hardware job are the model's (log entries 31, 35, 75, 77, 78, 96, 131). -/
def Obligations.RidgeCommands : Prop :=
  ∀ (s : State) (ld : Bool) (orig : Fin 8),
    let quiet : Prop := s.host.wbuf = [] ∧ s.host.fetch = none ∧ ∀ k : Fin 4, (s.cpu (.ac k)).killDue = false
    (s.linkOn = false → ∀ e, (∀ l r, exec (.ridgeStop ld e orig l r) s = .next s) ∧ (∀ a b c d, exec (.ridgeTime ld e orig a b c d) s = .next s)
      ∧ (∀ w g o v, exec (.ridgeMreq ld e orig w g o v) s = .next s) ∧ (∀ g o v, exec (.ridgeMrsp ld e orig g o v) s = .next s)
      ∧ (∀ x, exec (.ridgeQmsg ld e orig x) s = .next s) ∧ exec .ridgeStopSend s = .next s
      ∧ (∀ q, exec (.ridgeQmsgSend q) s = .next s) ∧ (∀ b, exec (.ridgeAlignmentTimeout b) s = .next s))
    ∧ (s.linkOn = true →
      (∀ e, e ≠ LinkErr.none → ∀ l r, ∃ t, exec (.ridgeStop ld e orig l r) s = .next t
        ∧ t.reg (lnkB + (if e = .code then 0x20 else 0x24)) = s.reg (lnkB + (if e = .code then 0x20 else 0x24)) + 1
        ∧ t.lnk.present = s.lnk.present ∧ t.lnk.lines = s.lnk.lines ∧ t.lnk.sent = s.lnk.sent)
      ∧ (∀ l r, orig.val = s.lnk.id → ∃ t, exec (.ridgeStop ld .none orig l r) s = .next t ∧ t.lnk = { s.lnk with err := true }
        ∧ (t.reg lnkB).getLsbD 1 = true ∧ (t.reg lnkB).getLsbD 3 = true ∧ (t.src 176).rail ≠ .ok)
      ∧ (∀ (l : BitVec 16) (r : Byte), orig.val ≠ s.lnk.id → ∃ t, exec (.ridgeStop ld .none orig l r) s = .next t
        ∧ t.lnk.present.getLsbD orig = true ∧ t.lnk.fresh.getLsbD orig = true ∧ look 0 t.lnk.lines orig = l
        ∧ (t.side ld).run = (s.side ld).run + 1 ∧ (3 ≤ (s.side ld).run → (t.side ld).up = true)
        ∧ (∃ f, t.lnk.sent = [f] ∧ f.ld = !ld ∧ f.type = 1 ∧ f.orig = orig.val ∧ f.payload = bytesOfNat 4 l.toNat))
      ∧ (∃ t f g, exec .ridgeStopSend s = .next t ∧ t.lnk.refresh = s.lnk.refresh + 1 ∧ t.lnk.sent = [f, g] ∧ f.ld = false ∧ g.ld = true
        ∧ f.orig = s.lnk.id ∧ f.payload = bytesOfNat 4 (if s.md.mode = .run then s.zoneLines else 0xFFFF).toNat ∧ g.payload = f.payload)
      ∧ (∀ (t1 t2 t3 t4 : Stamp), orig.val ≠ s.lnk.id →
        (s.lnk.reference = true → exec (.ridgeTime ld .none orig t1 t2 t3 t4) s = .next s)
        ∧ (s.lnk.reference = false →
          let half := ((t2.toNat : Int) - t1.toNat) - ((t4.toNat : Int) - t3.toNat)
          ∃ t, exec (.ridgeTime ld .none orig t1 t2 t3 t4) s = .next t ∧ t.lnk.theta = BitVec.ofInt 16 ((half * 5).tdiv 2)))
      ∧ ((s.lnk.reference = true → ∀ b, exec (.ridgeAlignmentTimeout b) s = .next s)
        ∧ (s.lnk.reference = false → s.lnk.aligned = true → ∀ b, ∃ t, exec (.ridgeAlignmentTimeout b) s = .next t
          ∧ t.lnk.aligned = false ∧ t.lnk.lost = true ∧ (t.src 177).rail ≠ .ok)
        ∧ (s.lnk.reference = false → s.lnk.aligned = false → s.lnk.stepped = false →
          ∃ t, exec (.ridgeAlignmentTimeout false) s = .next t ∧ t.lnk = { s.lnk with reference := true }))
      ∧ (∀ (w : Bool) (g : BitVec 32) (o : BitVec 28) (v : Word), orig.val ≠ s.lnk.id →
        ((s.revoked 7 = true ∨ s.exposes orig o.toNat w = false) →
          ∃ t f, exec (.ridgeMreq ld .none orig w g o v) s = .next t ∧ t.lnk.sent = [f] ∧ f.type = 4 ∧ f.dest = orig.val ∧ f.tag = g
            ∧ f.payload.head? = some 0 ∧ t.mem = s.mem)
        ∧ (s.revoked 7 = false → s.exposes orig o.toNat w = true → w = false → s.sound o.toNat →
          ∃ t f, exec (.ridgeMreq ld .none orig w g o v) s = .next t ∧ t.lnk.sent = [f] ∧ f.type = 4 ∧ f.dest = orig.val ∧ f.tag = g
            ∧ f.payload = 1 :: bytesOfWord (BitVec.ofNat 32 (s.num o.toNat 4)) ∧ t.mem.cells = s.mem.cells)
        ∧ (s.revoked 7 = false → s.exposes orig o.toNat w = true → w = true → s.sound o.toNat →
          ∃ t f, exec (.ridgeMreq ld .none orig w g o v) s = .next t ∧ t.lnk.sent = [f] ∧ f.type = 4 ∧ f.dest = orig.val ∧ f.tag = g
            ∧ f.payload.head? = some 1 ∧ t.mem.cells = (s.setBytes o.toNat (bytesOfWord v)).mem.cells))
      ∧ (∀ (g : BitVec 32) (ok : Bool) (v : Word), orig.val ≠ s.lnk.id →
        (∀ x rest, State.takeRemote orig g s.lnk.remote = some (x, rest) → quiet →
          ∃ t, exec (.ridgeMrsp ld .none orig g ok v) s = .next t ∧ t.lnk.remote = rest)
        ∧ (∀ x rest, State.takeRemote orig g s.lnk.remote = some (x, rest) → ∃ t, exec (.ridgeMrsp ld .none orig g ok v) s = .next t)
        ∧ (∀ x rest, State.takeRemote orig g s.lnk.remote = some (x, rest) → quiet → ∃ t, exec (.ridgeMrsp ld .none orig g ok v) s = .next t
          ∧ (x.core = 6 → x.isLoad = true → s.dbg.asked = some g →
              t.dbg.got = some (if ok then stOk else stError, v) ∧ t.dbg.asked = none)
          ∧ (x.core = 6 → x.isLoad = false → t.dbg.fab = if ok then stOk else stError))
        ∧ ((∀ x ∈ s.lnk.remote, ¬ (x.dest = orig.val ∧ x.tag = g)) → exec (.ridgeMrsp ld .none orig g ok v) s = .next s))
      ∧ (∀ entry : List Byte, orig.val ≠ s.lnk.id →
        let q := 92 + (entry.getD 1 0).toNat % 4
        (s.revoked 7 = false → s.qFull q = false → s.qEn q = true → ∃ t, exec (.ridgeQmsg ld .none orig entry) s = .next t
          ∧ (t.queue q).slots = (s.queue q).slots ++ [{ idx := (s.queue q).next, st := .published }])
        ∧ (s.revoked 7 = true → ∃ t, exec (.ridgeQmsg ld .none orig entry) s = .next t ∧ t.queues = s.queues ∧ t.mem = s.mem))
      ∧ (∀ (q : Fin 4) (u : State) (entry : List Byte), s.revoked 7 = false → s.qPop (88 + q) = (u, some entry) →
        s.governs = true → (∃ g ∈ s.gov.grants, g.who = .job 3 ∧ g.ended = false) →
        let d := (entry.getD 0 0).toNat % 8
        (d ≠ s.lnk.id → s.lnk.present.getLsbD d = true → ∃ t f, exec (.ridgeQmsgSend q) s = .next t ∧ t.queue (88 + q) = u.queue (88 + q)
          ∧ t.lnk.sent = [f] ∧ f.type = 5 ∧ f.dest = d ∧ f.payload = entry)
        ∧ ((d = s.lnk.id ∨ s.lnk.present.getLsbD d = false) → exec (.ridgeQmsgSend q) s = .next (u.countUp (lnkB + 0x28))))
      ∧ (∀ q : Fin 4, s.governs = false → ∃ t, exec (.ridgeQmsgSend q) s = .next t ∧ t.queues = s.queues ∧ t.lnk = s.lnk))
    ∧ (∃ t, exec (.ridgeOriginTimeout orig) s = .next t ∧ t.lnk.present.getLsbD orig = false ∧ t.lnk.fresh.getLsbD orig = false
        ∧ (∀ d : Fin 8, d ≠ orig → t.lnk.present.getLsbD d = s.lnk.present.getLsbD d))
    ∧ (∃ t, exec (.ridgeSideDown ld) s = .next t ∧ (t.side ld).up = false ∧ (t.side ld).run = 0 ∧ t.side (!ld) = s.side (!ld))
    ∧ (∀ (g : BitVec 32),
      (∀ x rest, State.takeRemote orig g s.lnk.remote = some (x, rest) → quiet →
        ∃ t, exec (.ridgeRequestTimeout orig g) s = .next t ∧ t.lnk.remote = rest)
      ∧ ((∀ x ∈ s.lnk.remote, ¬ (x.dest = orig.val ∧ x.tag = g)) → exec (.ridgeRequestTimeout orig g) s = .next s))

/-- The model's memory holds its canonical form at reset: addresses strictly rising, no byte listed that an unlisted one reads as
(the value of an unlisted byte is the model's choice, log entry 40). -/
def Obligations.ResetMemoryCanonical : Prop :=
  Memory.wf State.reset.mem.cells = true

/-- Every step keeps the canonical form of the memory: from every state that has it, whatever command is at the front of the queue
(the form and the value of an unlisted byte are the model's choice, log entry 40). -/
def Obligations.MemoryCanonicalKept : Prop :=
  ∀ (s t : State), Memory.wf s.mem.cells = true → step s = .next t → Memory.wf t.mem.cells = true
end

