-- ==== Sys2Proof/Laws/State.lean ====
section
/-! SUPPORT. What each update of the state leaves alone: one lemma per field and update, so that no proof unfolds a record
update; and what it writes reads back as. -/
namespace Sys2Proof.Machine

/-! ### setReg -/
@[simp] theorem State.setReg_pending (s : State) (a : Nat) (v : Word) : (s.setReg a v).pending = s.pending := rfl
@[simp] theorem State.setReg_fresh (s : State) (a : Nat) (v : Word) : (s.setReg a v).fresh = s.fresh := rfl
@[simp] theorem State.setReg_resp (s : State) (a : Nat) (v : Word) : (s.setReg a v).resp = s.resp := rfl
@[simp] theorem State.setReg_md (s : State) (a : Nat) (v : Word) : (s.setReg a v).md = s.md := rfl
@[simp] theorem State.setReg_col (s : State) (a : Nat) (v : Word) : (s.setReg a v).col = s.col := rfl
@[simp] theorem State.setReg_conv (s : State) (a : Nat) (v : Word) : (s.setReg a v).conv = s.conv := rfl
@[simp] theorem State.setReg_flt (s : State) (a : Nat) (v : Word) : (s.setReg a v).flt = s.flt := rfl
@[simp] theorem State.setReg_sp (s : State) (a : Nat) (v : Word) : (s.setReg a v).sp = s.sp := rfl
@[simp] theorem State.setReg_ac0 (s : State) (a : Nat) (v : Word) : (s.setReg a v).ac0 = s.ac0 := rfl
@[simp] theorem State.setReg_ac1 (s : State) (a : Nat) (v : Word) : (s.setReg a v).ac1 = s.ac1 := rfl
@[simp] theorem State.setReg_ac2 (s : State) (a : Nat) (v : Word) : (s.setReg a v).ac2 = s.ac2 := rfl
@[simp] theorem State.setReg_ac3 (s : State) (a : Nat) (v : Word) : (s.setReg a v).ac3 = s.ac3 := rfl
@[simp] theorem State.setReg_ctxs (s : State) (a : Nat) (v : Word) : (s.setReg a v).ctxs = s.ctxs := rfl
@[simp] theorem State.setReg_ready (s : State) (a : Nat) (v : Word) : (s.setReg a v).ready = s.ready := rfl
@[simp] theorem State.setReg_chA (s : State) (a : Nat) (v : Word) : (s.setReg a v).chA = s.chA := rfl
@[simp] theorem State.setReg_lat (s : State) (a : Nat) (v : Word) : (s.setReg a v).lat = s.lat := rfl
@[simp] theorem State.setReg_inputs (s : State) (a : Nat) (v : Word) : (s.setReg a v).inputs = s.inputs := rfl
@[simp] theorem State.setReg_outputs (s : State) (a : Nat) (v : Word) : (s.setReg a v).outputs = s.outputs := rfl
@[simp] theorem State.setReg_ses (s : State) (a : Nat) (v : Word) : (s.setReg a v).ses = s.ses := rfl
@[simp] theorem State.setReg_net (s : State) (a : Nat) (v : Word) : (s.setReg a v).net = s.net := rfl
@[simp] theorem State.setReg_tmr (s : State) (a : Nat) (v : Word) : (s.setReg a v).tmr = s.tmr := rfl
@[simp] theorem State.setReg_loop (s : State) (a : Nat) (v : Word) : (s.setReg a v).loop = s.loop := rfl
@[simp] theorem State.setReg_gio (s : State) (a : Nat) (v : Word) : (s.setReg a v).gio = s.gio := rfl
@[simp] theorem State.setReg_queues (s : State) (a : Nat) (v : Word) : (s.setReg a v).queues = s.queues := rfl
@[simp] theorem State.setReg_mem (s : State) (a : Nat) (v : Word) : (s.setReg a v).mem = s.mem := rfl
@[simp] theorem State.setReg_gov (s : State) (a : Nat) (v : Word) : (s.setReg a v).gov = s.gov := rfl
@[simp] theorem State.setReg_bst (s : State) (a : Nat) (v : Word) : (s.setReg a v).bst = s.bst := rfl
@[simp] theorem State.setReg_otp (s : State) (a : Nat) (v : Word) : (s.setReg a v).otp = s.otp := rfl
@[simp] theorem State.setReg_tru (s : State) (a : Nat) (v : Word) : (s.setReg a v).tru = s.tru := rfl
@[simp] theorem State.setReg_upd (s : State) (a : Nat) (v : Word) : (s.setReg a v).upd = s.upd := rfl
@[simp] theorem State.setReg_host (s : State) (a : Nat) (v : Word) : (s.setReg a v).host = s.host := rfl
@[simp] theorem State.setReg_dbg (s : State) (a : Nat) (v : Word) : (s.setReg a v).dbg = s.dbg := rfl
@[simp] theorem State.setReg_lnk (s : State) (a : Nat) (v : Word) : (s.setReg a v).lnk = s.lnk := rfl

/-! ### setByte -/
@[simp] theorem State.setByte_pending (s : State) (a : Nat) (b : Byte) : (s.setByte a b).pending = s.pending := rfl
@[simp] theorem State.setByte_fresh (s : State) (a : Nat) (b : Byte) : (s.setByte a b).fresh = s.fresh := rfl
@[simp] theorem State.setByte_resp (s : State) (a : Nat) (b : Byte) : (s.setByte a b).resp = s.resp := rfl
@[simp] theorem State.setByte_regs (s : State) (a : Nat) (b : Byte) : (s.setByte a b).regs = s.regs := rfl
@[simp] theorem State.setByte_md (s : State) (a : Nat) (b : Byte) : (s.setByte a b).md = s.md := rfl
@[simp] theorem State.setByte_col (s : State) (a : Nat) (b : Byte) : (s.setByte a b).col = s.col := rfl
@[simp] theorem State.setByte_conv (s : State) (a : Nat) (b : Byte) : (s.setByte a b).conv = s.conv := rfl
@[simp] theorem State.setByte_flt (s : State) (a : Nat) (b : Byte) : (s.setByte a b).flt = s.flt := rfl
@[simp] theorem State.setByte_sp (s : State) (a : Nat) (b : Byte) : (s.setByte a b).sp = s.sp := rfl
@[simp] theorem State.setByte_ac0 (s : State) (a : Nat) (b : Byte) : (s.setByte a b).ac0 = s.ac0 := rfl
@[simp] theorem State.setByte_ac1 (s : State) (a : Nat) (b : Byte) : (s.setByte a b).ac1 = s.ac1 := rfl
@[simp] theorem State.setByte_ac2 (s : State) (a : Nat) (b : Byte) : (s.setByte a b).ac2 = s.ac2 := rfl
@[simp] theorem State.setByte_ac3 (s : State) (a : Nat) (b : Byte) : (s.setByte a b).ac3 = s.ac3 := rfl
@[simp] theorem State.setByte_ctxs (s : State) (a : Nat) (b : Byte) : (s.setByte a b).ctxs = s.ctxs := rfl
@[simp] theorem State.setByte_ready (s : State) (a : Nat) (b : Byte) : (s.setByte a b).ready = s.ready := rfl
@[simp] theorem State.setByte_chA (s : State) (a : Nat) (b : Byte) : (s.setByte a b).chA = s.chA := rfl
@[simp] theorem State.setByte_lat (s : State) (a : Nat) (b : Byte) : (s.setByte a b).lat = s.lat := rfl
@[simp] theorem State.setByte_inputs (s : State) (a : Nat) (b : Byte) : (s.setByte a b).inputs = s.inputs := rfl
@[simp] theorem State.setByte_outputs (s : State) (a : Nat) (b : Byte) : (s.setByte a b).outputs = s.outputs := rfl
@[simp] theorem State.setByte_ses (s : State) (a : Nat) (b : Byte) : (s.setByte a b).ses = s.ses := rfl
@[simp] theorem State.setByte_net (s : State) (a : Nat) (b : Byte) : (s.setByte a b).net = s.net := rfl
@[simp] theorem State.setByte_tmr (s : State) (a : Nat) (b : Byte) : (s.setByte a b).tmr = s.tmr := rfl
@[simp] theorem State.setByte_loop (s : State) (a : Nat) (b : Byte) : (s.setByte a b).loop = s.loop := rfl
@[simp] theorem State.setByte_gio (s : State) (a : Nat) (b : Byte) : (s.setByte a b).gio = s.gio := rfl
@[simp] theorem State.setByte_queues (s : State) (a : Nat) (b : Byte) : (s.setByte a b).queues = s.queues := rfl
@[simp] theorem State.setByte_gov (s : State) (a : Nat) (b : Byte) : (s.setByte a b).gov = s.gov := rfl
@[simp] theorem State.setByte_bst (s : State) (a : Nat) (b : Byte) : (s.setByte a b).bst = s.bst := rfl
@[simp] theorem State.setByte_otp (s : State) (a : Nat) (b : Byte) : (s.setByte a b).otp = s.otp := rfl
@[simp] theorem State.setByte_tru (s : State) (a : Nat) (b : Byte) : (s.setByte a b).tru = s.tru := rfl
@[simp] theorem State.setByte_upd (s : State) (a : Nat) (b : Byte) : (s.setByte a b).upd = s.upd := rfl
@[simp] theorem State.setByte_host (s : State) (a : Nat) (b : Byte) : (s.setByte a b).host = s.host := rfl
@[simp] theorem State.setByte_dbg (s : State) (a : Nat) (b : Byte) : (s.setByte a b).dbg = s.dbg := rfl
@[simp] theorem State.setByte_lnk (s : State) (a : Nat) (b : Byte) : (s.setByte a b).lnk = s.lnk := rfl

/-! ### answer -/
@[simp] theorem State.answer_pending (s : State) (st : Nat) (d : List Word) : (s.answer st d).pending = s.pending := rfl
@[simp] theorem State.answer_fresh (s : State) (st : Nat) (d : List Word) : (s.answer st d).fresh = s.fresh := rfl
@[simp] theorem State.answer_regs (s : State) (st : Nat) (d : List Word) : (s.answer st d).regs = s.regs := rfl
@[simp] theorem State.answer_md (s : State) (st : Nat) (d : List Word) : (s.answer st d).md = s.md := rfl
@[simp] theorem State.answer_col (s : State) (st : Nat) (d : List Word) : (s.answer st d).col = s.col := rfl
@[simp] theorem State.answer_conv (s : State) (st : Nat) (d : List Word) : (s.answer st d).conv = s.conv := rfl
@[simp] theorem State.answer_flt (s : State) (st : Nat) (d : List Word) : (s.answer st d).flt = s.flt := rfl
@[simp] theorem State.answer_sp (s : State) (st : Nat) (d : List Word) : (s.answer st d).sp = s.sp := rfl
@[simp] theorem State.answer_ac0 (s : State) (st : Nat) (d : List Word) : (s.answer st d).ac0 = s.ac0 := rfl
@[simp] theorem State.answer_ac1 (s : State) (st : Nat) (d : List Word) : (s.answer st d).ac1 = s.ac1 := rfl
@[simp] theorem State.answer_ac2 (s : State) (st : Nat) (d : List Word) : (s.answer st d).ac2 = s.ac2 := rfl
@[simp] theorem State.answer_ac3 (s : State) (st : Nat) (d : List Word) : (s.answer st d).ac3 = s.ac3 := rfl
@[simp] theorem State.answer_ctxs (s : State) (st : Nat) (d : List Word) : (s.answer st d).ctxs = s.ctxs := rfl
@[simp] theorem State.answer_ready (s : State) (st : Nat) (d : List Word) : (s.answer st d).ready = s.ready := rfl
@[simp] theorem State.answer_chA (s : State) (st : Nat) (d : List Word) : (s.answer st d).chA = s.chA := rfl
@[simp] theorem State.answer_lat (s : State) (st : Nat) (d : List Word) : (s.answer st d).lat = s.lat := rfl
@[simp] theorem State.answer_inputs (s : State) (st : Nat) (d : List Word) : (s.answer st d).inputs = s.inputs := rfl
@[simp] theorem State.answer_outputs (s : State) (st : Nat) (d : List Word) : (s.answer st d).outputs = s.outputs := rfl
@[simp] theorem State.answer_ses (s : State) (st : Nat) (d : List Word) : (s.answer st d).ses = s.ses := rfl
@[simp] theorem State.answer_net (s : State) (st : Nat) (d : List Word) : (s.answer st d).net = s.net := rfl
@[simp] theorem State.answer_tmr (s : State) (st : Nat) (d : List Word) : (s.answer st d).tmr = s.tmr := rfl
@[simp] theorem State.answer_loop (s : State) (st : Nat) (d : List Word) : (s.answer st d).loop = s.loop := rfl
@[simp] theorem State.answer_gio (s : State) (st : Nat) (d : List Word) : (s.answer st d).gio = s.gio := rfl
@[simp] theorem State.answer_queues (s : State) (st : Nat) (d : List Word) : (s.answer st d).queues = s.queues := rfl
@[simp] theorem State.answer_mem (s : State) (st : Nat) (d : List Word) : (s.answer st d).mem = s.mem := rfl
@[simp] theorem State.answer_gov (s : State) (st : Nat) (d : List Word) : (s.answer st d).gov = s.gov := rfl
@[simp] theorem State.answer_bst (s : State) (st : Nat) (d : List Word) : (s.answer st d).bst = s.bst := rfl
@[simp] theorem State.answer_otp (s : State) (st : Nat) (d : List Word) : (s.answer st d).otp = s.otp := rfl
@[simp] theorem State.answer_tru (s : State) (st : Nat) (d : List Word) : (s.answer st d).tru = s.tru := rfl
@[simp] theorem State.answer_upd (s : State) (st : Nat) (d : List Word) : (s.answer st d).upd = s.upd := rfl
@[simp] theorem State.answer_host (s : State) (st : Nat) (d : List Word) : (s.answer st d).host = s.host := rfl
@[simp] theorem State.answer_dbg (s : State) (st : Nat) (d : List Word) : (s.answer st d).dbg = s.dbg := rfl
@[simp] theorem State.answer_lnk (s : State) (st : Nat) (d : List Word) : (s.answer st d).lnk = s.lnk := rfl

/-! ### drawn -/
@[simp] theorem State.drawn_pending (s : State) : (s.drawn).pending = s.pending := rfl
@[simp] theorem State.drawn_resp (s : State) : (s.drawn).resp = s.resp := rfl
@[simp] theorem State.drawn_regs (s : State) : (s.drawn).regs = s.regs := rfl
@[simp] theorem State.drawn_md (s : State) : (s.drawn).md = s.md := rfl
@[simp] theorem State.drawn_col (s : State) : (s.drawn).col = s.col := rfl
@[simp] theorem State.drawn_conv (s : State) : (s.drawn).conv = s.conv := rfl
@[simp] theorem State.drawn_flt (s : State) : (s.drawn).flt = s.flt := rfl
@[simp] theorem State.drawn_sp (s : State) : (s.drawn).sp = s.sp := rfl
@[simp] theorem State.drawn_ac0 (s : State) : (s.drawn).ac0 = s.ac0 := rfl
@[simp] theorem State.drawn_ac1 (s : State) : (s.drawn).ac1 = s.ac1 := rfl
@[simp] theorem State.drawn_ac2 (s : State) : (s.drawn).ac2 = s.ac2 := rfl
@[simp] theorem State.drawn_ac3 (s : State) : (s.drawn).ac3 = s.ac3 := rfl
@[simp] theorem State.drawn_ctxs (s : State) : (s.drawn).ctxs = s.ctxs := rfl
@[simp] theorem State.drawn_ready (s : State) : (s.drawn).ready = s.ready := rfl
@[simp] theorem State.drawn_chA (s : State) : (s.drawn).chA = s.chA := rfl
@[simp] theorem State.drawn_lat (s : State) : (s.drawn).lat = s.lat := rfl
@[simp] theorem State.drawn_inputs (s : State) : (s.drawn).inputs = s.inputs := rfl
@[simp] theorem State.drawn_outputs (s : State) : (s.drawn).outputs = s.outputs := rfl
@[simp] theorem State.drawn_ses (s : State) : (s.drawn).ses = s.ses := rfl
@[simp] theorem State.drawn_net (s : State) : (s.drawn).net = s.net := rfl
@[simp] theorem State.drawn_tmr (s : State) : (s.drawn).tmr = s.tmr := rfl
@[simp] theorem State.drawn_loop (s : State) : (s.drawn).loop = s.loop := rfl
@[simp] theorem State.drawn_gio (s : State) : (s.drawn).gio = s.gio := rfl
@[simp] theorem State.drawn_queues (s : State) : (s.drawn).queues = s.queues := rfl
@[simp] theorem State.drawn_mem (s : State) : (s.drawn).mem = s.mem := rfl
@[simp] theorem State.drawn_gov (s : State) : (s.drawn).gov = s.gov := rfl
@[simp] theorem State.drawn_bst (s : State) : (s.drawn).bst = s.bst := rfl
@[simp] theorem State.drawn_otp (s : State) : (s.drawn).otp = s.otp := rfl
@[simp] theorem State.drawn_tru (s : State) : (s.drawn).tru = s.tru := rfl
@[simp] theorem State.drawn_upd (s : State) : (s.drawn).upd = s.upd := rfl
@[simp] theorem State.drawn_host (s : State) : (s.drawn).host = s.host := rfl
@[simp] theorem State.drawn_dbg (s : State) : (s.drawn).dbg = s.dbg := rfl
@[simp] theorem State.drawn_lnk (s : State) : (s.drawn).lnk = s.lnk := rfl

/-! ### setCpu -/
@[simp] theorem State.setCpu_pending (s : State) (p : Proc) (c : Cpu) : (s.setCpu p c).pending = s.pending := by unfold State.setCpu; split <;> rfl
@[simp] theorem State.setCpu_fresh (s : State) (p : Proc) (c : Cpu) : (s.setCpu p c).fresh = s.fresh := by unfold State.setCpu; split <;> rfl
@[simp] theorem State.setCpu_resp (s : State) (p : Proc) (c : Cpu) : (s.setCpu p c).resp = s.resp := by unfold State.setCpu; split <;> rfl
@[simp] theorem State.setCpu_regs (s : State) (p : Proc) (c : Cpu) : (s.setCpu p c).regs = s.regs := by unfold State.setCpu; split <;> rfl
@[simp] theorem State.setCpu_md (s : State) (p : Proc) (c : Cpu) : (s.setCpu p c).md = s.md := by unfold State.setCpu; split <;> rfl
@[simp] theorem State.setCpu_col (s : State) (p : Proc) (c : Cpu) : (s.setCpu p c).col = s.col := by unfold State.setCpu; split <;> rfl
@[simp] theorem State.setCpu_conv (s : State) (p : Proc) (c : Cpu) : (s.setCpu p c).conv = s.conv := by unfold State.setCpu; split <;> rfl
@[simp] theorem State.setCpu_flt (s : State) (p : Proc) (c : Cpu) : (s.setCpu p c).flt = s.flt := by unfold State.setCpu; split <;> rfl
@[simp] theorem State.setCpu_ctxs (s : State) (p : Proc) (c : Cpu) : (s.setCpu p c).ctxs = s.ctxs := by unfold State.setCpu; split <;> rfl
@[simp] theorem State.setCpu_ready (s : State) (p : Proc) (c : Cpu) : (s.setCpu p c).ready = s.ready := by unfold State.setCpu; split <;> rfl
@[simp] theorem State.setCpu_chA (s : State) (p : Proc) (c : Cpu) : (s.setCpu p c).chA = s.chA := by unfold State.setCpu; split <;> rfl
@[simp] theorem State.setCpu_lat (s : State) (p : Proc) (c : Cpu) : (s.setCpu p c).lat = s.lat := by unfold State.setCpu; split <;> rfl
@[simp] theorem State.setCpu_inputs (s : State) (p : Proc) (c : Cpu) : (s.setCpu p c).inputs = s.inputs := by unfold State.setCpu; split <;> rfl
@[simp] theorem State.setCpu_outputs (s : State) (p : Proc) (c : Cpu) : (s.setCpu p c).outputs = s.outputs := by unfold State.setCpu; split <;> rfl
@[simp] theorem State.setCpu_ses (s : State) (p : Proc) (c : Cpu) : (s.setCpu p c).ses = s.ses := by unfold State.setCpu; split <;> rfl
@[simp] theorem State.setCpu_net (s : State) (p : Proc) (c : Cpu) : (s.setCpu p c).net = s.net := by unfold State.setCpu; split <;> rfl
@[simp] theorem State.setCpu_tmr (s : State) (p : Proc) (c : Cpu) : (s.setCpu p c).tmr = s.tmr := by unfold State.setCpu; split <;> rfl
@[simp] theorem State.setCpu_loop (s : State) (p : Proc) (c : Cpu) : (s.setCpu p c).loop = s.loop := by unfold State.setCpu; split <;> rfl
@[simp] theorem State.setCpu_gio (s : State) (p : Proc) (c : Cpu) : (s.setCpu p c).gio = s.gio := by unfold State.setCpu; split <;> rfl
@[simp] theorem State.setCpu_queues (s : State) (p : Proc) (c : Cpu) : (s.setCpu p c).queues = s.queues := by unfold State.setCpu; split <;> rfl
@[simp] theorem State.setCpu_mem (s : State) (p : Proc) (c : Cpu) : (s.setCpu p c).mem = s.mem := by unfold State.setCpu; split <;> rfl
@[simp] theorem State.setCpu_gov (s : State) (p : Proc) (c : Cpu) : (s.setCpu p c).gov = s.gov := by unfold State.setCpu; split <;> rfl
@[simp] theorem State.setCpu_bst (s : State) (p : Proc) (c : Cpu) : (s.setCpu p c).bst = s.bst := by unfold State.setCpu; split <;> rfl
@[simp] theorem State.setCpu_otp (s : State) (p : Proc) (c : Cpu) : (s.setCpu p c).otp = s.otp := by unfold State.setCpu; split <;> rfl
@[simp] theorem State.setCpu_tru (s : State) (p : Proc) (c : Cpu) : (s.setCpu p c).tru = s.tru := by unfold State.setCpu; split <;> rfl
@[simp] theorem State.setCpu_upd (s : State) (p : Proc) (c : Cpu) : (s.setCpu p c).upd = s.upd := by unfold State.setCpu; split <;> rfl
@[simp] theorem State.setCpu_host (s : State) (p : Proc) (c : Cpu) : (s.setCpu p c).host = s.host := by unfold State.setCpu; split <;> rfl
@[simp] theorem State.setCpu_dbg (s : State) (p : Proc) (c : Cpu) : (s.setCpu p c).dbg = s.dbg := by unfold State.setCpu; split <;> rfl
@[simp] theorem State.setCpu_lnk (s : State) (p : Proc) (c : Cpu) : (s.setCpu p c).lnk = s.lnk := by unfold State.setCpu; split <;> rfl

/-! ### setGr -/
@[simp] theorem State.setGr_pending (s : State) (p : Proc) (i : BitVec 4) (v : Word) : (s.setGr p i v).pending = s.pending := by simp [State.setGr]
@[simp] theorem State.setGr_fresh (s : State) (p : Proc) (i : BitVec 4) (v : Word) : (s.setGr p i v).fresh = s.fresh := by simp [State.setGr]
@[simp] theorem State.setGr_resp (s : State) (p : Proc) (i : BitVec 4) (v : Word) : (s.setGr p i v).resp = s.resp := by simp [State.setGr]
@[simp] theorem State.setGr_regs (s : State) (p : Proc) (i : BitVec 4) (v : Word) : (s.setGr p i v).regs = s.regs := by simp [State.setGr]
@[simp] theorem State.setGr_md (s : State) (p : Proc) (i : BitVec 4) (v : Word) : (s.setGr p i v).md = s.md := by simp [State.setGr]
@[simp] theorem State.setGr_col (s : State) (p : Proc) (i : BitVec 4) (v : Word) : (s.setGr p i v).col = s.col := by simp [State.setGr]
@[simp] theorem State.setGr_conv (s : State) (p : Proc) (i : BitVec 4) (v : Word) : (s.setGr p i v).conv = s.conv := by simp [State.setGr]
@[simp] theorem State.setGr_flt (s : State) (p : Proc) (i : BitVec 4) (v : Word) : (s.setGr p i v).flt = s.flt := by simp [State.setGr]
@[simp] theorem State.setGr_ctxs (s : State) (p : Proc) (i : BitVec 4) (v : Word) : (s.setGr p i v).ctxs = s.ctxs := by simp [State.setGr]
@[simp] theorem State.setGr_ready (s : State) (p : Proc) (i : BitVec 4) (v : Word) : (s.setGr p i v).ready = s.ready := by simp [State.setGr]
@[simp] theorem State.setGr_chA (s : State) (p : Proc) (i : BitVec 4) (v : Word) : (s.setGr p i v).chA = s.chA := by simp [State.setGr]
@[simp] theorem State.setGr_lat (s : State) (p : Proc) (i : BitVec 4) (v : Word) : (s.setGr p i v).lat = s.lat := by simp [State.setGr]
@[simp] theorem State.setGr_inputs (s : State) (p : Proc) (i : BitVec 4) (v : Word) : (s.setGr p i v).inputs = s.inputs := by simp [State.setGr]
@[simp] theorem State.setGr_outputs (s : State) (p : Proc) (i : BitVec 4) (v : Word) : (s.setGr p i v).outputs = s.outputs := by simp [State.setGr]
@[simp] theorem State.setGr_ses (s : State) (p : Proc) (i : BitVec 4) (v : Word) : (s.setGr p i v).ses = s.ses := by simp [State.setGr]
@[simp] theorem State.setGr_net (s : State) (p : Proc) (i : BitVec 4) (v : Word) : (s.setGr p i v).net = s.net := by simp [State.setGr]
@[simp] theorem State.setGr_tmr (s : State) (p : Proc) (i : BitVec 4) (v : Word) : (s.setGr p i v).tmr = s.tmr := by simp [State.setGr]
@[simp] theorem State.setGr_loop (s : State) (p : Proc) (i : BitVec 4) (v : Word) : (s.setGr p i v).loop = s.loop := by simp [State.setGr]
@[simp] theorem State.setGr_gio (s : State) (p : Proc) (i : BitVec 4) (v : Word) : (s.setGr p i v).gio = s.gio := by simp [State.setGr]
@[simp] theorem State.setGr_queues (s : State) (p : Proc) (i : BitVec 4) (v : Word) : (s.setGr p i v).queues = s.queues := by simp [State.setGr]
@[simp] theorem State.setGr_mem (s : State) (p : Proc) (i : BitVec 4) (v : Word) : (s.setGr p i v).mem = s.mem := by simp [State.setGr]
@[simp] theorem State.setGr_gov (s : State) (p : Proc) (i : BitVec 4) (v : Word) : (s.setGr p i v).gov = s.gov := by simp [State.setGr]
@[simp] theorem State.setGr_bst (s : State) (p : Proc) (i : BitVec 4) (v : Word) : (s.setGr p i v).bst = s.bst := by simp [State.setGr]
@[simp] theorem State.setGr_otp (s : State) (p : Proc) (i : BitVec 4) (v : Word) : (s.setGr p i v).otp = s.otp := by simp [State.setGr]
@[simp] theorem State.setGr_tru (s : State) (p : Proc) (i : BitVec 4) (v : Word) : (s.setGr p i v).tru = s.tru := by simp [State.setGr]
@[simp] theorem State.setGr_upd (s : State) (p : Proc) (i : BitVec 4) (v : Word) : (s.setGr p i v).upd = s.upd := by simp [State.setGr]
@[simp] theorem State.setGr_host (s : State) (p : Proc) (i : BitVec 4) (v : Word) : (s.setGr p i v).host = s.host := by simp [State.setGr]
@[simp] theorem State.setGr_dbg (s : State) (p : Proc) (i : BitVec 4) (v : Word) : (s.setGr p i v).dbg = s.dbg := by simp [State.setGr]
@[simp] theorem State.setGr_lnk (s : State) (p : Proc) (i : BitVec 4) (v : Word) : (s.setGr p i v).lnk = s.lnk := by simp [State.setGr]

/-! ### setSbr -/
@[simp] theorem State.setSbr_pending (s : State) (i : BitVec 5) (v : BitVec 2) : (s.setSbr i v).pending = s.pending := rfl
@[simp] theorem State.setSbr_fresh (s : State) (i : BitVec 5) (v : BitVec 2) : (s.setSbr i v).fresh = s.fresh := rfl
@[simp] theorem State.setSbr_resp (s : State) (i : BitVec 5) (v : BitVec 2) : (s.setSbr i v).resp = s.resp := rfl
@[simp] theorem State.setSbr_regs (s : State) (i : BitVec 5) (v : BitVec 2) : (s.setSbr i v).regs = s.regs := rfl
@[simp] theorem State.setSbr_md (s : State) (i : BitVec 5) (v : BitVec 2) : (s.setSbr i v).md = s.md := rfl
@[simp] theorem State.setSbr_col (s : State) (i : BitVec 5) (v : BitVec 2) : (s.setSbr i v).col = s.col := rfl
@[simp] theorem State.setSbr_conv (s : State) (i : BitVec 5) (v : BitVec 2) : (s.setSbr i v).conv = s.conv := rfl
@[simp] theorem State.setSbr_flt (s : State) (i : BitVec 5) (v : BitVec 2) : (s.setSbr i v).flt = s.flt := rfl
@[simp] theorem State.setSbr_ac0 (s : State) (i : BitVec 5) (v : BitVec 2) : (s.setSbr i v).ac0 = s.ac0 := rfl
@[simp] theorem State.setSbr_ac1 (s : State) (i : BitVec 5) (v : BitVec 2) : (s.setSbr i v).ac1 = s.ac1 := rfl
@[simp] theorem State.setSbr_ac2 (s : State) (i : BitVec 5) (v : BitVec 2) : (s.setSbr i v).ac2 = s.ac2 := rfl
@[simp] theorem State.setSbr_ac3 (s : State) (i : BitVec 5) (v : BitVec 2) : (s.setSbr i v).ac3 = s.ac3 := rfl
@[simp] theorem State.setSbr_ctxs (s : State) (i : BitVec 5) (v : BitVec 2) : (s.setSbr i v).ctxs = s.ctxs := rfl
@[simp] theorem State.setSbr_ready (s : State) (i : BitVec 5) (v : BitVec 2) : (s.setSbr i v).ready = s.ready := rfl
@[simp] theorem State.setSbr_chA (s : State) (i : BitVec 5) (v : BitVec 2) : (s.setSbr i v).chA = s.chA := rfl
@[simp] theorem State.setSbr_lat (s : State) (i : BitVec 5) (v : BitVec 2) : (s.setSbr i v).lat = s.lat := rfl
@[simp] theorem State.setSbr_inputs (s : State) (i : BitVec 5) (v : BitVec 2) : (s.setSbr i v).inputs = s.inputs := rfl
@[simp] theorem State.setSbr_outputs (s : State) (i : BitVec 5) (v : BitVec 2) : (s.setSbr i v).outputs = s.outputs := rfl
@[simp] theorem State.setSbr_ses (s : State) (i : BitVec 5) (v : BitVec 2) : (s.setSbr i v).ses = s.ses := rfl
@[simp] theorem State.setSbr_net (s : State) (i : BitVec 5) (v : BitVec 2) : (s.setSbr i v).net = s.net := rfl
@[simp] theorem State.setSbr_tmr (s : State) (i : BitVec 5) (v : BitVec 2) : (s.setSbr i v).tmr = s.tmr := rfl
@[simp] theorem State.setSbr_loop (s : State) (i : BitVec 5) (v : BitVec 2) : (s.setSbr i v).loop = s.loop := rfl
@[simp] theorem State.setSbr_gio (s : State) (i : BitVec 5) (v : BitVec 2) : (s.setSbr i v).gio = s.gio := rfl
@[simp] theorem State.setSbr_queues (s : State) (i : BitVec 5) (v : BitVec 2) : (s.setSbr i v).queues = s.queues := rfl
@[simp] theorem State.setSbr_mem (s : State) (i : BitVec 5) (v : BitVec 2) : (s.setSbr i v).mem = s.mem := rfl
@[simp] theorem State.setSbr_gov (s : State) (i : BitVec 5) (v : BitVec 2) : (s.setSbr i v).gov = s.gov := rfl
@[simp] theorem State.setSbr_bst (s : State) (i : BitVec 5) (v : BitVec 2) : (s.setSbr i v).bst = s.bst := rfl
@[simp] theorem State.setSbr_otp (s : State) (i : BitVec 5) (v : BitVec 2) : (s.setSbr i v).otp = s.otp := rfl
@[simp] theorem State.setSbr_tru (s : State) (i : BitVec 5) (v : BitVec 2) : (s.setSbr i v).tru = s.tru := rfl
@[simp] theorem State.setSbr_upd (s : State) (i : BitVec 5) (v : BitVec 2) : (s.setSbr i v).upd = s.upd := rfl
@[simp] theorem State.setSbr_host (s : State) (i : BitVec 5) (v : BitVec 2) : (s.setSbr i v).host = s.host := rfl
@[simp] theorem State.setSbr_dbg (s : State) (i : BitVec 5) (v : BitVec 2) : (s.setSbr i v).dbg = s.dbg := rfl
@[simp] theorem State.setSbr_lnk (s : State) (i : BitVec 5) (v : BitVec 2) : (s.setSbr i v).lnk = s.lnk := rfl

/-! ### setSt -/
@[simp] theorem State.setSt_pending (s : State) (p : Proc) (st : StBits) : (s.setSt p st).pending = s.pending := by simp [State.setSt]
@[simp] theorem State.setSt_fresh (s : State) (p : Proc) (st : StBits) : (s.setSt p st).fresh = s.fresh := by simp [State.setSt]
@[simp] theorem State.setSt_resp (s : State) (p : Proc) (st : StBits) : (s.setSt p st).resp = s.resp := by simp [State.setSt]
@[simp] theorem State.setSt_regs (s : State) (p : Proc) (st : StBits) : (s.setSt p st).regs = s.regs := by simp [State.setSt]
@[simp] theorem State.setSt_md (s : State) (p : Proc) (st : StBits) : (s.setSt p st).md = s.md := by simp [State.setSt]
@[simp] theorem State.setSt_col (s : State) (p : Proc) (st : StBits) : (s.setSt p st).col = s.col := by simp [State.setSt]
@[simp] theorem State.setSt_conv (s : State) (p : Proc) (st : StBits) : (s.setSt p st).conv = s.conv := by simp [State.setSt]
@[simp] theorem State.setSt_flt (s : State) (p : Proc) (st : StBits) : (s.setSt p st).flt = s.flt := by simp [State.setSt]
@[simp] theorem State.setSt_ctxs (s : State) (p : Proc) (st : StBits) : (s.setSt p st).ctxs = s.ctxs := by simp [State.setSt]
@[simp] theorem State.setSt_ready (s : State) (p : Proc) (st : StBits) : (s.setSt p st).ready = s.ready := by simp [State.setSt]
@[simp] theorem State.setSt_chA (s : State) (p : Proc) (st : StBits) : (s.setSt p st).chA = s.chA := by simp [State.setSt]
@[simp] theorem State.setSt_lat (s : State) (p : Proc) (st : StBits) : (s.setSt p st).lat = s.lat := by simp [State.setSt]
@[simp] theorem State.setSt_inputs (s : State) (p : Proc) (st : StBits) : (s.setSt p st).inputs = s.inputs := by simp [State.setSt]
@[simp] theorem State.setSt_outputs (s : State) (p : Proc) (st : StBits) : (s.setSt p st).outputs = s.outputs := by simp [State.setSt]
@[simp] theorem State.setSt_ses (s : State) (p : Proc) (st : StBits) : (s.setSt p st).ses = s.ses := by simp [State.setSt]
@[simp] theorem State.setSt_net (s : State) (p : Proc) (st : StBits) : (s.setSt p st).net = s.net := by simp [State.setSt]
@[simp] theorem State.setSt_tmr (s : State) (p : Proc) (st : StBits) : (s.setSt p st).tmr = s.tmr := by simp [State.setSt]
@[simp] theorem State.setSt_loop (s : State) (p : Proc) (st : StBits) : (s.setSt p st).loop = s.loop := by simp [State.setSt]
@[simp] theorem State.setSt_gio (s : State) (p : Proc) (st : StBits) : (s.setSt p st).gio = s.gio := by simp [State.setSt]
@[simp] theorem State.setSt_queues (s : State) (p : Proc) (st : StBits) : (s.setSt p st).queues = s.queues := by simp [State.setSt]
@[simp] theorem State.setSt_mem (s : State) (p : Proc) (st : StBits) : (s.setSt p st).mem = s.mem := by simp [State.setSt]
@[simp] theorem State.setSt_gov (s : State) (p : Proc) (st : StBits) : (s.setSt p st).gov = s.gov := by simp [State.setSt]
@[simp] theorem State.setSt_bst (s : State) (p : Proc) (st : StBits) : (s.setSt p st).bst = s.bst := by simp [State.setSt]
@[simp] theorem State.setSt_otp (s : State) (p : Proc) (st : StBits) : (s.setSt p st).otp = s.otp := by simp [State.setSt]
@[simp] theorem State.setSt_tru (s : State) (p : Proc) (st : StBits) : (s.setSt p st).tru = s.tru := by simp [State.setSt]
@[simp] theorem State.setSt_upd (s : State) (p : Proc) (st : StBits) : (s.setSt p st).upd = s.upd := by simp [State.setSt]
@[simp] theorem State.setSt_host (s : State) (p : Proc) (st : StBits) : (s.setSt p st).host = s.host := by simp [State.setSt]
@[simp] theorem State.setSt_dbg (s : State) (p : Proc) (st : StBits) : (s.setSt p st).dbg = s.dbg := by simp [State.setSt]
@[simp] theorem State.setSt_lnk (s : State) (p : Proc) (st : StBits) : (s.setSt p st).lnk = s.lnk := by simp [State.setSt]

/-! ### handshake -/
@[simp] theorem State.handshake_pending (s : State) (u : Nat) (d : Hand) : (s.handshake u d).pending = s.pending := rfl
@[simp] theorem State.handshake_fresh (s : State) (u : Nat) (d : Hand) : (s.handshake u d).fresh = s.fresh := rfl
@[simp] theorem State.handshake_resp (s : State) (u : Nat) (d : Hand) : (s.handshake u d).resp = s.resp := rfl
@[simp] theorem State.handshake_regs (s : State) (u : Nat) (d : Hand) : (s.handshake u d).regs = s.regs := rfl
@[simp] theorem State.handshake_md (s : State) (u : Nat) (d : Hand) : (s.handshake u d).md = s.md := rfl
@[simp] theorem State.handshake_col (s : State) (u : Nat) (d : Hand) : (s.handshake u d).col = s.col := rfl
@[simp] theorem State.handshake_conv (s : State) (u : Nat) (d : Hand) : (s.handshake u d).conv = s.conv := rfl
@[simp] theorem State.handshake_flt (s : State) (u : Nat) (d : Hand) : (s.handshake u d).flt = s.flt := rfl
@[simp] theorem State.handshake_sp (s : State) (u : Nat) (d : Hand) : (s.handshake u d).sp = s.sp := rfl
@[simp] theorem State.handshake_ac0 (s : State) (u : Nat) (d : Hand) : (s.handshake u d).ac0 = s.ac0 := rfl
@[simp] theorem State.handshake_ac1 (s : State) (u : Nat) (d : Hand) : (s.handshake u d).ac1 = s.ac1 := rfl
@[simp] theorem State.handshake_ac2 (s : State) (u : Nat) (d : Hand) : (s.handshake u d).ac2 = s.ac2 := rfl
@[simp] theorem State.handshake_ac3 (s : State) (u : Nat) (d : Hand) : (s.handshake u d).ac3 = s.ac3 := rfl
@[simp] theorem State.handshake_chA (s : State) (u : Nat) (d : Hand) : (s.handshake u d).chA = s.chA := rfl
@[simp] theorem State.handshake_ctxs (s : State) (u : Nat) (d : Hand) : (s.handshake u d).ctxs = s.ctxs := rfl
@[simp] theorem State.handshake_ready (s : State) (u : Nat) (d : Hand) : (s.handshake u d).ready = s.ready := rfl
@[simp] theorem State.handshake_lat (s : State) (u : Nat) (d : Hand) : (s.handshake u d).lat = s.lat := rfl
@[simp] theorem State.handshake_inputs (s : State) (u : Nat) (d : Hand) : (s.handshake u d).inputs = s.inputs := rfl
@[simp] theorem State.handshake_outputs (s : State) (u : Nat) (d : Hand) : (s.handshake u d).outputs = s.outputs := rfl
@[simp] theorem State.handshake_ses (s : State) (u : Nat) (d : Hand) : (s.handshake u d).ses = s.ses := rfl
@[simp] theorem State.handshake_net (s : State) (u : Nat) (d : Hand) : (s.handshake u d).net = s.net := rfl
@[simp] theorem State.handshake_tmr (s : State) (u : Nat) (d : Hand) : (s.handshake u d).tmr = s.tmr := rfl
@[simp] theorem State.handshake_loop (s : State) (u : Nat) (d : Hand) : (s.handshake u d).loop = s.loop := rfl
@[simp] theorem State.handshake_gio (s : State) (u : Nat) (d : Hand) : (s.handshake u d).gio = s.gio := rfl
@[simp] theorem State.handshake_queues (s : State) (u : Nat) (d : Hand) : (s.handshake u d).queues = s.queues := rfl
@[simp] theorem State.handshake_mem (s : State) (u : Nat) (d : Hand) : (s.handshake u d).mem = s.mem := rfl
@[simp] theorem State.handshake_bst (s : State) (u : Nat) (d : Hand) : (s.handshake u d).bst = s.bst := rfl
@[simp] theorem State.handshake_otp (s : State) (u : Nat) (d : Hand) : (s.handshake u d).otp = s.otp := rfl
@[simp] theorem State.handshake_tru (s : State) (u : Nat) (d : Hand) : (s.handshake u d).tru = s.tru := rfl
@[simp] theorem State.handshake_upd (s : State) (u : Nat) (d : Hand) : (s.handshake u d).upd = s.upd := rfl
@[simp] theorem State.handshake_host (s : State) (u : Nat) (d : Hand) : (s.handshake u d).host = s.host := rfl
@[simp] theorem State.handshake_dbg (s : State) (u : Nat) (d : Hand) : (s.handshake u d).dbg = s.dbg := rfl
@[simp] theorem State.handshake_lnk (s : State) (u : Nat) (d : Hand) : (s.handshake u d).lnk = s.lnk := rfl
/-! ### ran -/
@[simp] theorem State.ran_pending (s : State) (p : Proc) (k : Nat) : (s.ran p k).pending = s.pending := by cases p <;> rfl
@[simp] theorem State.ran_fresh (s : State) (p : Proc) (k : Nat) : (s.ran p k).fresh = s.fresh := by cases p <;> rfl
@[simp] theorem State.ran_resp (s : State) (p : Proc) (k : Nat) : (s.ran p k).resp = s.resp := by cases p <;> rfl
@[simp] theorem State.ran_regs (s : State) (p : Proc) (k : Nat) : (s.ran p k).regs = s.regs := by cases p <;> rfl
@[simp] theorem State.ran_md (s : State) (p : Proc) (k : Nat) : (s.ran p k).md = s.md := by cases p <;> rfl
@[simp] theorem State.ran_col (s : State) (p : Proc) (k : Nat) : (s.ran p k).col = s.col := by cases p <;> rfl
@[simp] theorem State.ran_conv (s : State) (p : Proc) (k : Nat) : (s.ran p k).conv = s.conv := by cases p <;> rfl
@[simp] theorem State.ran_flt (s : State) (p : Proc) (k : Nat) : (s.ran p k).flt = s.flt := by cases p <;> rfl
@[simp] theorem State.ran_sp (s : State) (p : Proc) (k : Nat) : (s.ran p k).sp = s.sp := by cases p <;> rfl
@[simp] theorem State.ran_ac0 (s : State) (p : Proc) (k : Nat) : (s.ran p k).ac0 = s.ac0 := by cases p <;> rfl
@[simp] theorem State.ran_ac1 (s : State) (p : Proc) (k : Nat) : (s.ran p k).ac1 = s.ac1 := by cases p <;> rfl
@[simp] theorem State.ran_ac2 (s : State) (p : Proc) (k : Nat) : (s.ran p k).ac2 = s.ac2 := by cases p <;> rfl
@[simp] theorem State.ran_ac3 (s : State) (p : Proc) (k : Nat) : (s.ran p k).ac3 = s.ac3 := by cases p <;> rfl
@[simp] theorem State.ran_ctxs (s : State) (p : Proc) (k : Nat) : (s.ran p k).ctxs = s.ctxs := by cases p <;> rfl
@[simp] theorem State.ran_ready (s : State) (p : Proc) (k : Nat) : (s.ran p k).ready = s.ready := by cases p <;> rfl
@[simp] theorem State.ran_lat (s : State) (p : Proc) (k : Nat) : (s.ran p k).lat = s.lat := by cases p <;> rfl
@[simp] theorem State.ran_inputs (s : State) (p : Proc) (k : Nat) : (s.ran p k).inputs = s.inputs := by cases p <;> rfl
@[simp] theorem State.ran_outputs (s : State) (p : Proc) (k : Nat) : (s.ran p k).outputs = s.outputs := by cases p <;> rfl
@[simp] theorem State.ran_ses (s : State) (p : Proc) (k : Nat) : (s.ran p k).ses = s.ses := by cases p <;> rfl
@[simp] theorem State.ran_net (s : State) (p : Proc) (k : Nat) : (s.ran p k).net = s.net := by cases p <;> rfl
@[simp] theorem State.ran_tmr (s : State) (p : Proc) (k : Nat) : (s.ran p k).tmr = s.tmr := by cases p <;> rfl
@[simp] theorem State.ran_loop (s : State) (p : Proc) (k : Nat) : (s.ran p k).loop = s.loop := by cases p <;> rfl
@[simp] theorem State.ran_gio (s : State) (p : Proc) (k : Nat) : (s.ran p k).gio = s.gio := by cases p <;> rfl
@[simp] theorem State.ran_queues (s : State) (p : Proc) (k : Nat) : (s.ran p k).queues = s.queues := by cases p <;> rfl
@[simp] theorem State.ran_mem (s : State) (p : Proc) (k : Nat) : (s.ran p k).mem = s.mem := by cases p <;> rfl
@[simp] theorem State.ran_bst (s : State) (p : Proc) (k : Nat) : (s.ran p k).bst = s.bst := by cases p <;> rfl
@[simp] theorem State.ran_otp (s : State) (p : Proc) (k : Nat) : (s.ran p k).otp = s.otp := by cases p <;> rfl
@[simp] theorem State.ran_tru (s : State) (p : Proc) (k : Nat) : (s.ran p k).tru = s.tru := by cases p <;> rfl
@[simp] theorem State.ran_upd (s : State) (p : Proc) (k : Nat) : (s.ran p k).upd = s.upd := by cases p <;> rfl
@[simp] theorem State.ran_host (s : State) (p : Proc) (k : Nat) : (s.ran p k).host = s.host := by cases p <;> rfl
@[simp] theorem State.ran_dbg (s : State) (p : Proc) (k : Nat) : (s.ran p k).dbg = s.dbg := by cases p <;> rfl
@[simp] theorem State.ran_lnk (s : State) (p : Proc) (k : Nat) : (s.ran p k).lnk = s.lnk := by cases p <;> rfl
/-! ### addSlots -/
@[simp] theorem State.addSlots_pending (s : State) (p : Proc) (k : Nat) : (s.addSlots p k).pending = s.pending := by cases p <;> rfl
@[simp] theorem State.addSlots_fresh (s : State) (p : Proc) (k : Nat) : (s.addSlots p k).fresh = s.fresh := by cases p <;> rfl
@[simp] theorem State.addSlots_resp (s : State) (p : Proc) (k : Nat) : (s.addSlots p k).resp = s.resp := by cases p <;> rfl
@[simp] theorem State.addSlots_regs (s : State) (p : Proc) (k : Nat) : (s.addSlots p k).regs = s.regs := by cases p <;> rfl
@[simp] theorem State.addSlots_md (s : State) (p : Proc) (k : Nat) : (s.addSlots p k).md = s.md := by cases p <;> rfl
@[simp] theorem State.addSlots_col (s : State) (p : Proc) (k : Nat) : (s.addSlots p k).col = s.col := by cases p <;> rfl
@[simp] theorem State.addSlots_conv (s : State) (p : Proc) (k : Nat) : (s.addSlots p k).conv = s.conv := by cases p <;> rfl
@[simp] theorem State.addSlots_flt (s : State) (p : Proc) (k : Nat) : (s.addSlots p k).flt = s.flt := by cases p <;> rfl
@[simp] theorem State.addSlots_sp (s : State) (p : Proc) (k : Nat) : (s.addSlots p k).sp = s.sp := by cases p <;> rfl
@[simp] theorem State.addSlots_ac0 (s : State) (p : Proc) (k : Nat) : (s.addSlots p k).ac0 = s.ac0 := by cases p <;> rfl
@[simp] theorem State.addSlots_ac1 (s : State) (p : Proc) (k : Nat) : (s.addSlots p k).ac1 = s.ac1 := by cases p <;> rfl
@[simp] theorem State.addSlots_ac2 (s : State) (p : Proc) (k : Nat) : (s.addSlots p k).ac2 = s.ac2 := by cases p <;> rfl
@[simp] theorem State.addSlots_ac3 (s : State) (p : Proc) (k : Nat) : (s.addSlots p k).ac3 = s.ac3 := by cases p <;> rfl
@[simp] theorem State.addSlots_ctxs (s : State) (p : Proc) (k : Nat) : (s.addSlots p k).ctxs = s.ctxs := by cases p <;> rfl
@[simp] theorem State.addSlots_ready (s : State) (p : Proc) (k : Nat) : (s.addSlots p k).ready = s.ready := by cases p <;> rfl
@[simp] theorem State.addSlots_lat (s : State) (p : Proc) (k : Nat) : (s.addSlots p k).lat = s.lat := by cases p <;> rfl
@[simp] theorem State.addSlots_inputs (s : State) (p : Proc) (k : Nat) : (s.addSlots p k).inputs = s.inputs := by cases p <;> rfl
@[simp] theorem State.addSlots_outputs (s : State) (p : Proc) (k : Nat) : (s.addSlots p k).outputs = s.outputs := by cases p <;> rfl
@[simp] theorem State.addSlots_ses (s : State) (p : Proc) (k : Nat) : (s.addSlots p k).ses = s.ses := by cases p <;> rfl
@[simp] theorem State.addSlots_net (s : State) (p : Proc) (k : Nat) : (s.addSlots p k).net = s.net := by cases p <;> rfl
@[simp] theorem State.addSlots_tmr (s : State) (p : Proc) (k : Nat) : (s.addSlots p k).tmr = s.tmr := by cases p <;> rfl
@[simp] theorem State.addSlots_loop (s : State) (p : Proc) (k : Nat) : (s.addSlots p k).loop = s.loop := by cases p <;> rfl
@[simp] theorem State.addSlots_gio (s : State) (p : Proc) (k : Nat) : (s.addSlots p k).gio = s.gio := by cases p <;> rfl
@[simp] theorem State.addSlots_queues (s : State) (p : Proc) (k : Nat) : (s.addSlots p k).queues = s.queues := by cases p <;> rfl
@[simp] theorem State.addSlots_mem (s : State) (p : Proc) (k : Nat) : (s.addSlots p k).mem = s.mem := by cases p <;> rfl
@[simp] theorem State.addSlots_gov (s : State) (p : Proc) (k : Nat) : (s.addSlots p k).gov = s.gov := by cases p <;> rfl
@[simp] theorem State.addSlots_bst (s : State) (p : Proc) (k : Nat) : (s.addSlots p k).bst = s.bst := by cases p <;> rfl
@[simp] theorem State.addSlots_otp (s : State) (p : Proc) (k : Nat) : (s.addSlots p k).otp = s.otp := by cases p <;> rfl
@[simp] theorem State.addSlots_tru (s : State) (p : Proc) (k : Nat) : (s.addSlots p k).tru = s.tru := by cases p <;> rfl
@[simp] theorem State.addSlots_upd (s : State) (p : Proc) (k : Nat) : (s.addSlots p k).upd = s.upd := by cases p <;> rfl
@[simp] theorem State.addSlots_host (s : State) (p : Proc) (k : Nat) : (s.addSlots p k).host = s.host := by cases p <;> rfl
@[simp] theorem State.addSlots_dbg (s : State) (p : Proc) (k : Nat) : (s.addSlots p k).dbg = s.dbg := by cases p <;> rfl
@[simp] theorem State.addSlots_lnk (s : State) (p : Proc) (k : Nat) : (s.addSlots p k).lnk = s.lnk := by cases p <;> rfl

/-! ### setQueue -/
@[simp] theorem State.setQueue_pending (s : State) (q : Nat) (v : Queue) : (s.setQueue q v).pending = s.pending := rfl
@[simp] theorem State.setQueue_fresh (s : State) (q : Nat) (v : Queue) : (s.setQueue q v).fresh = s.fresh := rfl
@[simp] theorem State.setQueue_resp (s : State) (q : Nat) (v : Queue) : (s.setQueue q v).resp = s.resp := rfl
@[simp] theorem State.setQueue_regs (s : State) (q : Nat) (v : Queue) : (s.setQueue q v).regs = s.regs := rfl
@[simp] theorem State.setQueue_md (s : State) (q : Nat) (v : Queue) : (s.setQueue q v).md = s.md := rfl
@[simp] theorem State.setQueue_col (s : State) (q : Nat) (v : Queue) : (s.setQueue q v).col = s.col := rfl
@[simp] theorem State.setQueue_conv (s : State) (q : Nat) (v : Queue) : (s.setQueue q v).conv = s.conv := rfl
@[simp] theorem State.setQueue_flt (s : State) (q : Nat) (v : Queue) : (s.setQueue q v).flt = s.flt := rfl
@[simp] theorem State.setQueue_sp (s : State) (q : Nat) (v : Queue) : (s.setQueue q v).sp = s.sp := rfl
@[simp] theorem State.setQueue_ac0 (s : State) (q : Nat) (v : Queue) : (s.setQueue q v).ac0 = s.ac0 := rfl
@[simp] theorem State.setQueue_ac1 (s : State) (q : Nat) (v : Queue) : (s.setQueue q v).ac1 = s.ac1 := rfl
@[simp] theorem State.setQueue_ac2 (s : State) (q : Nat) (v : Queue) : (s.setQueue q v).ac2 = s.ac2 := rfl
@[simp] theorem State.setQueue_ac3 (s : State) (q : Nat) (v : Queue) : (s.setQueue q v).ac3 = s.ac3 := rfl
@[simp] theorem State.setQueue_ctxs (s : State) (q : Nat) (v : Queue) : (s.setQueue q v).ctxs = s.ctxs := rfl
@[simp] theorem State.setQueue_ready (s : State) (q : Nat) (v : Queue) : (s.setQueue q v).ready = s.ready := rfl
@[simp] theorem State.setQueue_chA (s : State) (q : Nat) (v : Queue) : (s.setQueue q v).chA = s.chA := rfl
@[simp] theorem State.setQueue_lat (s : State) (q : Nat) (v : Queue) : (s.setQueue q v).lat = s.lat := rfl
@[simp] theorem State.setQueue_inputs (s : State) (q : Nat) (v : Queue) : (s.setQueue q v).inputs = s.inputs := rfl
@[simp] theorem State.setQueue_outputs (s : State) (q : Nat) (v : Queue) : (s.setQueue q v).outputs = s.outputs := rfl
@[simp] theorem State.setQueue_ses (s : State) (q : Nat) (v : Queue) : (s.setQueue q v).ses = s.ses := rfl
@[simp] theorem State.setQueue_net (s : State) (q : Nat) (v : Queue) : (s.setQueue q v).net = s.net := rfl
@[simp] theorem State.setQueue_tmr (s : State) (q : Nat) (v : Queue) : (s.setQueue q v).tmr = s.tmr := rfl
@[simp] theorem State.setQueue_loop (s : State) (q : Nat) (v : Queue) : (s.setQueue q v).loop = s.loop := rfl
@[simp] theorem State.setQueue_gio (s : State) (q : Nat) (v : Queue) : (s.setQueue q v).gio = s.gio := rfl
@[simp] theorem State.setQueue_mem (s : State) (q : Nat) (v : Queue) : (s.setQueue q v).mem = s.mem := rfl
@[simp] theorem State.setQueue_gov (s : State) (q : Nat) (v : Queue) : (s.setQueue q v).gov = s.gov := rfl
@[simp] theorem State.setQueue_bst (s : State) (q : Nat) (v : Queue) : (s.setQueue q v).bst = s.bst := rfl
@[simp] theorem State.setQueue_otp (s : State) (q : Nat) (v : Queue) : (s.setQueue q v).otp = s.otp := rfl
@[simp] theorem State.setQueue_tru (s : State) (q : Nat) (v : Queue) : (s.setQueue q v).tru = s.tru := rfl
@[simp] theorem State.setQueue_upd (s : State) (q : Nat) (v : Queue) : (s.setQueue q v).upd = s.upd := rfl
@[simp] theorem State.setQueue_host (s : State) (q : Nat) (v : Queue) : (s.setQueue q v).host = s.host := rfl
@[simp] theorem State.setQueue_dbg (s : State) (q : Nat) (v : Queue) : (s.setQueue q v).dbg = s.dbg := rfl
@[simp] theorem State.setQueue_lnk (s : State) (q : Nat) (v : Queue) : (s.setQueue q v).lnk = s.lnk := rfl

/-! ### setCtx -/
@[simp] theorem State.setCtx_pending (s : State) (x : Nat) (c : Ctx) : (s.setCtx x c).pending = s.pending := rfl
@[simp] theorem State.setCtx_fresh (s : State) (x : Nat) (c : Ctx) : (s.setCtx x c).fresh = s.fresh := rfl
@[simp] theorem State.setCtx_resp (s : State) (x : Nat) (c : Ctx) : (s.setCtx x c).resp = s.resp := rfl
@[simp] theorem State.setCtx_regs (s : State) (x : Nat) (c : Ctx) : (s.setCtx x c).regs = s.regs := rfl
@[simp] theorem State.setCtx_md (s : State) (x : Nat) (c : Ctx) : (s.setCtx x c).md = s.md := rfl
@[simp] theorem State.setCtx_col (s : State) (x : Nat) (c : Ctx) : (s.setCtx x c).col = s.col := rfl
@[simp] theorem State.setCtx_conv (s : State) (x : Nat) (c : Ctx) : (s.setCtx x c).conv = s.conv := rfl
@[simp] theorem State.setCtx_flt (s : State) (x : Nat) (c : Ctx) : (s.setCtx x c).flt = s.flt := rfl
@[simp] theorem State.setCtx_sp (s : State) (x : Nat) (c : Ctx) : (s.setCtx x c).sp = s.sp := rfl
@[simp] theorem State.setCtx_ac0 (s : State) (x : Nat) (c : Ctx) : (s.setCtx x c).ac0 = s.ac0 := rfl
@[simp] theorem State.setCtx_ac1 (s : State) (x : Nat) (c : Ctx) : (s.setCtx x c).ac1 = s.ac1 := rfl
@[simp] theorem State.setCtx_ac2 (s : State) (x : Nat) (c : Ctx) : (s.setCtx x c).ac2 = s.ac2 := rfl
@[simp] theorem State.setCtx_ac3 (s : State) (x : Nat) (c : Ctx) : (s.setCtx x c).ac3 = s.ac3 := rfl
@[simp] theorem State.setCtx_ready (s : State) (x : Nat) (c : Ctx) : (s.setCtx x c).ready = s.ready := rfl
@[simp] theorem State.setCtx_chA (s : State) (x : Nat) (c : Ctx) : (s.setCtx x c).chA = s.chA := rfl
@[simp] theorem State.setCtx_lat (s : State) (x : Nat) (c : Ctx) : (s.setCtx x c).lat = s.lat := rfl
@[simp] theorem State.setCtx_inputs (s : State) (x : Nat) (c : Ctx) : (s.setCtx x c).inputs = s.inputs := rfl
@[simp] theorem State.setCtx_outputs (s : State) (x : Nat) (c : Ctx) : (s.setCtx x c).outputs = s.outputs := rfl
@[simp] theorem State.setCtx_ses (s : State) (x : Nat) (c : Ctx) : (s.setCtx x c).ses = s.ses := rfl
@[simp] theorem State.setCtx_net (s : State) (x : Nat) (c : Ctx) : (s.setCtx x c).net = s.net := rfl
@[simp] theorem State.setCtx_tmr (s : State) (x : Nat) (c : Ctx) : (s.setCtx x c).tmr = s.tmr := rfl
@[simp] theorem State.setCtx_loop (s : State) (x : Nat) (c : Ctx) : (s.setCtx x c).loop = s.loop := rfl
@[simp] theorem State.setCtx_gio (s : State) (x : Nat) (c : Ctx) : (s.setCtx x c).gio = s.gio := rfl
@[simp] theorem State.setCtx_queues (s : State) (x : Nat) (c : Ctx) : (s.setCtx x c).queues = s.queues := rfl
@[simp] theorem State.setCtx_mem (s : State) (x : Nat) (c : Ctx) : (s.setCtx x c).mem = s.mem := rfl
@[simp] theorem State.setCtx_gov (s : State) (x : Nat) (c : Ctx) : (s.setCtx x c).gov = s.gov := rfl
@[simp] theorem State.setCtx_bst (s : State) (x : Nat) (c : Ctx) : (s.setCtx x c).bst = s.bst := rfl
@[simp] theorem State.setCtx_otp (s : State) (x : Nat) (c : Ctx) : (s.setCtx x c).otp = s.otp := rfl
@[simp] theorem State.setCtx_tru (s : State) (x : Nat) (c : Ctx) : (s.setCtx x c).tru = s.tru := rfl
@[simp] theorem State.setCtx_upd (s : State) (x : Nat) (c : Ctx) : (s.setCtx x c).upd = s.upd := rfl
@[simp] theorem State.setCtx_host (s : State) (x : Nat) (c : Ctx) : (s.setCtx x c).host = s.host := rfl
@[simp] theorem State.setCtx_dbg (s : State) (x : Nat) (c : Ctx) : (s.setCtx x c).dbg = s.dbg := rfl
@[simp] theorem State.setCtx_lnk (s : State) (x : Nat) (c : Ctx) : (s.setCtx x c).lnk = s.lnk := rfl

/-! ### setReady -/
@[simp] theorem State.setReady_pending (s : State) (k c : Nat) (xs : List Nat) : (s.setReady k c xs).pending = s.pending := rfl
@[simp] theorem State.setReady_fresh (s : State) (k c : Nat) (xs : List Nat) : (s.setReady k c xs).fresh = s.fresh := rfl
@[simp] theorem State.setReady_resp (s : State) (k c : Nat) (xs : List Nat) : (s.setReady k c xs).resp = s.resp := rfl
@[simp] theorem State.setReady_regs (s : State) (k c : Nat) (xs : List Nat) : (s.setReady k c xs).regs = s.regs := rfl
@[simp] theorem State.setReady_md (s : State) (k c : Nat) (xs : List Nat) : (s.setReady k c xs).md = s.md := rfl
@[simp] theorem State.setReady_col (s : State) (k c : Nat) (xs : List Nat) : (s.setReady k c xs).col = s.col := rfl
@[simp] theorem State.setReady_conv (s : State) (k c : Nat) (xs : List Nat) : (s.setReady k c xs).conv = s.conv := rfl
@[simp] theorem State.setReady_flt (s : State) (k c : Nat) (xs : List Nat) : (s.setReady k c xs).flt = s.flt := rfl
@[simp] theorem State.setReady_sp (s : State) (k c : Nat) (xs : List Nat) : (s.setReady k c xs).sp = s.sp := rfl
@[simp] theorem State.setReady_ac0 (s : State) (k c : Nat) (xs : List Nat) : (s.setReady k c xs).ac0 = s.ac0 := rfl
@[simp] theorem State.setReady_ac1 (s : State) (k c : Nat) (xs : List Nat) : (s.setReady k c xs).ac1 = s.ac1 := rfl
@[simp] theorem State.setReady_ac2 (s : State) (k c : Nat) (xs : List Nat) : (s.setReady k c xs).ac2 = s.ac2 := rfl
@[simp] theorem State.setReady_ac3 (s : State) (k c : Nat) (xs : List Nat) : (s.setReady k c xs).ac3 = s.ac3 := rfl
@[simp] theorem State.setReady_ctxs (s : State) (k c : Nat) (xs : List Nat) : (s.setReady k c xs).ctxs = s.ctxs := rfl
@[simp] theorem State.setReady_chA (s : State) (k c : Nat) (xs : List Nat) : (s.setReady k c xs).chA = s.chA := rfl
@[simp] theorem State.setReady_lat (s : State) (k c : Nat) (xs : List Nat) : (s.setReady k c xs).lat = s.lat := rfl
@[simp] theorem State.setReady_inputs (s : State) (k c : Nat) (xs : List Nat) : (s.setReady k c xs).inputs = s.inputs := rfl
@[simp] theorem State.setReady_outputs (s : State) (k c : Nat) (xs : List Nat) : (s.setReady k c xs).outputs = s.outputs := rfl
@[simp] theorem State.setReady_ses (s : State) (k c : Nat) (xs : List Nat) : (s.setReady k c xs).ses = s.ses := rfl
@[simp] theorem State.setReady_net (s : State) (k c : Nat) (xs : List Nat) : (s.setReady k c xs).net = s.net := rfl
@[simp] theorem State.setReady_tmr (s : State) (k c : Nat) (xs : List Nat) : (s.setReady k c xs).tmr = s.tmr := rfl
@[simp] theorem State.setReady_loop (s : State) (k c : Nat) (xs : List Nat) : (s.setReady k c xs).loop = s.loop := rfl
@[simp] theorem State.setReady_gio (s : State) (k c : Nat) (xs : List Nat) : (s.setReady k c xs).gio = s.gio := rfl
@[simp] theorem State.setReady_queues (s : State) (k c : Nat) (xs : List Nat) : (s.setReady k c xs).queues = s.queues := rfl
@[simp] theorem State.setReady_mem (s : State) (k c : Nat) (xs : List Nat) : (s.setReady k c xs).mem = s.mem := rfl
@[simp] theorem State.setReady_gov (s : State) (k c : Nat) (xs : List Nat) : (s.setReady k c xs).gov = s.gov := rfl
@[simp] theorem State.setReady_bst (s : State) (k c : Nat) (xs : List Nat) : (s.setReady k c xs).bst = s.bst := rfl
@[simp] theorem State.setReady_otp (s : State) (k c : Nat) (xs : List Nat) : (s.setReady k c xs).otp = s.otp := rfl
@[simp] theorem State.setReady_tru (s : State) (k c : Nat) (xs : List Nat) : (s.setReady k c xs).tru = s.tru := rfl
@[simp] theorem State.setReady_upd (s : State) (k c : Nat) (xs : List Nat) : (s.setReady k c xs).upd = s.upd := rfl
@[simp] theorem State.setReady_host (s : State) (k c : Nat) (xs : List Nat) : (s.setReady k c xs).host = s.host := rfl
@[simp] theorem State.setReady_dbg (s : State) (k c : Nat) (xs : List Nat) : (s.setReady k c xs).dbg = s.dbg := rfl
@[simp] theorem State.setReady_lnk (s : State) (k c : Nat) (xs : List Nat) : (s.setReady k c xs).lnk = s.lnk := rfl

/-! ### setTc -/
@[simp] theorem State.setTc_pending (s : State) (n : Nat) (c : TcSt) : (s.setTc n c).pending = s.pending := rfl
@[simp] theorem State.setTc_fresh (s : State) (n : Nat) (c : TcSt) : (s.setTc n c).fresh = s.fresh := rfl
@[simp] theorem State.setTc_resp (s : State) (n : Nat) (c : TcSt) : (s.setTc n c).resp = s.resp := rfl
@[simp] theorem State.setTc_regs (s : State) (n : Nat) (c : TcSt) : (s.setTc n c).regs = s.regs := rfl
@[simp] theorem State.setTc_md (s : State) (n : Nat) (c : TcSt) : (s.setTc n c).md = s.md := rfl
@[simp] theorem State.setTc_col (s : State) (n : Nat) (c : TcSt) : (s.setTc n c).col = s.col := rfl
@[simp] theorem State.setTc_conv (s : State) (n : Nat) (c : TcSt) : (s.setTc n c).conv = s.conv := rfl
@[simp] theorem State.setTc_flt (s : State) (n : Nat) (c : TcSt) : (s.setTc n c).flt = s.flt := rfl
@[simp] theorem State.setTc_sp (s : State) (n : Nat) (c : TcSt) : (s.setTc n c).sp = s.sp := rfl
@[simp] theorem State.setTc_ac0 (s : State) (n : Nat) (c : TcSt) : (s.setTc n c).ac0 = s.ac0 := rfl
@[simp] theorem State.setTc_ac1 (s : State) (n : Nat) (c : TcSt) : (s.setTc n c).ac1 = s.ac1 := rfl
@[simp] theorem State.setTc_ac2 (s : State) (n : Nat) (c : TcSt) : (s.setTc n c).ac2 = s.ac2 := rfl
@[simp] theorem State.setTc_ac3 (s : State) (n : Nat) (c : TcSt) : (s.setTc n c).ac3 = s.ac3 := rfl
@[simp] theorem State.setTc_ctxs (s : State) (n : Nat) (c : TcSt) : (s.setTc n c).ctxs = s.ctxs := rfl
@[simp] theorem State.setTc_ready (s : State) (n : Nat) (c : TcSt) : (s.setTc n c).ready = s.ready := rfl
@[simp] theorem State.setTc_chA (s : State) (n : Nat) (c : TcSt) : (s.setTc n c).chA = s.chA := rfl
@[simp] theorem State.setTc_lat (s : State) (n : Nat) (c : TcSt) : (s.setTc n c).lat = s.lat := rfl
@[simp] theorem State.setTc_inputs (s : State) (n : Nat) (c : TcSt) : (s.setTc n c).inputs = s.inputs := rfl
@[simp] theorem State.setTc_outputs (s : State) (n : Nat) (c : TcSt) : (s.setTc n c).outputs = s.outputs := rfl
@[simp] theorem State.setTc_ses (s : State) (n : Nat) (c : TcSt) : (s.setTc n c).ses = s.ses := rfl
@[simp] theorem State.setTc_net (s : State) (n : Nat) (c : TcSt) : (s.setTc n c).net = s.net := rfl
@[simp] theorem State.setTc_loop (s : State) (n : Nat) (c : TcSt) : (s.setTc n c).loop = s.loop := rfl
@[simp] theorem State.setTc_gio (s : State) (n : Nat) (c : TcSt) : (s.setTc n c).gio = s.gio := rfl
@[simp] theorem State.setTc_queues (s : State) (n : Nat) (c : TcSt) : (s.setTc n c).queues = s.queues := rfl
@[simp] theorem State.setTc_mem (s : State) (n : Nat) (c : TcSt) : (s.setTc n c).mem = s.mem := rfl
@[simp] theorem State.setTc_gov (s : State) (n : Nat) (c : TcSt) : (s.setTc n c).gov = s.gov := rfl
@[simp] theorem State.setTc_bst (s : State) (n : Nat) (c : TcSt) : (s.setTc n c).bst = s.bst := rfl
@[simp] theorem State.setTc_otp (s : State) (n : Nat) (c : TcSt) : (s.setTc n c).otp = s.otp := rfl
@[simp] theorem State.setTc_tru (s : State) (n : Nat) (c : TcSt) : (s.setTc n c).tru = s.tru := rfl
@[simp] theorem State.setTc_upd (s : State) (n : Nat) (c : TcSt) : (s.setTc n c).upd = s.upd := rfl
@[simp] theorem State.setTc_host (s : State) (n : Nat) (c : TcSt) : (s.setTc n c).host = s.host := rfl
@[simp] theorem State.setTc_dbg (s : State) (n : Nat) (c : TcSt) : (s.setTc n c).dbg = s.dbg := rfl
@[simp] theorem State.setTc_lnk (s : State) (n : Nat) (c : TcSt) : (s.setTc n c).lnk = s.lnk := rfl

/-! ### setWc -/
@[simp] theorem State.setWc_pending (s : State) (w : Nat) (c : WcSt) : (s.setWc w c).pending = s.pending := rfl
@[simp] theorem State.setWc_fresh (s : State) (w : Nat) (c : WcSt) : (s.setWc w c).fresh = s.fresh := rfl
@[simp] theorem State.setWc_resp (s : State) (w : Nat) (c : WcSt) : (s.setWc w c).resp = s.resp := rfl
@[simp] theorem State.setWc_regs (s : State) (w : Nat) (c : WcSt) : (s.setWc w c).regs = s.regs := rfl
@[simp] theorem State.setWc_md (s : State) (w : Nat) (c : WcSt) : (s.setWc w c).md = s.md := rfl
@[simp] theorem State.setWc_col (s : State) (w : Nat) (c : WcSt) : (s.setWc w c).col = s.col := rfl
@[simp] theorem State.setWc_conv (s : State) (w : Nat) (c : WcSt) : (s.setWc w c).conv = s.conv := rfl
@[simp] theorem State.setWc_flt (s : State) (w : Nat) (c : WcSt) : (s.setWc w c).flt = s.flt := rfl
@[simp] theorem State.setWc_sp (s : State) (w : Nat) (c : WcSt) : (s.setWc w c).sp = s.sp := rfl
@[simp] theorem State.setWc_ac0 (s : State) (w : Nat) (c : WcSt) : (s.setWc w c).ac0 = s.ac0 := rfl
@[simp] theorem State.setWc_ac1 (s : State) (w : Nat) (c : WcSt) : (s.setWc w c).ac1 = s.ac1 := rfl
@[simp] theorem State.setWc_ac2 (s : State) (w : Nat) (c : WcSt) : (s.setWc w c).ac2 = s.ac2 := rfl
@[simp] theorem State.setWc_ac3 (s : State) (w : Nat) (c : WcSt) : (s.setWc w c).ac3 = s.ac3 := rfl
@[simp] theorem State.setWc_ctxs (s : State) (w : Nat) (c : WcSt) : (s.setWc w c).ctxs = s.ctxs := rfl
@[simp] theorem State.setWc_ready (s : State) (w : Nat) (c : WcSt) : (s.setWc w c).ready = s.ready := rfl
@[simp] theorem State.setWc_chA (s : State) (w : Nat) (c : WcSt) : (s.setWc w c).chA = s.chA := rfl
@[simp] theorem State.setWc_lat (s : State) (w : Nat) (c : WcSt) : (s.setWc w c).lat = s.lat := rfl
@[simp] theorem State.setWc_inputs (s : State) (w : Nat) (c : WcSt) : (s.setWc w c).inputs = s.inputs := rfl
@[simp] theorem State.setWc_outputs (s : State) (w : Nat) (c : WcSt) : (s.setWc w c).outputs = s.outputs := rfl
@[simp] theorem State.setWc_ses (s : State) (w : Nat) (c : WcSt) : (s.setWc w c).ses = s.ses := rfl
@[simp] theorem State.setWc_net (s : State) (w : Nat) (c : WcSt) : (s.setWc w c).net = s.net := rfl
@[simp] theorem State.setWc_loop (s : State) (w : Nat) (c : WcSt) : (s.setWc w c).loop = s.loop := rfl
@[simp] theorem State.setWc_gio (s : State) (w : Nat) (c : WcSt) : (s.setWc w c).gio = s.gio := rfl
@[simp] theorem State.setWc_queues (s : State) (w : Nat) (c : WcSt) : (s.setWc w c).queues = s.queues := rfl
@[simp] theorem State.setWc_mem (s : State) (w : Nat) (c : WcSt) : (s.setWc w c).mem = s.mem := rfl
@[simp] theorem State.setWc_gov (s : State) (w : Nat) (c : WcSt) : (s.setWc w c).gov = s.gov := rfl
@[simp] theorem State.setWc_bst (s : State) (w : Nat) (c : WcSt) : (s.setWc w c).bst = s.bst := rfl
@[simp] theorem State.setWc_otp (s : State) (w : Nat) (c : WcSt) : (s.setWc w c).otp = s.otp := rfl
@[simp] theorem State.setWc_tru (s : State) (w : Nat) (c : WcSt) : (s.setWc w c).tru = s.tru := rfl
@[simp] theorem State.setWc_upd (s : State) (w : Nat) (c : WcSt) : (s.setWc w c).upd = s.upd := rfl
@[simp] theorem State.setWc_host (s : State) (w : Nat) (c : WcSt) : (s.setWc w c).host = s.host := rfl
@[simp] theorem State.setWc_dbg (s : State) (w : Nat) (c : WcSt) : (s.setWc w c).dbg = s.dbg := rfl
@[simp] theorem State.setWc_lnk (s : State) (w : Nat) (c : WcSt) : (s.setWc w c).lnk = s.lnk := rfl

/-! ### setLp -/
@[simp] theorem State.setLp_pending (s : State) (n : Nat) (v : LpSt) : (s.setLp n v).pending = s.pending := rfl
@[simp] theorem State.setLp_fresh (s : State) (n : Nat) (v : LpSt) : (s.setLp n v).fresh = s.fresh := rfl
@[simp] theorem State.setLp_resp (s : State) (n : Nat) (v : LpSt) : (s.setLp n v).resp = s.resp := rfl
@[simp] theorem State.setLp_regs (s : State) (n : Nat) (v : LpSt) : (s.setLp n v).regs = s.regs := rfl
@[simp] theorem State.setLp_md (s : State) (n : Nat) (v : LpSt) : (s.setLp n v).md = s.md := rfl
@[simp] theorem State.setLp_col (s : State) (n : Nat) (v : LpSt) : (s.setLp n v).col = s.col := rfl
@[simp] theorem State.setLp_conv (s : State) (n : Nat) (v : LpSt) : (s.setLp n v).conv = s.conv := rfl
@[simp] theorem State.setLp_flt (s : State) (n : Nat) (v : LpSt) : (s.setLp n v).flt = s.flt := rfl
@[simp] theorem State.setLp_sp (s : State) (n : Nat) (v : LpSt) : (s.setLp n v).sp = s.sp := rfl
@[simp] theorem State.setLp_ac0 (s : State) (n : Nat) (v : LpSt) : (s.setLp n v).ac0 = s.ac0 := rfl
@[simp] theorem State.setLp_ac1 (s : State) (n : Nat) (v : LpSt) : (s.setLp n v).ac1 = s.ac1 := rfl
@[simp] theorem State.setLp_ac2 (s : State) (n : Nat) (v : LpSt) : (s.setLp n v).ac2 = s.ac2 := rfl
@[simp] theorem State.setLp_ac3 (s : State) (n : Nat) (v : LpSt) : (s.setLp n v).ac3 = s.ac3 := rfl
@[simp] theorem State.setLp_ctxs (s : State) (n : Nat) (v : LpSt) : (s.setLp n v).ctxs = s.ctxs := rfl
@[simp] theorem State.setLp_ready (s : State) (n : Nat) (v : LpSt) : (s.setLp n v).ready = s.ready := rfl
@[simp] theorem State.setLp_chA (s : State) (n : Nat) (v : LpSt) : (s.setLp n v).chA = s.chA := rfl
@[simp] theorem State.setLp_lat (s : State) (n : Nat) (v : LpSt) : (s.setLp n v).lat = s.lat := rfl
@[simp] theorem State.setLp_inputs (s : State) (n : Nat) (v : LpSt) : (s.setLp n v).inputs = s.inputs := rfl
@[simp] theorem State.setLp_outputs (s : State) (n : Nat) (v : LpSt) : (s.setLp n v).outputs = s.outputs := rfl
@[simp] theorem State.setLp_ses (s : State) (n : Nat) (v : LpSt) : (s.setLp n v).ses = s.ses := rfl
@[simp] theorem State.setLp_net (s : State) (n : Nat) (v : LpSt) : (s.setLp n v).net = s.net := rfl
@[simp] theorem State.setLp_tmr (s : State) (n : Nat) (v : LpSt) : (s.setLp n v).tmr = s.tmr := rfl
@[simp] theorem State.setLp_gio (s : State) (n : Nat) (v : LpSt) : (s.setLp n v).gio = s.gio := rfl
@[simp] theorem State.setLp_queues (s : State) (n : Nat) (v : LpSt) : (s.setLp n v).queues = s.queues := rfl
@[simp] theorem State.setLp_mem (s : State) (n : Nat) (v : LpSt) : (s.setLp n v).mem = s.mem := rfl
@[simp] theorem State.setLp_gov (s : State) (n : Nat) (v : LpSt) : (s.setLp n v).gov = s.gov := rfl
@[simp] theorem State.setLp_bst (s : State) (n : Nat) (v : LpSt) : (s.setLp n v).bst = s.bst := rfl
@[simp] theorem State.setLp_otp (s : State) (n : Nat) (v : LpSt) : (s.setLp n v).otp = s.otp := rfl
@[simp] theorem State.setLp_tru (s : State) (n : Nat) (v : LpSt) : (s.setLp n v).tru = s.tru := rfl
@[simp] theorem State.setLp_upd (s : State) (n : Nat) (v : LpSt) : (s.setLp n v).upd = s.upd := rfl
@[simp] theorem State.setLp_host (s : State) (n : Nat) (v : LpSt) : (s.setLp n v).host = s.host := rfl
@[simp] theorem State.setLp_dbg (s : State) (n : Nat) (v : LpSt) : (s.setLp n v).dbg = s.dbg := rfl
@[simp] theorem State.setLp_lnk (s : State) (n : Nat) (v : LpSt) : (s.setLp n v).lnk = s.lnk := rfl

/-! ### setSrc -/
@[simp] theorem State.setSrc_pending (s : State) (n : Nat) (v : Src) : (s.setSrc n v).pending = s.pending := rfl
@[simp] theorem State.setSrc_fresh (s : State) (n : Nat) (v : Src) : (s.setSrc n v).fresh = s.fresh := rfl
@[simp] theorem State.setSrc_resp (s : State) (n : Nat) (v : Src) : (s.setSrc n v).resp = s.resp := rfl
@[simp] theorem State.setSrc_regs (s : State) (n : Nat) (v : Src) : (s.setSrc n v).regs = s.regs := rfl
@[simp] theorem State.setSrc_md (s : State) (n : Nat) (v : Src) : (s.setSrc n v).md = s.md := rfl
@[simp] theorem State.setSrc_col (s : State) (n : Nat) (v : Src) : (s.setSrc n v).col = s.col := rfl
@[simp] theorem State.setSrc_conv (s : State) (n : Nat) (v : Src) : (s.setSrc n v).conv = s.conv := rfl
@[simp] theorem State.setSrc_sp (s : State) (n : Nat) (v : Src) : (s.setSrc n v).sp = s.sp := rfl
@[simp] theorem State.setSrc_ac0 (s : State) (n : Nat) (v : Src) : (s.setSrc n v).ac0 = s.ac0 := rfl
@[simp] theorem State.setSrc_ac1 (s : State) (n : Nat) (v : Src) : (s.setSrc n v).ac1 = s.ac1 := rfl
@[simp] theorem State.setSrc_ac2 (s : State) (n : Nat) (v : Src) : (s.setSrc n v).ac2 = s.ac2 := rfl
@[simp] theorem State.setSrc_ac3 (s : State) (n : Nat) (v : Src) : (s.setSrc n v).ac3 = s.ac3 := rfl
@[simp] theorem State.setSrc_ctxs (s : State) (n : Nat) (v : Src) : (s.setSrc n v).ctxs = s.ctxs := rfl
@[simp] theorem State.setSrc_ready (s : State) (n : Nat) (v : Src) : (s.setSrc n v).ready = s.ready := rfl
@[simp] theorem State.setSrc_chA (s : State) (n : Nat) (v : Src) : (s.setSrc n v).chA = s.chA := rfl
@[simp] theorem State.setSrc_lat (s : State) (n : Nat) (v : Src) : (s.setSrc n v).lat = s.lat := rfl
@[simp] theorem State.setSrc_inputs (s : State) (n : Nat) (v : Src) : (s.setSrc n v).inputs = s.inputs := rfl
@[simp] theorem State.setSrc_outputs (s : State) (n : Nat) (v : Src) : (s.setSrc n v).outputs = s.outputs := rfl
@[simp] theorem State.setSrc_ses (s : State) (n : Nat) (v : Src) : (s.setSrc n v).ses = s.ses := rfl
@[simp] theorem State.setSrc_net (s : State) (n : Nat) (v : Src) : (s.setSrc n v).net = s.net := rfl
@[simp] theorem State.setSrc_tmr (s : State) (n : Nat) (v : Src) : (s.setSrc n v).tmr = s.tmr := rfl
@[simp] theorem State.setSrc_loop (s : State) (n : Nat) (v : Src) : (s.setSrc n v).loop = s.loop := rfl
@[simp] theorem State.setSrc_gio (s : State) (n : Nat) (v : Src) : (s.setSrc n v).gio = s.gio := rfl
@[simp] theorem State.setSrc_queues (s : State) (n : Nat) (v : Src) : (s.setSrc n v).queues = s.queues := rfl
@[simp] theorem State.setSrc_mem (s : State) (n : Nat) (v : Src) : (s.setSrc n v).mem = s.mem := rfl
@[simp] theorem State.setSrc_gov (s : State) (n : Nat) (v : Src) : (s.setSrc n v).gov = s.gov := rfl
@[simp] theorem State.setSrc_bst (s : State) (n : Nat) (v : Src) : (s.setSrc n v).bst = s.bst := rfl
@[simp] theorem State.setSrc_otp (s : State) (n : Nat) (v : Src) : (s.setSrc n v).otp = s.otp := rfl
@[simp] theorem State.setSrc_tru (s : State) (n : Nat) (v : Src) : (s.setSrc n v).tru = s.tru := rfl
@[simp] theorem State.setSrc_upd (s : State) (n : Nat) (v : Src) : (s.setSrc n v).upd = s.upd := rfl
@[simp] theorem State.setSrc_host (s : State) (n : Nat) (v : Src) : (s.setSrc n v).host = s.host := rfl
@[simp] theorem State.setSrc_dbg (s : State) (n : Nat) (v : Src) : (s.setSrc n v).dbg = s.dbg := rfl
@[simp] theorem State.setSrc_lnk (s : State) (n : Nat) (v : Src) : (s.setSrc n v).lnk = s.lnk := rfl

/-! ### setInp -/
@[simp] theorem State.setInp_pending (s : State) (n : Nat) (v : InSt) : (s.setInp n v).pending = s.pending := rfl
@[simp] theorem State.setInp_fresh (s : State) (n : Nat) (v : InSt) : (s.setInp n v).fresh = s.fresh := rfl
@[simp] theorem State.setInp_resp (s : State) (n : Nat) (v : InSt) : (s.setInp n v).resp = s.resp := rfl
@[simp] theorem State.setInp_regs (s : State) (n : Nat) (v : InSt) : (s.setInp n v).regs = s.regs := rfl
@[simp] theorem State.setInp_md (s : State) (n : Nat) (v : InSt) : (s.setInp n v).md = s.md := rfl
@[simp] theorem State.setInp_col (s : State) (n : Nat) (v : InSt) : (s.setInp n v).col = s.col := rfl
@[simp] theorem State.setInp_conv (s : State) (n : Nat) (v : InSt) : (s.setInp n v).conv = s.conv := rfl
@[simp] theorem State.setInp_flt (s : State) (n : Nat) (v : InSt) : (s.setInp n v).flt = s.flt := rfl
@[simp] theorem State.setInp_sp (s : State) (n : Nat) (v : InSt) : (s.setInp n v).sp = s.sp := rfl
@[simp] theorem State.setInp_ac0 (s : State) (n : Nat) (v : InSt) : (s.setInp n v).ac0 = s.ac0 := rfl
@[simp] theorem State.setInp_ac1 (s : State) (n : Nat) (v : InSt) : (s.setInp n v).ac1 = s.ac1 := rfl
@[simp] theorem State.setInp_ac2 (s : State) (n : Nat) (v : InSt) : (s.setInp n v).ac2 = s.ac2 := rfl
@[simp] theorem State.setInp_ac3 (s : State) (n : Nat) (v : InSt) : (s.setInp n v).ac3 = s.ac3 := rfl
@[simp] theorem State.setInp_ctxs (s : State) (n : Nat) (v : InSt) : (s.setInp n v).ctxs = s.ctxs := rfl
@[simp] theorem State.setInp_ready (s : State) (n : Nat) (v : InSt) : (s.setInp n v).ready = s.ready := rfl
@[simp] theorem State.setInp_chA (s : State) (n : Nat) (v : InSt) : (s.setInp n v).chA = s.chA := rfl
@[simp] theorem State.setInp_lat (s : State) (n : Nat) (v : InSt) : (s.setInp n v).lat = s.lat := rfl
@[simp] theorem State.setInp_outputs (s : State) (n : Nat) (v : InSt) : (s.setInp n v).outputs = s.outputs := rfl
@[simp] theorem State.setInp_ses (s : State) (n : Nat) (v : InSt) : (s.setInp n v).ses = s.ses := rfl
@[simp] theorem State.setInp_net (s : State) (n : Nat) (v : InSt) : (s.setInp n v).net = s.net := rfl
@[simp] theorem State.setInp_tmr (s : State) (n : Nat) (v : InSt) : (s.setInp n v).tmr = s.tmr := rfl
@[simp] theorem State.setInp_loop (s : State) (n : Nat) (v : InSt) : (s.setInp n v).loop = s.loop := rfl
@[simp] theorem State.setInp_gio (s : State) (n : Nat) (v : InSt) : (s.setInp n v).gio = s.gio := rfl
@[simp] theorem State.setInp_queues (s : State) (n : Nat) (v : InSt) : (s.setInp n v).queues = s.queues := rfl
@[simp] theorem State.setInp_mem (s : State) (n : Nat) (v : InSt) : (s.setInp n v).mem = s.mem := rfl
@[simp] theorem State.setInp_gov (s : State) (n : Nat) (v : InSt) : (s.setInp n v).gov = s.gov := rfl
@[simp] theorem State.setInp_bst (s : State) (n : Nat) (v : InSt) : (s.setInp n v).bst = s.bst := rfl
@[simp] theorem State.setInp_otp (s : State) (n : Nat) (v : InSt) : (s.setInp n v).otp = s.otp := rfl
@[simp] theorem State.setInp_tru (s : State) (n : Nat) (v : InSt) : (s.setInp n v).tru = s.tru := rfl
@[simp] theorem State.setInp_upd (s : State) (n : Nat) (v : InSt) : (s.setInp n v).upd = s.upd := rfl
@[simp] theorem State.setInp_host (s : State) (n : Nat) (v : InSt) : (s.setInp n v).host = s.host := rfl
@[simp] theorem State.setInp_dbg (s : State) (n : Nat) (v : InSt) : (s.setInp n v).dbg = s.dbg := rfl
@[simp] theorem State.setInp_lnk (s : State) (n : Nat) (v : InSt) : (s.setInp n v).lnk = s.lnk := rfl

/-! ### setTp -/
@[simp] theorem State.setTp_pending (s : State) (k : Nat) (v : TpSt) : (s.setTp k v).pending = s.pending := rfl
@[simp] theorem State.setTp_fresh (s : State) (k : Nat) (v : TpSt) : (s.setTp k v).fresh = s.fresh := rfl
@[simp] theorem State.setTp_resp (s : State) (k : Nat) (v : TpSt) : (s.setTp k v).resp = s.resp := rfl
@[simp] theorem State.setTp_regs (s : State) (k : Nat) (v : TpSt) : (s.setTp k v).regs = s.regs := rfl
@[simp] theorem State.setTp_md (s : State) (k : Nat) (v : TpSt) : (s.setTp k v).md = s.md := rfl
@[simp] theorem State.setTp_col (s : State) (k : Nat) (v : TpSt) : (s.setTp k v).col = s.col := rfl
@[simp] theorem State.setTp_conv (s : State) (k : Nat) (v : TpSt) : (s.setTp k v).conv = s.conv := rfl
@[simp] theorem State.setTp_flt (s : State) (k : Nat) (v : TpSt) : (s.setTp k v).flt = s.flt := rfl
@[simp] theorem State.setTp_sp (s : State) (k : Nat) (v : TpSt) : (s.setTp k v).sp = s.sp := rfl
@[simp] theorem State.setTp_ac0 (s : State) (k : Nat) (v : TpSt) : (s.setTp k v).ac0 = s.ac0 := rfl
@[simp] theorem State.setTp_ac1 (s : State) (k : Nat) (v : TpSt) : (s.setTp k v).ac1 = s.ac1 := rfl
@[simp] theorem State.setTp_ac2 (s : State) (k : Nat) (v : TpSt) : (s.setTp k v).ac2 = s.ac2 := rfl
@[simp] theorem State.setTp_ac3 (s : State) (k : Nat) (v : TpSt) : (s.setTp k v).ac3 = s.ac3 := rfl
@[simp] theorem State.setTp_ctxs (s : State) (k : Nat) (v : TpSt) : (s.setTp k v).ctxs = s.ctxs := rfl
@[simp] theorem State.setTp_ready (s : State) (k : Nat) (v : TpSt) : (s.setTp k v).ready = s.ready := rfl
@[simp] theorem State.setTp_chA (s : State) (k : Nat) (v : TpSt) : (s.setTp k v).chA = s.chA := rfl
@[simp] theorem State.setTp_lat (s : State) (k : Nat) (v : TpSt) : (s.setTp k v).lat = s.lat := rfl
@[simp] theorem State.setTp_outputs (s : State) (k : Nat) (v : TpSt) : (s.setTp k v).outputs = s.outputs := rfl
@[simp] theorem State.setTp_ses (s : State) (k : Nat) (v : TpSt) : (s.setTp k v).ses = s.ses := rfl
@[simp] theorem State.setTp_net (s : State) (k : Nat) (v : TpSt) : (s.setTp k v).net = s.net := rfl
@[simp] theorem State.setTp_tmr (s : State) (k : Nat) (v : TpSt) : (s.setTp k v).tmr = s.tmr := rfl
@[simp] theorem State.setTp_loop (s : State) (k : Nat) (v : TpSt) : (s.setTp k v).loop = s.loop := rfl
@[simp] theorem State.setTp_gio (s : State) (k : Nat) (v : TpSt) : (s.setTp k v).gio = s.gio := rfl
@[simp] theorem State.setTp_queues (s : State) (k : Nat) (v : TpSt) : (s.setTp k v).queues = s.queues := rfl
@[simp] theorem State.setTp_mem (s : State) (k : Nat) (v : TpSt) : (s.setTp k v).mem = s.mem := rfl
@[simp] theorem State.setTp_gov (s : State) (k : Nat) (v : TpSt) : (s.setTp k v).gov = s.gov := rfl
@[simp] theorem State.setTp_bst (s : State) (k : Nat) (v : TpSt) : (s.setTp k v).bst = s.bst := rfl
@[simp] theorem State.setTp_otp (s : State) (k : Nat) (v : TpSt) : (s.setTp k v).otp = s.otp := rfl
@[simp] theorem State.setTp_tru (s : State) (k : Nat) (v : TpSt) : (s.setTp k v).tru = s.tru := rfl
@[simp] theorem State.setTp_upd (s : State) (k : Nat) (v : TpSt) : (s.setTp k v).upd = s.upd := rfl
@[simp] theorem State.setTp_host (s : State) (k : Nat) (v : TpSt) : (s.setTp k v).host = s.host := rfl
@[simp] theorem State.setTp_dbg (s : State) (k : Nat) (v : TpSt) : (s.setTp k v).dbg = s.dbg := rfl
@[simp] theorem State.setTp_lnk (s : State) (k : Nat) (v : TpSt) : (s.setTp k v).lnk = s.lnk := rfl

/-! ### setOut -/
@[simp] theorem State.setOut_pending (s : State) (k : Nat) (v : OutSt) : (s.setOut k v).pending = s.pending := rfl
@[simp] theorem State.setOut_fresh (s : State) (k : Nat) (v : OutSt) : (s.setOut k v).fresh = s.fresh := rfl
@[simp] theorem State.setOut_resp (s : State) (k : Nat) (v : OutSt) : (s.setOut k v).resp = s.resp := rfl
@[simp] theorem State.setOut_regs (s : State) (k : Nat) (v : OutSt) : (s.setOut k v).regs = s.regs := rfl
@[simp] theorem State.setOut_md (s : State) (k : Nat) (v : OutSt) : (s.setOut k v).md = s.md := rfl
@[simp] theorem State.setOut_col (s : State) (k : Nat) (v : OutSt) : (s.setOut k v).col = s.col := rfl
@[simp] theorem State.setOut_conv (s : State) (k : Nat) (v : OutSt) : (s.setOut k v).conv = s.conv := rfl
@[simp] theorem State.setOut_flt (s : State) (k : Nat) (v : OutSt) : (s.setOut k v).flt = s.flt := rfl
@[simp] theorem State.setOut_sp (s : State) (k : Nat) (v : OutSt) : (s.setOut k v).sp = s.sp := rfl
@[simp] theorem State.setOut_ac0 (s : State) (k : Nat) (v : OutSt) : (s.setOut k v).ac0 = s.ac0 := rfl
@[simp] theorem State.setOut_ac1 (s : State) (k : Nat) (v : OutSt) : (s.setOut k v).ac1 = s.ac1 := rfl
@[simp] theorem State.setOut_ac2 (s : State) (k : Nat) (v : OutSt) : (s.setOut k v).ac2 = s.ac2 := rfl
@[simp] theorem State.setOut_ac3 (s : State) (k : Nat) (v : OutSt) : (s.setOut k v).ac3 = s.ac3 := rfl
@[simp] theorem State.setOut_ctxs (s : State) (k : Nat) (v : OutSt) : (s.setOut k v).ctxs = s.ctxs := rfl
@[simp] theorem State.setOut_ready (s : State) (k : Nat) (v : OutSt) : (s.setOut k v).ready = s.ready := rfl
@[simp] theorem State.setOut_chA (s : State) (k : Nat) (v : OutSt) : (s.setOut k v).chA = s.chA := rfl
@[simp] theorem State.setOut_lat (s : State) (k : Nat) (v : OutSt) : (s.setOut k v).lat = s.lat := rfl
@[simp] theorem State.setOut_inputs (s : State) (k : Nat) (v : OutSt) : (s.setOut k v).inputs = s.inputs := rfl
@[simp] theorem State.setOut_ses (s : State) (k : Nat) (v : OutSt) : (s.setOut k v).ses = s.ses := rfl
@[simp] theorem State.setOut_net (s : State) (k : Nat) (v : OutSt) : (s.setOut k v).net = s.net := rfl
@[simp] theorem State.setOut_tmr (s : State) (k : Nat) (v : OutSt) : (s.setOut k v).tmr = s.tmr := rfl
@[simp] theorem State.setOut_loop (s : State) (k : Nat) (v : OutSt) : (s.setOut k v).loop = s.loop := rfl
@[simp] theorem State.setOut_gio (s : State) (k : Nat) (v : OutSt) : (s.setOut k v).gio = s.gio := rfl
@[simp] theorem State.setOut_queues (s : State) (k : Nat) (v : OutSt) : (s.setOut k v).queues = s.queues := rfl
@[simp] theorem State.setOut_mem (s : State) (k : Nat) (v : OutSt) : (s.setOut k v).mem = s.mem := rfl
@[simp] theorem State.setOut_gov (s : State) (k : Nat) (v : OutSt) : (s.setOut k v).gov = s.gov := rfl
@[simp] theorem State.setOut_bst (s : State) (k : Nat) (v : OutSt) : (s.setOut k v).bst = s.bst := rfl
@[simp] theorem State.setOut_otp (s : State) (k : Nat) (v : OutSt) : (s.setOut k v).otp = s.otp := rfl
@[simp] theorem State.setOut_tru (s : State) (k : Nat) (v : OutSt) : (s.setOut k v).tru = s.tru := rfl
@[simp] theorem State.setOut_upd (s : State) (k : Nat) (v : OutSt) : (s.setOut k v).upd = s.upd := rfl
@[simp] theorem State.setOut_host (s : State) (k : Nat) (v : OutSt) : (s.setOut k v).host = s.host := rfl
@[simp] theorem State.setOut_dbg (s : State) (k : Nat) (v : OutSt) : (s.setOut k v).dbg = s.dbg := rfl
@[simp] theorem State.setOut_lnk (s : State) (k : Nat) (v : OutSt) : (s.setOut k v).lnk = s.lnk := rfl

/-! ### setSeq -/
@[simp] theorem State.setSeq_pending (s : State) (n : Nat) (v : SeqSt) : (s.setSeq n v).pending = s.pending := rfl
@[simp] theorem State.setSeq_fresh (s : State) (n : Nat) (v : SeqSt) : (s.setSeq n v).fresh = s.fresh := rfl
@[simp] theorem State.setSeq_resp (s : State) (n : Nat) (v : SeqSt) : (s.setSeq n v).resp = s.resp := rfl
@[simp] theorem State.setSeq_regs (s : State) (n : Nat) (v : SeqSt) : (s.setSeq n v).regs = s.regs := rfl
@[simp] theorem State.setSeq_md (s : State) (n : Nat) (v : SeqSt) : (s.setSeq n v).md = s.md := rfl
@[simp] theorem State.setSeq_col (s : State) (n : Nat) (v : SeqSt) : (s.setSeq n v).col = s.col := rfl
@[simp] theorem State.setSeq_conv (s : State) (n : Nat) (v : SeqSt) : (s.setSeq n v).conv = s.conv := rfl
@[simp] theorem State.setSeq_flt (s : State) (n : Nat) (v : SeqSt) : (s.setSeq n v).flt = s.flt := rfl
@[simp] theorem State.setSeq_sp (s : State) (n : Nat) (v : SeqSt) : (s.setSeq n v).sp = s.sp := rfl
@[simp] theorem State.setSeq_ac0 (s : State) (n : Nat) (v : SeqSt) : (s.setSeq n v).ac0 = s.ac0 := rfl
@[simp] theorem State.setSeq_ac1 (s : State) (n : Nat) (v : SeqSt) : (s.setSeq n v).ac1 = s.ac1 := rfl
@[simp] theorem State.setSeq_ac2 (s : State) (n : Nat) (v : SeqSt) : (s.setSeq n v).ac2 = s.ac2 := rfl
@[simp] theorem State.setSeq_ac3 (s : State) (n : Nat) (v : SeqSt) : (s.setSeq n v).ac3 = s.ac3 := rfl
@[simp] theorem State.setSeq_ctxs (s : State) (n : Nat) (v : SeqSt) : (s.setSeq n v).ctxs = s.ctxs := rfl
@[simp] theorem State.setSeq_ready (s : State) (n : Nat) (v : SeqSt) : (s.setSeq n v).ready = s.ready := rfl
@[simp] theorem State.setSeq_chA (s : State) (n : Nat) (v : SeqSt) : (s.setSeq n v).chA = s.chA := rfl
@[simp] theorem State.setSeq_lat (s : State) (n : Nat) (v : SeqSt) : (s.setSeq n v).lat = s.lat := rfl
@[simp] theorem State.setSeq_inputs (s : State) (n : Nat) (v : SeqSt) : (s.setSeq n v).inputs = s.inputs := rfl
@[simp] theorem State.setSeq_outputs (s : State) (n : Nat) (v : SeqSt) : (s.setSeq n v).outputs = s.outputs := rfl
@[simp] theorem State.setSeq_ses (s : State) (n : Nat) (v : SeqSt) : (s.setSeq n v).ses = s.ses := rfl
@[simp] theorem State.setSeq_net (s : State) (n : Nat) (v : SeqSt) : (s.setSeq n v).net = s.net := rfl
@[simp] theorem State.setSeq_tmr (s : State) (n : Nat) (v : SeqSt) : (s.setSeq n v).tmr = s.tmr := rfl
@[simp] theorem State.setSeq_loop (s : State) (n : Nat) (v : SeqSt) : (s.setSeq n v).loop = s.loop := rfl
@[simp] theorem State.setSeq_gio (s : State) (n : Nat) (v : SeqSt) : (s.setSeq n v).gio = s.gio := rfl
@[simp] theorem State.setSeq_queues (s : State) (n : Nat) (v : SeqSt) : (s.setSeq n v).queues = s.queues := rfl
@[simp] theorem State.setSeq_mem (s : State) (n : Nat) (v : SeqSt) : (s.setSeq n v).mem = s.mem := rfl
@[simp] theorem State.setSeq_gov (s : State) (n : Nat) (v : SeqSt) : (s.setSeq n v).gov = s.gov := rfl
@[simp] theorem State.setSeq_otp (s : State) (n : Nat) (v : SeqSt) : (s.setSeq n v).otp = s.otp := rfl
@[simp] theorem State.setSeq_tru (s : State) (n : Nat) (v : SeqSt) : (s.setSeq n v).tru = s.tru := rfl
@[simp] theorem State.setSeq_upd (s : State) (n : Nat) (v : SeqSt) : (s.setSeq n v).upd = s.upd := rfl
@[simp] theorem State.setSeq_host (s : State) (n : Nat) (v : SeqSt) : (s.setSeq n v).host = s.host := rfl
@[simp] theorem State.setSeq_dbg (s : State) (n : Nat) (v : SeqSt) : (s.setSeq n v).dbg = s.dbg := rfl
@[simp] theorem State.setSeq_lnk (s : State) (n : Nat) (v : SeqSt) : (s.setSeq n v).lnk = s.lnk := rfl

/-! ### setSess -/
@[simp] theorem State.setSess_pending (s : State) (n : Nat) (v : Ses) : (s.setSess n v).pending = s.pending := rfl
@[simp] theorem State.setSess_fresh (s : State) (n : Nat) (v : Ses) : (s.setSess n v).fresh = s.fresh := rfl
@[simp] theorem State.setSess_resp (s : State) (n : Nat) (v : Ses) : (s.setSess n v).resp = s.resp := rfl
@[simp] theorem State.setSess_regs (s : State) (n : Nat) (v : Ses) : (s.setSess n v).regs = s.regs := rfl
@[simp] theorem State.setSess_md (s : State) (n : Nat) (v : Ses) : (s.setSess n v).md = s.md := rfl
@[simp] theorem State.setSess_col (s : State) (n : Nat) (v : Ses) : (s.setSess n v).col = s.col := rfl
@[simp] theorem State.setSess_conv (s : State) (n : Nat) (v : Ses) : (s.setSess n v).conv = s.conv := rfl
@[simp] theorem State.setSess_flt (s : State) (n : Nat) (v : Ses) : (s.setSess n v).flt = s.flt := rfl
@[simp] theorem State.setSess_sp (s : State) (n : Nat) (v : Ses) : (s.setSess n v).sp = s.sp := rfl
@[simp] theorem State.setSess_ac0 (s : State) (n : Nat) (v : Ses) : (s.setSess n v).ac0 = s.ac0 := rfl
@[simp] theorem State.setSess_ac1 (s : State) (n : Nat) (v : Ses) : (s.setSess n v).ac1 = s.ac1 := rfl
@[simp] theorem State.setSess_ac2 (s : State) (n : Nat) (v : Ses) : (s.setSess n v).ac2 = s.ac2 := rfl
@[simp] theorem State.setSess_ac3 (s : State) (n : Nat) (v : Ses) : (s.setSess n v).ac3 = s.ac3 := rfl
@[simp] theorem State.setSess_ctxs (s : State) (n : Nat) (v : Ses) : (s.setSess n v).ctxs = s.ctxs := rfl
@[simp] theorem State.setSess_ready (s : State) (n : Nat) (v : Ses) : (s.setSess n v).ready = s.ready := rfl
@[simp] theorem State.setSess_chA (s : State) (n : Nat) (v : Ses) : (s.setSess n v).chA = s.chA := rfl
@[simp] theorem State.setSess_lat (s : State) (n : Nat) (v : Ses) : (s.setSess n v).lat = s.lat := rfl
@[simp] theorem State.setSess_inputs (s : State) (n : Nat) (v : Ses) : (s.setSess n v).inputs = s.inputs := rfl
@[simp] theorem State.setSess_outputs (s : State) (n : Nat) (v : Ses) : (s.setSess n v).outputs = s.outputs := rfl
@[simp] theorem State.setSess_net (s : State) (n : Nat) (v : Ses) : (s.setSess n v).net = s.net := rfl
@[simp] theorem State.setSess_tmr (s : State) (n : Nat) (v : Ses) : (s.setSess n v).tmr = s.tmr := rfl
@[simp] theorem State.setSess_loop (s : State) (n : Nat) (v : Ses) : (s.setSess n v).loop = s.loop := rfl
@[simp] theorem State.setSess_gio (s : State) (n : Nat) (v : Ses) : (s.setSess n v).gio = s.gio := rfl
@[simp] theorem State.setSess_queues (s : State) (n : Nat) (v : Ses) : (s.setSess n v).queues = s.queues := rfl
@[simp] theorem State.setSess_mem (s : State) (n : Nat) (v : Ses) : (s.setSess n v).mem = s.mem := rfl
@[simp] theorem State.setSess_gov (s : State) (n : Nat) (v : Ses) : (s.setSess n v).gov = s.gov := rfl
@[simp] theorem State.setSess_bst (s : State) (n : Nat) (v : Ses) : (s.setSess n v).bst = s.bst := rfl
@[simp] theorem State.setSess_otp (s : State) (n : Nat) (v : Ses) : (s.setSess n v).otp = s.otp := rfl
@[simp] theorem State.setSess_tru (s : State) (n : Nat) (v : Ses) : (s.setSess n v).tru = s.tru := rfl
@[simp] theorem State.setSess_upd (s : State) (n : Nat) (v : Ses) : (s.setSess n v).upd = s.upd := rfl
@[simp] theorem State.setSess_host (s : State) (n : Nat) (v : Ses) : (s.setSess n v).host = s.host := rfl
@[simp] theorem State.setSess_dbg (s : State) (n : Nat) (v : Ses) : (s.setSess n v).dbg = s.dbg := rfl
@[simp] theorem State.setSess_lnk (s : State) (n : Nat) (v : Ses) : (s.setSess n v).lnk = s.lnk := rfl

end Sys2Proof.Machine
end

