-- ==== Sys2Proof/Laws/Tab.lean ====
section
/-! SUPPORT. Laws of sparse tables: a read after a write, the entries a write leaves alone, and the canonical form. -/
namespace Sys2Proof.Machine

variable {α : Type}

theorem look_dropTo (d : α) (t : Tab α) (k i : Nat) (h : k < i) : look d (dropTo k t) i = look d t i := by
  induction t with
  | nil => rfl
  | cons e t ih =>
    obtain ⟨j, a⟩ := e
    by_cases hj : j ≤ k
    · simp only [dropTo, hj, if_true, look]
      rw [ih, if_neg (by omega), if_neg (by omega)]
    · simp [dropTo, hj]

theorem look_dropTo_le (d : α) (t : Tab α) (k i : Nat) (h : i ≤ k) : look d (dropTo k t) i = d := by
  induction t with
  | nil => rfl
  | cons e t ih =>
    obtain ⟨j, a⟩ := e
    by_cases hj : j ≤ k
    · simp only [dropTo, hj, if_true, ih]
    · simp only [dropTo, hj, if_false, look]
      rw [if_neg (by omega), if_pos (by omega)]

/-- A read of the entry written gives the value written. -/
@[simp] theorem look_put [DecidableEq α] (d : α) (t : Tab α) (k : Nat) (a : α) : look d (put d t k a) k = a := by
  induction t with
  | nil => by_cases h : a = d <;> simp [put, look, h]
  | cons e t ih =>
    obtain ⟨j, b⟩ := e
    unfold put
    split
    · simp only [look]
      rw [if_neg (by omega), if_neg (by omega), ih]
    · split
      · split
        · rename_i h; subst h; exact look_dropTo_le a t k k (Nat.le_refl k)
        · simp [look]
      · split
        · rename_i h; subst h
          simp only [look]
          rw [if_neg (by omega), if_pos (by omega)]
        · simp [look]

/-- A write leaves every other entry alone, whatever the default it is read with. -/
theorem look_put_ne [DecidableEq α] (d d' : α) (t : Tab α) (k i : Nat) (a : α) (h : i ≠ k) :
    look d' (put d t k a) i = look d' t i := by
  induction t with
  | nil =>
    by_cases ha : a = d
    · simp [put, ha]
    · simp [put, look, ha, h]
  | cons e t ih =>
    obtain ⟨j, b⟩ := e
    unfold put
    split
    · simp only [look, ih]
    · split
      · rename_i h1 h2
        subst h2
        have key : look d' (dropTo j t) i = (if i < j then d' else look d' t i) := by
          split
          · exact look_dropTo_le d' t j i (by omega)
          · exact look_dropTo d' t j i (by omega)
        split
        · simp only [look, key]; rw [if_neg h]
        · simp only [look, key]
          simp [h]
          intro h5 h6
          omega
      · split
        · rfl
        · rename_i h1 h2 h3
          simp only [look]
          by_cases h4 : i < k
          · rw [if_neg h, if_pos h4, if_neg (by omega), if_pos (by omega)]
          · rw [if_neg h, if_neg h4]

/-- Reading any entry after a write. -/
theorem look_put_eq [DecidableEq α] (d : α) (t : Tab α) (k i : Nat) (a : α) :
    look d (put d t k a) i = if i = k then a else look d t i := by
  by_cases h : i = k
  · subst h; simp
  · simp [h, look_put_ne]

/-! ### The canonical form -/

/-- The table's first index lies above k. -/
def above (k : Nat) : Tab α → Prop
  | [] => True
  | e :: _ => k < e.1

theorem tabWf_cons [DecidableEq α] (d : α) (j : Nat) (a : α) (t : Tab α) :
    tabWf d ((j, a) :: t) = true ↔ a ≠ d ∧ above j t ∧ tabWf d t = true := by
  cases t with
  | nil => simp [tabWf, above]
  | cons e t => obtain ⟨k, b⟩ := e; simp [tabWf, above, and_assoc]

theorem dropTo_above (k : Nat) (t : Tab α) : above k (dropTo k t) := by
  induction t with
  | nil => trivial
  | cons e t ih =>
    obtain ⟨j, a⟩ := e
    by_cases h : j ≤ k
    · simpa [dropTo, h] using ih
    · simp only [dropTo, h, if_false, above]; omega

theorem dropTo_wf [DecidableEq α] (d : α) (k : Nat) (t : Tab α) (h : tabWf d t = true) : tabWf d (dropTo k t) = true := by
  induction t with
  | nil => rfl
  | cons e t ih =>
    obtain ⟨j, a⟩ := e
    by_cases hj : j ≤ k
    · simpa [dropTo, hj] using ih ((tabWf_cons d j a t).1 h).2.2
    · simpa [dropTo, hj] using h

theorem above_put [DecidableEq α] (d : α) (j k : Nat) (a : α) (t : Tab α) (h : j < k) (ht : above j t) :
    above j (put d t k a) := by
  cases t with
  | nil => by_cases ha : a = d <;> simp [put, ha, above, h]
  | cons e t =>
    obtain ⟨i, b⟩ := e
    have hi : j < i := ht
    unfold put
    split
    · exact hi
    · split
      · split
        · rename_i h1 h2 h3
          subst h2
          have := dropTo_above i t
          cases hd : dropTo i t with
          | nil => trivial
          | cons x xs => rw [hd] at this; exact Nat.lt_trans hi this
        · exact h
      · split
        · exact hi
        · exact h

/-- A write keeps the canonical form. -/
theorem put_wf [DecidableEq α] (d : α) (t : Tab α) (k : Nat) (a : α) (h : tabWf d t = true) :
    tabWf d (put d t k a) = true := by
  induction t with
  | nil => by_cases ha : a = d <;> simp [put, ha, tabWf]
  | cons e t ih =>
    obtain ⟨j, b⟩ := e
    obtain ⟨hb, hab, ht⟩ := (tabWf_cons d j b t).1 h
    unfold put
    split
    · rename_i hjk
      exact (tabWf_cons d j b _).2 ⟨hb, above_put d j k a t hjk hab, ih ht⟩
    · split
      · split
        · exact dropTo_wf d k t ht
        · rename_i ha
          exact (tabWf_cons d k a _).2 ⟨ha, dropTo_above k t, dropTo_wf d k t ht⟩
      · split
        · exact h
        · rename_i h1 h2 ha
          exact (tabWf_cons d k a _).2 ⟨ha, by simp only [above]; omega, h⟩

/-- Removing entries by a test on the index keeps the form. -/
theorem filter_wf [DecidableEq α] (d : α) (p : Nat → Bool) (t : Tab α) (h : tabWf d t = true) :
    tabWf d (t.filter (fun e => p e.1)) = true ∧ ∀ k, above k t → above k (t.filter (fun e => p e.1)) := by
  induction t with
  | nil => exact ⟨rfl, fun _ _ => trivial⟩
  | cons e t ih =>
    obtain ⟨j, b⟩ := e
    obtain ⟨hb, hab, ht⟩ := (tabWf_cons d j b t).1 h
    obtain ⟨h1, h2⟩ := ih ht
    by_cases hp : p j = true
    · rw [List.filter_cons_of_pos (by simpa using hp)]
      exact ⟨(tabWf_cons d j b _).2 ⟨hb, h2 j hab, h1⟩, fun k hk => hk⟩
    · rw [List.filter_cons_of_neg (by simpa using hp)]
      refine ⟨h1, fun k hk => h2 k ?_⟩
      cases t with
      | nil => trivial
      | cons x xs => exact Nat.lt_trans hk hab

end Sys2Proof.Machine
end

