-- ==== Sys2Proof/Laws/Ops.lean ====
section
/-! SUPPORT. What the named operations do: registers, processors and bytes read after a write, and the canonical form of memory,
which every memory operation keeps. -/
namespace Sys2Proof.Machine
namespace State

/-! ### Registers -/

@[simp] theorem reg_setReg (s : State) (a : Nat) (v : Word) : (s.setReg a v).reg a = v := look_put _ _ _ _

theorem reg_setReg_ne (s : State) (a b : Nat) (v : Word) (h : b ≠ a) : (s.setReg a v).reg b = s.reg b :=
  look_put_ne _ _ _ _ _ _ h

theorem reg_setReg_eq (s : State) (a b : Nat) (v : Word) : (s.setReg a v).reg b = if b = a then v else s.reg b := by
  by_cases h : b = a
  · subst h; simp
  · simp [h, reg_setReg_ne]

/-- A change that keeps the register file keeps every register. -/
theorem reg_congr (s t : State) (h : t.regs = s.regs) (a : Nat) : t.reg a = s.reg a := by unfold reg; rw [h]

/-! ### Processors -/

@[simp] theorem cpu_setCpu (s : State) (p : Proc) (c : Cpu) : (s.setCpu p c).cpu p = c := by
  unfold setCpu cpu; split <;> rfl

theorem cpu_setCpu_ne (s : State) (p q : Proc) (c : Cpu) (h : q ≠ p) : (s.setCpu p c).cpu q = s.cpu q := by
  unfold setCpu cpu
  split <;> split <;> first | rfl | exact absurd rfl h

@[simp] theorem setCpu_cpu (s : State) (p : Proc) : s.setCpu p (s.cpu p) = s := by
  unfold setCpu cpu; split <;> rfl

@[simp] theorem setCpu_setCpu (s : State) (p : Proc) (c d : Cpu) : (s.setCpu p c).setCpu p d = s.setCpu p d := by
  unfold setCpu; split <;> rfl

@[simp] theorem cpu_handshake (s : State) (u : Nat) (d : Hand) (q : Proc) : (s.handshake u d).cpu q = s.cpu q := rfl

@[simp] theorem cpu_addSlots (s : State) (p q : Proc) (k : Nat) : (s.addSlots p k).cpu q = s.cpu q := by
  cases p <;> cases q <;> rfl

@[simp] theorem cpu_tally (s : State) (p q : Proc) : (s.tally p).cpu q = s.cpu q := by
  cases q with
  | safety => rfl
  | ac k => match k with | 0 | 1 | 2 | 3 => rfl

@[simp] theorem cpu_ran (s : State) (p q : Proc) (k : Nat) : (s.ran p k).cpu q = s.cpu q := by
  simp [ran]

@[simp] theorem cpu_setReg (s : State) (a : Nat) (v : Word) (q : Proc) : (s.setReg a v).cpu q = s.cpu q := by
  unfold cpu; split <;> rfl

/-- A processor running already is set running without a change. -/
theorem setRunning (s : State) (p : Proc) (h : (s.cpu p).run = .running) :
    s.setCpu p { s.cpu p with run := .running } = s := by
  have e : ({ s.cpu p with run := .running } : Cpu) = s.cpu p := by
    cases hc : s.cpu p
    simp_all
  rw [e, setCpu_cpu]

theorem r_w (c : Cpu) (i j : Nat) (v : Word) : (c.w i v).r j = if j = i ∧ i ≠ 0 then v else c.r j := by
  unfold Cpu.w Cpu.r
  by_cases hi : i = 0
  · simp [hi]
  · by_cases hj : j = 0
    · subst hj; simp [hi, Ne.symm hi]
    · simp only [hi, hj, if_false, look_put_eq]
      by_cases h : j = i
      · subst h; simp [hi]
      · simp [h]

/-- g0 discards writes; any other register reads the value written, and the others stay (04 R93). -/
theorem gr_setGr (s : State) (p : Proc) (i j : BitVec 4) (v : Word) :
    (s.setGr p i v).gr p j = if j = i ∧ i ≠ 0 then v else s.gr p j := by
  unfold gr setGr
  rw [cpu_setCpu, r_w]
  have : (j.toNat = i.toNat ∧ i.toNat ≠ 0) ↔ (j = i ∧ i ≠ 0) := by
    constructor
    · rintro ⟨h1, h2⟩
      exact ⟨BitVec.eq_of_toNat_eq h1, fun h => h2 (by rw [h]; rfl)⟩
    · rintro ⟨h1, h2⟩
      exact ⟨by rw [h1], fun h => h2 (BitVec.eq_of_toNat_eq h)⟩
  simp only [this]

/-! ### Bytes -/

@[simp] theorem byte_setByte (s : State) (a : Nat) (b : Byte) : (s.setByte a b).byte a = b := look_put _ _ _ _

theorem byte_setByte_ne (s : State) (a i : Nat) (b : Byte) (h : i ≠ a) : (s.setByte a b).byte i = s.byte i :=
  look_put_ne _ _ _ _ _ _ h

/-- Bytes outside the stored ones stay. -/
theorem byte_setBytes_out (bs : List Byte) : ∀ (s : State) (a i : Nat), (i < a ∨ a + bs.length ≤ i) → (s.setBytes a bs).byte i = s.byte i := by
  induction bs with
  | nil => intros; rfl
  | cons b bs ih =>
    intro s a i h
    simp only [List.length_cons] at h
    show ((s.setByte a b).setBytes (a + 1) bs).byte i = _
    rw [ih _ _ _ (by omega), byte_setByte_ne _ _ _ _ (by omega)]

/-- The stored bytes read back. -/
theorem byte_setBytes_in (bs : List Byte) : ∀ (s : State) (a i : Nat) (h : i < bs.length), (s.setBytes a bs).byte (a + i) = bs[i] := by
  induction bs with
  | nil => intro s a i h; simp at h
  | cons b bs ih =>
    intro s a i h
    show ((s.setByte a b).setBytes (a + 1) bs).byte (a + i) = _
    cases i with
    | zero => rw [byte_setBytes_out _ _ _ _ (by omega)]; simp
    | succ n =>
      have : a + (n + 1) = (a + 1) + n := by omega
      rw [this, ih]
      rfl

/-! ### The canonical form of memory -/

theorem setByte_wf (s : State) (a : Nat) (b : Byte) (h : Memory.wf s.mem.cells = true) :
    Memory.wf (s.setByte a b).mem.cells = true := put_wf _ _ _ _ h

theorem setBytes_wf (bs : List Byte) : ∀ (s : State) (a : Nat), Memory.wf s.mem.cells = true → Memory.wf (s.setBytes a bs).mem.cells = true := by
  induction bs with
  | nil => intro s a h; exact h
  | cons b bs ih => intro s a h; exact ih _ _ (setByte_wf s a b h)

/-- A wipe keeps the canonical form. -/
theorem overwrite_wf (s : State) (a : Nat) (bs : List Byte) (h : Memory.wf s.mem.cells = true) :
    Memory.wf (s.overwrite a bs).mem.cells = true := setBytes_wf bs s a h

theorem wipeCells_wf (lo hi : Nat) (t : Tab Byte) (h : Memory.wf t = true) : Memory.wf (wipeCells lo hi t) = true :=
  (filter_wf 0 (fun i => decide (i < lo) || decide (hi ≤ i)) t h).1

theorem setReg_cells (s : State) (a : Nat) (v : Word) : (s.setReg a v).mem.cells = s.mem.cells := rfl

/-- Driving a fault line changes only the collector's view. -/
@[simp] theorem drive_mem (s : State) (n : Nat) (d : BitVec 16) : (s.drive n d).mem = s.mem := by
  unfold drive; dsimp only; repeat' split
  all_goals rfl

/-- Reading through the error-correcting code changes no byte. -/
@[simp] theorem eccRead_cells (s : State) (a m : Nat) : (s.eccRead a m).1.mem.cells = s.mem.cells := by
  unfold eccRead
  dsimp only
  repeat' split
  all_goals first | rfl | (simp only [drive_mem]; rfl)

@[simp] theorem eccWrite_cells (s : State) (a k m : Nat) : (s.eccWrite a k m).1.mem.cells = s.mem.cells := by
  unfold eccWrite
  split
  · rfl
  · exact eccRead_cells s a m

theorem nvWrite_wf (s : State) (a : Nat) (bs : List Byte) (h : Memory.wf s.mem.cells = true) :
    Memory.wf (s.nvWrite a bs).1.mem.cells = true := by
  unfold nvWrite
  dsimp only
  split
  · rw [drive_mem]; exact h
  · exact setBytes_wf bs s a h

theorem nvBlock_wf (k : Nat) : ∀ (s : State) (a : Nat) (bs : List Byte), Memory.wf s.mem.cells = true →
    Memory.wf (s.nvBlock a k bs).1.mem.cells = true := by
  induction k with
  | zero => intro s a bs h; exact h
  | succ k ih =>
    intro s a bs h
    unfold nvBlock
    split
    · exact h
    · have h0 : Memory.wf (s.eccWrite a (bs.take 8).length 9).1.mem.cells = true := by rw [eccWrite_cells]; exact h
      have h1 := nvWrite_wf _ a (bs.take 8) h0
      dsimp only
      split
      · exact ih _ _ _ h1
      · split
        · exact h1
        · exact h0

theorem nvStore_wf (s : State) (a : Nat) (bs : List Byte) (h : Memory.wf s.mem.cells = true) :
    Memory.wf (s.nvStore a bs).1.mem.cells = true := nvBlock_wf _ _ _ _ h

/-- A master's write keeps the canonical form (16 R426-R431). -/
theorem ramWrite_wf (s : State) (m a : Nat) (bs : List Byte) (h : Memory.wf s.mem.cells = true) :
    Memory.wf (s.ramWrite m a bs).1.mem.cells = true := by
  have h1 : Memory.wf (s.eccWrite a bs.length m).1.mem.cells = true := by rw [eccWrite_cells]; exact h
  unfold ramWrite
  split
  · split
    · dsimp only
      split
      · exact nvWrite_wf _ _ _ h1
      · exact h1
    · exact h
  · dsimp only
    split
    · exact setBytes_wf _ _ _ h1
    · exact h1

/-- A master's read changes no byte. -/
@[simp] theorem ramRead_cells (s : State) (m a k : Nat) : (s.ramRead m a k).1.mem.cells = s.mem.cells := by
  unfold ramRead
  dsimp only
  split <;> exact eccRead_cells s a m

/-- A push by hardware keeps the canonical form. -/
theorem qPush_wf (s : State) (q : Nat) (bs : List Byte) (h : Memory.wf s.mem.cells = true) :
    Memory.wf (s.qPush q bs).1.mem.cells = true := by
  unfold qPush
  dsimp only
  split
  · split
    · rw [drive_mem]; exact h
    · exact h
  · exact overwrite_wf _ _ _ h

/-- A pop by hardware changes no byte. -/
@[simp] theorem eccSpan_cells (s : State) (a k m : Nat) : (s.eccSpan a k m).1.mem.cells = s.mem.cells := by
  have hf : ∀ (ws : List Nat) (r : State × Bool), (ws.foldl (fun (r : State × Bool) w =>
      let t := r.1.eccRead w m; (t.1, r.2 && t.2)) r).1.mem.cells = r.1.mem.cells := by
    intro ws
    induction ws with
    | nil => intro r; rfl
    | cons w ws ih => intro r; rw [List.foldl_cons, ih]; exact eccRead_cells _ _ _
  exact hf _ _

theorem qPopN_cells (q k : Nat) : ∀ s : State, (qPopN q k s).1.mem.cells = s.mem.cells := by
  induction k with
  | zero => intro s; rfl
  | succ k ih =>
    intro s
    unfold qPopN
    dsimp only
    split
    · rfl
    · split
      · rw [eccSpan_cells]; rfl
      · rw [ih, eccSpan_cells]; rfl

@[simp] theorem qPop_cells (s : State) (q : Nat) : (s.qPop q).1.mem.cells = s.mem.cells := qPopN_cells q _ s

theorem recWrite_wf (s : State) (e : Staged) (h : Memory.wf s.mem.cells = true) : Memory.wf (s.recWrite e).mem.cells = true := by
  have hs : ∀ t : State, Memory.wf t.mem.cells = true → Memory.wf t.recSave.mem.cells = true := by
    intro t ht
    unfold recSave
    dsimp only
    split <;> exact ht
  unfold recWrite
  have := hs (((s.nvStore (recRing + 64 * (s.reg (memB + 0x30)).toNat) (recBytes (s.reg (memB + 0x34)) e)).1.setReg (memB + 0x30)
      (w32 (((s.reg (memB + 0x30)).toNat + 1) % recCount))).setReg (memB + 0x34) (s.reg (memB + 0x34) + 1))
    (nvStore_wf s _ _ h)
  dsimp only
  generalize (((s.nvStore _ _).1.setReg _ _).setReg _ _).recSave = u at this ⊢
  split <;> exact this

theorem foldl_recWrite_wf (es : List Staged) : ∀ s : State, Memory.wf s.mem.cells = true →
    Memory.wf (es.foldl recWrite s).mem.cells = true := by
  induction es with
  | nil => intro s h; exact h
  | cons e es ih => intro s h; exact ih _ (recWrite_wf s e h)

/-- The recorder's write to its ring keeps the canonical form. -/
theorem recFlush_wf (s : State) (h : Memory.wf s.mem.cells = true) : Memory.wf s.recFlush.mem.cells = true :=
  foldl_recWrite_wf (s.mem.stage.filter (fun _ => true)) s h

theorem wipeStart_wf (s : State) (h : Memory.wf s.mem.cells = true) : Memory.wf s.wipeStart.mem.cells = true :=
  wipeCells_wf _ _ _ (wipeCells_wf _ _ _ h)

theorem wipeUser_wf (s : State) (h : Memory.wf s.mem.cells = true) : Memory.wf s.wipeUser.mem.cells = true :=
  wipeCells_wf _ _ _ (wipeCells_wf _ _ _ h)

theorem reset_wf : Memory.wf State.reset.mem.cells = true := rfl

end State
end Sys2Proof.Machine
end

