-- ==== Sys2Proof/Laws/Instr.lean ====
section
/-! SUPPORT. What an OIS instruction does, once for all of them: a processor that runs it has the operation's effect and goes on,
or takes the exception that the operation, its mode or its fields raise (04 R97, R101, R127, R128). -/
namespace Sys2Proof.Machine
namespace State

theorem settleStep_eq (s : State) (p : Proc) (h : (s.cpu p).stepping = false) : s.settleStep p = s := by
  unfold settleStep; simp [h]

theorem executes_of_runs {s : State} {p : Proc} {modes : List Nat} (h : s.runs p modes) : s.executes p = true := by
  unfold executes; simp [h.1.1]

/-- A word whose fetch is good is not one that has to be asked of another device. -/
theorem fetchAsks_of_fetch {s : State} {p : Proc} (h : s.fetch p = (s, none)) : s.fetchAsks p = false := by
  cases p with
  | safety => rfl
  | ac k =>
    cases hn : s.fetchAsks (.ac k) with
    | false => rfl
    | true =>
    simp only [fetchAsks, Bool.and_eq_true, decide_eq_true_eq, Option.isNone_iff_eq_none] at hn
    obtain ⟨⟨hr, hd⟩, hi⟩ := hn
    have e : (s.fetch (.ac k)).2 = some { code := 1, eval := 0 } := by
      simp only [fetch, coreWord, hr, hd, hi]
      rfl
    rw [h] at e
    exact absurd e (by simp)

theorem wakes_running {s : State} {p : Proc} (h : (s.cpu p).run = .running) : s.wakes p = s := by
  unfold wakes; cases p <;> simp [h]

/-- A processor whose mode the instruction admits has no mode fault. -/
theorem modeFault_of_runs {s : State} {p : Proc} {modes : List Nat} (w : Word) (h : s.runs p modes) : s.modeFault p modes w = none := by
  unfold modeFault; simp only [h.2, if_true]

/-- An instruction that runs ends as its operation says. -/
theorem instr_runs {s : State} {p : Proc} {modes : List Nat} (w : Word) (cost : Nat) (op : State → Done) (h : s.runs p modes) :
    s.instr p w true modes cost op = (s.finish p (s.cpu p).pc cost (op s)).settleStep p := by
  obtain ⟨⟨hr, -, hp, hd, hf⟩, -⟩ := id h
  have hb : s.passBreak p = s := by unfold passBreak; rw [hp]
  unfold instr
  simp only [executes_of_runs h, wakes_running hr, hr, hd, fetchAsks_of_fetch hf, hb, hf, modeFault_of_runs w h]
  rfl

theorem instr_seq {s t : State} {p : Proc} {modes : List Nat} (w : Word) (cost : Nat) (op : State → Done) (h : s.runs p modes)
    (ho : op s = .seq t) (ht : (t.cpu p).stepping = false) :
    s.instr p w true modes cost op = (t.flowOn p (s.cpu p).pc).ran p cost := by
  rw [instr_runs w cost op h, ho]
  apply settleStep_eq
  simp [finish, flowOn, ht]

theorem instr_jump {s t : State} {p : Proc} {modes : List Nat} (w a : Word) (cost : Nat) (op : State → Done) (h : s.runs p modes)
    (ho : op s = .jump t a) (ht : (t.cpu p).stepping = false) :
    s.instr p w true modes cost op = (t.flowTo p a).ran p cost := by
  rw [instr_runs w cost op h, ho]
  apply settleStep_eq
  simp [finish, flowTo, ht]

theorem instr_stay {s t : State} {p : Proc} {modes : List Nat} (w : Word) (cost : Nat) (op : State → Done) (h : s.runs p modes)
    (ho : op s = .stay t) (ht : (t.cpu p).stepping = false) :
    s.instr p w true modes cost op = t.ran p cost := by
  rw [instr_runs w cost op h, ho]
  apply settleStep_eq
  simp [finish, ht]

/-- A processor that executes nothing ignores the instruction. -/
theorem instr_held (s : State) (p : Proc) (w : Word) (legal : Bool) (modes : List Nat) (cost : Nat) (op : State → Done)
    (h : s.executes p = false) : s.instr p w legal modes cost op = s := by
  unfold instr; simp [h]

/-- Exception entry keeps the stacks and the general registers (04 R127). -/
theorem enterExc_stacks (s : State) (p : Proc) (e : Exc) (imp : Bool) (epc : Word) :
    ((s.enterExc p e imp epc).cpu p).rets = (s.cpu p).rets ∧ ((s.enterExc p e imp epc).cpu p).loops = (s.cpu p).loops
      ∧ ((s.enterExc p e imp epc).cpu p).g = (s.cpu p).g := by
  unfold enterExc; cases p <;> simp

/-- Exception entry saves pc and st and writes the cause and the value (04 R127). -/
theorem enterExc_saves (s : State) (p : Proc) (e : Exc) (imp : Bool) (epc : Word) :
    ((s.enterExc p e imp epc).cpu p).epc = epc ∧ ((s.enterExc p e imp epc).cpu p).est = (s.cpu p).stWord
      ∧ ((s.enterExc p e imp epc).cpu p).eval = e.eval := by
  unfold enterExc; cases p <;> simp

/-- An exception outside a handler is entered; within one it stops the processor (04 R127, R129). -/
theorem raiseExc_first (s : State) (p : Proc) (e : Exc) (h : (s.cpu p).st.exc = false) :
    s.raiseExc p e = s.enterExc p e false (if e.code = 8 then (s.cpu p).pc + 4 else (s.cpu p).pc) := by
  unfold raiseExc; simp [h]

theorem raiseExc_double (s : State) (p : Proc) (e : Exc) (h : (s.cpu p).st.exc = true) :
    ((s.raiseExc p e).cpu p).run = .stopped := by
  unfold raiseExc
  simp only [h, if_true]
  cases p with
  | safety => simp
  | ac k =>
    have : ∀ (t : State) (n : Nat) (d : BitVec 16), (t.drive n d).cpu (.ac k) = t.cpu (.ac k) := by
      intro t n d
      unfold drive; dsimp only; repeat' split
      all_goals (unfold State.cpu; split <;> rfl)
    rw [this]
    have e2 : ∀ (t : State) (w : Worker), (t.endGrant w).cpu (.ac k) = t.cpu (.ac k) := by
      intro t w; unfold State.cpu; split <;> rfl
    rw [e2]; simp

end State
end Sys2Proof.Machine
end

