-- ==== Sys2Proof/Laws/Mode.lean ====
section
/-! SUPPORT. What logging, the recorder and a transition of the device mode can do: one lemma for each shared operation (02 R47,
R49, R60, R61; 10 R302, R303; 16 R432-R434). -/
namespace Sys2Proof.Machine
namespace State

/-- The state t differs from s in stored registers, memory, the collector and the queues at most. -/
def onlyLog (s t : State) : Prop := t = { s with regs := t.regs, mem := t.mem, flt := t.flt, queues := t.queues }

theorem onlyLog_rfl (s : State) : s.onlyLog s := rfl

theorem onlyLog_trans {s t u : State} (h : s.onlyLog t) (k : t.onlyLog u) : s.onlyLog u := by
  unfold onlyLog at *
  rw [k, h]

theorem onlyLog_ite {s t u : State} {c : Prop} [Decidable c] (h : s.onlyLog t) (k : s.onlyLog u) : s.onlyLog (if c then t else u) := by
  split
  · exact h
  · exact k

theorem onlyLog_foldl {α : Type} (f : State → α → State) (hf : ∀ (s : State) (a : α), s.onlyLog (f s a)) (l : List α) : ∀ s : State, s.onlyLog (l.foldl f s) := by
  induction l with
  | nil => intro s; exact onlyLog_rfl s
  | cons a l ih => intro s; exact onlyLog_trans (hf s a) (ih _)

theorem setBytes_only (bs : List Byte) : ∀ (s : State) (a : Nat), s.onlyLog (s.setBytes a bs) := by
  induction bs with
  | nil => intro s a; rfl
  | cons b bs ih => intro s a; exact onlyLog_trans (t := s.setByte a b) rfl (ih _ _)

theorem drive_only (s : State) (n : Nat) (d : BitVec 16) : s.onlyLog (s.drive n d) := by
  unfold drive
  dsimp only
  repeat' split
  all_goals rfl

theorem driveIf_only (s : State) (c : Bool) (n : Nat) (d : BitVec 16) : s.onlyLog (s.driveIf c n d) := by
  unfold driveIf
  split
  · exact drive_only s n d
  · rfl

theorem nvWrite_only (s : State) (a : Nat) (bs : List Byte) : s.onlyLog (s.nvWrite a bs).1 := by
  unfold nvWrite
  dsimp only
  split
  · dsimp only
    exact onlyLog_trans (t := (s.setReg (memB + 0x24) (w32 (wordAt a))).memStat 3) rfl (drive_only _ 137 0)
  · exact setBytes_only bs s a

/-- Reading through the error-correcting code corrects, counts and raises. -/
theorem eccRead_only (s : State) (a m : Nat) : s.onlyLog (s.eccRead a m).1 := by
  unfold eccRead
  dsimp only
  repeat' split
  all_goals first | rfl | skip
  · exact onlyLog_trans (t := ((s.satUp (memB + 8) 0 32).setReg (memB + 0xC) (w32 (wordAt a))).memStat 1) rfl (drive_only _ 133 (det m))
  · exact onlyLog_trans (t := ((s.unsoft (wordAt a)).satUp (memB + 4) 0 32).memStat 0) rfl (drive_only _ 134 0)
  · exact onlyLog_trans (t := s.setBits queB (flag 2 true)) rfl (drive_only _ 136 0)

theorem eccWrite_only (s : State) (a k m : Nat) : s.onlyLog (s.eccWrite a k m).1 := by
  unfold eccWrite
  split
  · rfl
  · exact eccRead_only s a m

theorem nvBlock_only (k : Nat) : ∀ (s : State) (a : Nat) (bs : List Byte), s.onlyLog (s.nvBlock a k bs).1 := by
  induction k with
  | zero => intro s a bs; rfl
  | succ k ih =>
    intro s a bs
    unfold nvBlock
    split
    · rfl
    · have h0 := eccWrite_only s a (bs.take 8).length 9
      have h1 := onlyLog_trans h0 (nvWrite_only _ a (bs.take 8))
      dsimp only
      split
      · exact onlyLog_trans h1 (ih _ _ _)
      · split
        · exact h1
        · exact h0

theorem recSave_only (s : State) : s.onlyLog s.recSave := by
  unfold recSave; dsimp only; split <;> rfl

theorem recWrite_only (s : State) (e : Staged) : s.onlyLog (s.recWrite e) := by
  unfold recWrite
  dsimp only
  have h := onlyLog_trans
    (onlyLog_trans (nvBlock_only ((recBytes (s.reg (memB + 0x34)) e).length / 8 + 1) s (recRing + 64 * (s.reg (memB + 0x30)).toNat)
        (recBytes (s.reg (memB + 0x34)) e))
      (u := ((s.nvStore (recRing + 64 * (s.reg (memB + 0x30)).toNat) (recBytes (s.reg (memB + 0x34)) e)).1.setReg (memB + 0x30)
        (w32 (((s.reg (memB + 0x30)).toNat + 1) % recCount))).setReg (memB + 0x34) (s.reg (memB + 0x34) + 1)) rfl)
    (recSave_only _)
  generalize (((s.nvStore _ _).1.setReg _ _).setReg _ _).recSave = u at h ⊢
  split
  · exact onlyLog_trans h rfl
  · exact h

/-- The recorder's drain writes memory and its own registers, and counts in the collector. -/
theorem recDrain_only (s : State) (f : Staged → Bool) : s.onlyLog (s.recDrain f) := by
  unfold recDrain
  exact onlyLog_trans (onlyLog_foldl recWrite recWrite_only _ s) rfl

theorem recFlush_only (s : State) : s.onlyLog s.recFlush := recDrain_only s _

/-- After a flush the staging buffer is empty. -/
theorem recFlush_stage (s : State) : s.recFlush.mem.stage = [] := by
  show s.mem.stage.filter (fun _ => !true) = []
  simp

theorem stageAdd_only (s : State) (e : Staged) : s.onlyLog (s.stageAdd e) := by
  unfold stageAdd
  dsimp only
  split
  · exact onlyLog_trans (recDrain_only s _) rfl
  · rfl

/-- A push by hardware writes queue SRAM, its queue and its registers. -/
theorem qPush_only (s : State) (q : Nat) (bs : List Byte) : s.onlyLog (s.qPush q bs).1 := by
  unfold qPush
  dsimp only
  split
  · split
    · show s.onlyLog (((s.countUp (queB + 0x2014 + 32 * q)).memStat 4).drive 138 0)
      exact onlyLog_trans (t := (s.countUp (queB + 0x2014 + 32 * q)).memStat 4) rfl (drive_only _ _ _)
    · rfl
  · exact onlyLog_trans (setBytes_only _ s _) rfl

theorem logCopy_only (s : State) (q : Nat) (bs : List Byte) : s.onlyLog (s.logCopy q bs) := by
  unfold logCopy
  dsimp only
  split
  · exact qPush_only s q bs
  · exact onlyLog_trans (qPush_only s q bs) rfl

/-- A log entry changes stored registers, memory, the collector's counts and the queues at most (10 R302, R303). -/
theorem log_only (s : State) (src cls : Nat) (wire : Bool) (kind wcnt : Nat) (d : BitVec 16) :
    s.onlyLog (s.log src cls wire kind wcnt d) := by
  unfold log
  dsimp only
  split
  · exact onlyLog_trans (onlyLog_trans (stageAdd_only s _) (logCopy_only _ 100 _)) (logCopy_only _ 101 _)
  · exact onlyLog_trans (stageAdd_only s _) (logCopy_only _ 100 _)

theorem onlyLog_md {s t : State} (h : s.onlyLog t) : t.md = s.md := by rw [h]
theorem onlyLog_outputs {s t : State} (h : s.onlyLog t) : t.outputs = s.outputs := by rw [h]
theorem onlyLog_chA {s t : State} (h : s.onlyLog t) : t.chA = s.chA := by rw [h]
theorem onlyLog_pending {s t : State} (h : s.onlyLog t) : t.pending = s.pending := by rw [h]
theorem onlyLog_tmr {s t : State} (h : s.onlyLog t) : t.tmr = s.tmr := by rw [h]
theorem onlyLog_cpu {s t : State} (h : s.onlyLog t) (p : Proc) : t.cpu p = s.cpu p := by
  rw [h]
  unfold cpu
  split <;> rfl

/-! ### Opening every switch -/

theorem foldl_open (now : Nat) (es : List (Nat × OutSt)) :
    ∀ (t : Tab OutSt), (∀ k, (look {} t k).swA = true ∨ (look {} t k).swB = true → k ∈ es.map Prod.fst) →
      ∀ k, (look {} (es.foldl (fun (t : Tab OutSt) (e : Nat × OutSt) => put {} t e.1 (e.2.open_ now)) t) k).swA = false
        ∧ (look {} (es.foldl (fun (t : Tab OutSt) (e : Nat × OutSt) => put {} t e.1 (e.2.open_ now)) t) k).swB = false := by
  induction es with
  | nil =>
    intro t h k
    have := h k
    simp only [List.map_nil, List.not_mem_nil, imp_false, not_or, Bool.not_eq_true] at this
    exact this
  | cons e es ih =>
    intro t h k
    refine ih _ ?_ k
    intro j hj
    rw [look_put_eq] at hj
    by_cases c : j = e.1
    · simp only [c, if_true] at hj
      simp [OutSt.open_] at hj
    · simp only [c, if_false] at hj
      have := h j hj
      simp only [List.map_cons, List.mem_cons, c, false_or] at this
      exact this

theorem look_mem {α : Type} (d : α) (t : Tab α) (k : Nat) (h : look d t k ≠ d) : k ∈ t.map Prod.fst := by
  induction t with
  | nil => exact absurd rfl h
  | cons e t ih =>
    obtain ⟨j, a⟩ := e
    unfold look at h
    split at h
    · rename_i c; simp [c]
    · split at h
      · exact absurd rfl h
      · simp only [List.map_cons, List.mem_cons]
        exact Or.inr (ih h)

/-- After the reaction lines open, no switch of any output is on (02 R49). -/
theorem openAll_off (s : State) (k : Nat) : (s.openAll.out k).swA = false ∧ (s.openAll.out k).swB = false := by
  refine foldl_open s.now s.outputs.outs s.outputs.outs ?_ k
  intro j hj
  refine look_mem {} _ _ ?_
  intro e
  rw [e] at hj
  simp at hj

/-! ### Transitions -/

theorem zonesOff_only (s : State) : s.onlyLog s.zonesOff := rfl
theorem settleAll_only (s : State) : s.onlyLog s.settleAll := rfl

/-- Leaving a mode keeps the mode controller's record of it. -/
theorem leave_md (s : State) : s.leave.md.mode = s.md.mode ∧ s.leave.outputs = s.outputs := by
  unfold leave
  split <;> exact ⟨rfl, rfl⟩

theorem abortSlice_md (s : State) : s.abortSlice.md = s.md ∧ s.abortSlice.outputs = s.outputs := by
  unfold abortSlice
  split <;> exact ⟨rfl, rfl⟩

theorem releaseCores_md (s : State) : s.releaseCores.md = s.md ∧ s.releaseCores.outputs = s.outputs := by
  unfold releaseCores
  split <;> exact ⟨rfl, rfl⟩

theorem drive_md (s : State) (n : Nat) (d : BitVec 16) : (s.drive n d).md = s.md ∧ (s.drive n d).outputs = s.outputs := by
  unfold drive; dsimp only; repeat' split
  all_goals exact ⟨rfl, rfl⟩

theorem gioNote_md (s : State) : s.gioNote.md = s.md ∧ s.gioNote.outputs = s.outputs := by
  unfold gioNote; dsimp only; split
  · exact drive_md _ _ _
  · exact ⟨rfl, rfl⟩

theorem gioMode_md (s : State) (old : Mode) : (s.gioMode old).md = s.md ∧ (s.gioMode old).outputs = s.outputs := by
  unfold gioMode
  rw [(gioNote_md _).1, (gioNote_md _).2]
  repeat' split
  all_goals exact ⟨rfl, rfl⟩

theorem sesRenew_md (s : State) : s.sesRenew.md = s.md ∧ s.sesRenew.outputs = s.outputs := by
  unfold sesRenew
  split <;> exact ⟨rfl, rfl⟩

/-- Entering a mode keeps what the transition wrote of it (02 R60, R61). -/
theorem enter_md (s : State) (old : Mode) :
    (s.enter old).md.mode = s.md.mode ∧ (s.enter old).md.cause = s.md.cause ∧ (s.enter old).md.prev = s.md.prev := by
  unfold enter
  split
  · exact ⟨rfl, rfl, rfl⟩
  · exact ⟨rfl, rfl, rfl⟩
  · dsimp only; split <;> split <;> (try rw [(releaseCores_md _).1]) <;> exact ⟨rfl, rfl, rfl⟩
  · dsimp only; split <;> split <;> (try rw [(releaseCores_md _).1]) <;> exact ⟨rfl, rfl, rfl⟩
  · rw [(releaseCores_md _).1]; exact ⟨rfl, rfl, rfl⟩
  · dsimp only; repeat' split
    all_goals (try rw [(releaseCores_md _).1]); exact ⟨rfl, rfl, rfl⟩
  · exact ⟨rfl, rfl, rfl⟩
  · exact ⟨rfl, rfl, rfl⟩
  · exact ⟨rfl, rfl, rfl⟩

/-- What a transition records (02 R60, R61): the new mode, the one left, and the cause. -/
theorem toMode_md (s : State) (m : Mode) (cause : Nat) :
    (s.toMode m cause).md.mode = m ∧ (s.toMode m cause).md.prev = s.md.mode
      ∧ (m ≠ .off → (s.toMode m cause).md.cause = cause) := by
  have go : ∀ m : Mode, ((((((s.leave.abortSlice.stopJobs).putMode m cause).enter s.md.mode).gioMode s.md.mode).sesRenew).log 0xFF 0 false 4 cause 0).md.mode = m
      ∧ ((((((s.leave.abortSlice.stopJobs).putMode m cause).enter s.md.mode).gioMode s.md.mode).sesRenew).log 0xFF 0 false 4 cause 0).md.prev = s.md.mode
      ∧ ((((((s.leave.abortSlice.stopJobs).putMode m cause).enter s.md.mode).gioMode s.md.mode).sesRenew).log 0xFF 0 false 4 cause 0).md.cause = cause := by
    intro m
    rw [onlyLog_md (log_only _ _ _ _ _ _ _), (sesRenew_md _).1, (gioMode_md _ _).1]
    obtain ⟨h1, h2, h3⟩ := enter_md ((s.leave.abortSlice.stopJobs).putMode m cause) s.md.mode
    rw [h1, h2, h3]
    refine ⟨rfl, ?_, rfl⟩
    show s.leave.abortSlice.md.mode = s.md.mode
    rw [(abortSlice_md _).1, (leave_md s).1]
  cases m
  · exact ⟨rfl, rfl, fun h => absurd rfl h⟩
  · unfold toMode
    dsimp only
    rw [onlyLog_md (log_only _ _ _ _ _ _ _)]
    exact ⟨rfl, rfl, fun _ => rfl⟩
  all_goals
    unfold toMode
    dsimp only
    refine ⟨?_, ?_, fun _ => ?_⟩
    · exact (go _).1
    · exact (go _).2.1
    · exact (go _).2.2

/-- A transition to REACT, LOCKOUT, SERVICE or HOLDUP leaves every switch off (02 R49, R53, R57). -/
theorem toMode_off (s : State) (m : Mode) (cause k : Nat) (h : m = .react ∨ m = .lockout ∨ m = .service ∨ m = .holdup) :
    ((s.toMode m cause).out k).swA = false ∧ ((s.toMode m cause).out k).swB = false := by
  have e : ∀ (u v : State), u.outputs = v.outputs → u.out k = v.out k := by intro u v h; unfold out; rw [h]
  have go : ∀ (u : State) (old : Mode) (c : Nat), (((u.gioMode old).sesRenew).log 0xFF 0 false 4 c 0).out k = u.out k := by
    intro u old c
    apply e
    rw [onlyLog_outputs (log_only _ _ _ _ _ _ _), (sesRenew_md _).2, (gioMode_md _ _).2]
  have off : ∀ (u : State) (old : Mode), (u.md.mode = .react ∨ u.md.mode = .lockout ∨ u.md.mode = .service ∨ u.md.mode = .holdup) →
      ((u.enter old).out k).swA = false ∧ ((u.enter old).out k).swB = false := by
    intro u old hu
    unfold enter
    rcases hu with hu | hu | hu | hu
    · rw [hu]; exact openAll_off _ k
    · rw [hu]
      dsimp only
      split
      · rw [e _ _ (releaseCores_md _).2]; exact openAll_off _ k
      · exact openAll_off _ k
    · rw [hu]; exact openAll_off _ k
    · rw [hu]; exact openAll_off _ k
  rcases h with rfl | rfl | rfl | rfl
  all_goals
    unfold toMode
    dsimp only
    rw [go]
    refine off _ _ ?_
    unfold putMode
    simp

end State
end Sys2Proof.Machine
end

