-- ==== Sys2Proof/WellFormed.lean ====
section
/-! DEFINITION. Well-formed commands: operands that stand for something the outside world can do. A command that fails a
check spells no event of the spec; `step` runs every command it is given, well-formed or not. -/
namespace Sys2Proof

/-- Register addresses (03 R68): 0x3000_0000 to 0x300F_FFFF. -/
def isRegisterAddr (a : Word) : Bool := a.toNat / 0x100000 == 0x300

/-- Interrupt numbers that a unit requests (10 R295; 13 R378; 14 R395; 15 R407; 17 R458; 18 R476). -/
def interruptUsed (n : Nat) : Bool :=
  n == 2 || (decide (16 ≤ n) && decide (n < 32)) || (decide (33 ≤ n) && decide (n < 36)) || (decide (40 ≤ n) && decide (n < 44))
    || n == 48 || n == 52 || n == 56

/-- A frame on the wire has its addresses, EtherType and header before its payload (11 R311). -/
def RingFrame.wf (f : RingFrame) : Bool := decide (14 ≤ f.bytes.length) && decide (f.bytes.length ≤ 1518)

/-- The checks on the operands of a command. Log entry 17, DESIGN CHOICE. -/
def Instr.wf : Instr → Bool
  | .registerWrite _ addr _ _ => isRegisterAddr addr
  | .ringFrameReceive _ _ f => f.wf
  | .netDmaWriteFailure _ _ f => f.wf
  | .inputFilterChange _ _ xs => !xs.own.isEmpty || !xs.spare.isEmpty
  | .interrupt _ n => interruptUsed n.toNat
  | .queuePublish _ _ addr => decide (addr.toNat % 8 = 0)
  | .queueRelease _ _ addr => decide (addr.toNat % 8 = 0)
  | .hotEntry _ temp => !temp.msb
  | .ridgeQmsg _ _ _ entry => decide (entry.length = 256)
  | .governorWindow e => decide (e.sensors.length = 8) && decide (e.ranFor.length = 4)
  | _ => true

end Sys2Proof
end

