-- ==== Sys2Proof/Tests/Slice0.lean ====
section
/-! SUPPORT. Tests: the checks of WellFormed, for every statement with hypotheses states and operands that meet them (a witness named
wit_ and the statement), and single commands on small states with results worked out from the spec. -/
open Sys2Proof Sys2Proof.Machine
namespace Sys2Proof.Tests

set_option Elab.async false

/-! ### WellFormed refuses each ill-formed operand -/

theorem test_wf_register_below : Instr.wf (.registerWrite 0 0x2FFFFFFC 0 .b32) = false := by decide
theorem test_wf_register_last : Instr.wf (.registerWrite 0 0x300FFFFC 0 .b32) = true := by decide
theorem test_wf_register_above : Instr.wf (.registerWrite 0 0x30100000 0 .b32) = false := by decide
theorem test_wf_frame_short : Instr.wf (.ringFrameReceive false false ⟨List.replicate 13 0, true, false⟩) = false := by decide
theorem test_wf_frame_shortest : Instr.wf (.ringFrameReceive false false ⟨List.replicate 14 0, true, false⟩) = true := by decide
theorem test_wf_dma_frame_short : Instr.wf (.netDmaWriteFailure true true ⟨[], true, false⟩) = false := by decide
theorem test_wf_samples_empty : Instr.wf (.inputFilterChange 0 true ⟨[], []⟩) = false := by decide
theorem test_wf_samples_one : Instr.wf (.inputFilterChange 31 true ⟨[], [true]⟩) = true := by decide
theorem test_wf_interrupt_one : Instr.wf (.interrupt 0 1) = false := by decide
theorem test_wf_interrupt_two : Instr.wf (.interrupt 3 2) = true := by decide
theorem test_wf_publish_unaligned : Instr.wf (.queuePublish 0 0 0x20000004) = false := by decide
theorem test_wf_release_unaligned : Instr.wf (.queueRelease 0 0 0x20000001) = false := by decide
theorem test_wf_hot_negative : Instr.wf (.hotEntry 0 0x200) = false := by decide
theorem test_wf_hot_high : Instr.wf (.hotEntry 0 120) = true := by decide
theorem test_wf_qmsg_short : Instr.wf (.ridgeQmsg true .none 1 (List.replicate 255 0)) = false := by rw [Instr.wf, List.length_replicate]; rfl
theorem test_wf_qmsg_full : Instr.wf (.ridgeQmsg true .none 1 (List.replicate 256 0)) = true := by rw [Instr.wf, List.length_replicate]; rfl

/-- A window's report without its sensors, and with them. -/
def report (n k : Nat) : GovEnv :=
  { pLogic := 500
    dField := 300
    hidden := []
    vl := 2400
    iin := 100
    sensors := List.replicate n ⟨50, 49, 50⟩
    ranFor := List.replicate k 200000 }

theorem test_wf_window : Instr.wf (.governorWindow (report 8 4)) = true := by decide
theorem test_wf_window_sensors : Instr.wf (.governorWindow (report 7 4)) = false := by decide
theorem test_wf_window_pace : Instr.wf (.governorWindow (report 8 3)) = false := by decide

/-! ### States -/

/-- The safety processor runs; NOP words stand where it executes in these tests. -/
def spSt : State :=
  { State.reset with
    sp := { Cpu.resetSafety with run := .running }
    chA := { State.reset.chA with tcm := [(3, 0xFC), (0x103, 0xFC), (0xFFF, 0xFC), (0x1003, 0xFC)] } }

/-- Core 0 runs in K-mode at 0x1000, where a NOP word stands. -/
def acSt : State :=
  { State.reset with
    ac0 := { Cpu.resetAc with run := .running, pc := 0x1000 }
    mem := { State.reset.mem with cells := [(0x1003, 0xFC)] } }

/-- Core 0 runs in U-mode there. -/
def userSt : State := { acSt with ac0 := { acSt.ac0 with st := { mode := 0 } } }

/-- The safety processor runs with changed registers. -/
def spWith (f : Cpu → Cpu) : State := { spSt with sp := f spSt.sp }

/-- Core 0 runs with changed registers. -/
def acWith (f : Cpu → Cpu) : State := { acSt with ac0 := f acSt.ac0 }

/-- Core 0 runs in U-mode with changed registers. -/
def userWith (f : Cpu → Cpu) : State := { userSt with ac0 := f userSt.ac0 }

/-- The command answers a next state, of which p holds. -/
def after (o : Out) (p : State → Bool) : Bool :=
  match o with
  | .next t => p t
  | _ => false

/-- The device in a mode. -/
def inMode (m : Mode) : State := { State.reset with md := { State.reset.md with mode := m } }

/-! ### Hypotheses met: the processors -/

theorem wit_runs_safety : spSt.runs .safety mSKU ∧ spSt.runs .safety mS ∧ spSt.runs .safety mSK := ⟨⟨⟨rfl, rfl, rfl, rfl, rfl⟩, rfl⟩, ⟨⟨rfl, rfl, rfl, rfl, rfl⟩, rfl⟩, ⟨⟨rfl, rfl, rfl, rfl, rfl⟩, rfl⟩⟩
theorem wit_runs_core : acSt.runs (.ac 0) mSKU ∧ acSt.runs (.ac 0) mKU ∧ acSt.runs (.ac 0) mK := ⟨⟨⟨rfl, rfl, rfl, rfl, rfl⟩, rfl⟩, ⟨⟨rfl, rfl, rfl, rfl, rfl⟩, rfl⟩, ⟨⟨rfl, rfl, rfl, rfl, rfl⟩, rfl⟩⟩
theorem wit_runs_user : userSt.runs (.ac 0) mSKU ∧ userSt.runs (.ac 0) mKU := ⟨⟨⟨rfl, rfl, rfl, rfl, rfl⟩, rfl⟩, ⟨⟨rfl, rfl, rfl, rfl, rfl⟩, rfl⟩⟩

theorem wit_StepRunsFront : ∃ (s : State) (c : Instr) (rest : List Instr), s.pending = c :: rest :=
  ⟨{ State.reset with pending := [.powerUp] }, .powerUp, [], rfl⟩

theorem wit_AluResults : ∃ (s : State) (p : Proc) (f : FmtR), s.runs p mSKU ∧ f.aux = 0 := ⟨acSt, .ac 0, ⟨1, 2, 3, 0⟩, ⟨⟨rfl, rfl, rfl, rfl, rfl⟩, rfl⟩, rfl⟩
theorem wit_RegisterFrames : ∃ (s t : State) (p : Proc) (f : FmtR), s.runs p mSKU ∧ f.aux = 0 ∧ exec (.add p f) s = .next t :=
  ⟨acSt, _, .ac 0, ⟨1, 2, 3, 0⟩, ⟨⟨rfl, rfl, rfl, rfl, rfl⟩, rfl⟩, rfl, rfl⟩

theorem wit_ImmediateResults : acSt.runs (.ac 0) mSKU ∧ (⟨1, 2, 0, 31⟩ : FmtR).rb = 0 ∧ (⟨1, 2, 0, 31⟩ : FmtR).aux.toNat < 32
    ∧ (⟨1, 0, 65535⟩ : FmtI).ra = 0 ∧ (⟨1, 0, 65535⟩ : FmtI).imm.toNat < 65536 := ⟨⟨⟨rfl, rfl, rfl, rfl, rfl⟩, rfl⟩, by decide⟩
theorem wit_CompareFlags : spSt.runs .safety mSKU ∧ (⟨0, 2, 3, 0⟩ : FmtR).aux = 0 ∧ (⟨0, 2, 3, 0⟩ : FmtR).rd = 0 ∧ (⟨0, 2, 5⟩ : FmtI).rd = 0 :=
  ⟨⟨⟨rfl, rfl, rfl, rfl, rfl⟩, rfl⟩, by decide⟩
theorem wit_DivisionResults : (⟨1, 2, 3, 0⟩ : FmtR).aux = 0 ∧ acSt.runs (.ac 0) mSKU ∧ acSt.runs (.ac 0) mKU
    ∧ spSt.sp.run = .running ∧ spSt.sp.stepping = false ∧ spSt.fetch .safety = (spSt, none) ∧ spSt.sp.st.mode = 2 ∧ spSt.sp.st.exc = false :=
  ⟨rfl, ⟨⟨rfl, rfl, rfl, rfl, rfl⟩, rfl⟩, ⟨⟨rfl, rfl, rfl, rfl, rfl⟩, rfl⟩, rfl, rfl, rfl, rfl, rfl⟩

/-- g2 holds the dual word of 1. -/
def dwSt : State := spWith (fun c => { c with g := [(2, 0xFFFE0001)] })

theorem wit_DualWords : dwSt.runs .safety mSKU ∧ (⟨1, 2, 0, 0⟩ : FmtR).aux = 0 ∧ (⟨1, 2, 0, 0⟩ : FmtR).rb = 0
    ∧ (dwSt.gr .safety 2).extractLsb' 16 16 = ~~~((dwSt.gr .safety 2).extractLsb' 0 16)
    ∧ (dwSt.gr .safety 3).extractLsb' 16 16 ≠ ~~~((dwSt.gr .safety 3).extractLsb' 0 16)
    ∧ dwSt.sp.st.exc = false ∧ (⟨1, 2, 5, 0⟩ : FmtR).rb ≠ 0 := ⟨⟨⟨rfl, rfl, rfl, rfl, rfl⟩, rfl⟩, by decide⟩
theorem test_dwadd : (exec (.dwadd .safety ⟨1, 2, 2, 0⟩) dwSt) = dwSt.endsIn .safety (dwSt.setGr .safety 1 0xFFFD0002) 2 := by rfl

/-- sb1 is false, sb2 true and sb3 invalid. -/
def sbSt : State := spWith (fun c => { c with sb := [(1, 1), (2, 2), (3, 3)] })

theorem wit_BranchesAndJumps : (⟨14, 5⟩ : FmtJ).sel.toNat < 15 ∧ (spSt.sp.st.mode = 2 → 0 < (⟨14, 5⟩ : FmtJ).off.toInt)
    ∧ acSt.runs (.ac 0) mKU ∧ (⟨0, 0x1FFFFF⟩ : FmtJ).sel = 0 ∧ (acSt.gr (.ac 0) 2).toNat % 4 = 0
    ∧ sbSt.runs .safety mS ∧ sbSt.sbr 2 = 2 ∧ sbSt.sbr 1 = 1 ∧ sbSt.sbr 3 ≠ 1 ∧ sbSt.sbr 3 ≠ 2 ∧ sbSt.sp.st.exc = false :=
  ⟨by decide, by decide, ⟨⟨rfl, rfl, rfl, rfl, rfl⟩, rfl⟩, rfl, rfl, ⟨⟨rfl, rfl, rfl, rfl, rfl⟩, rfl⟩, by decide⟩

/-- n addresses on the return stack. -/
def callSt (n : Nat) : State := spWith (fun c => { c with pc := 0x100, rets := List.replicate n 0x40 })
/-- n loops whose bodies end at 0x100. -/
def loopSt (n : Nat) : State := spWith (fun c => { c with
  pc := 0x100
  loops := List.replicate n { first := 0xF0, last := 0x100, left := 2, depth := 0, exc := false } })

theorem wit_CallsAndLoops_stacks : (callSt 7).runs .safety mSKU ∧ (callSt 7).sp.rets.length < 8 ∧ (callSt 8).runs .safety mSKU
    ∧ 8 ≤ (callSt 8).sp.rets.length ∧ (callSt 8).sp.st.exc = false ∧ (callSt 1).sp.rets = 0x40 :: [] ∧ (callSt 0).sp.rets = [] :=
  ⟨⟨⟨rfl, rfl, rfl, rfl, rfl⟩, rfl⟩, by decide, ⟨⟨rfl, rfl, rfl, rfl, rfl⟩, rfl⟩, by decide, rfl, rfl, rfl⟩
theorem wit_CallsAndLoops_loops : (⟨2, 3⟩ : FmtL).count ≠ 0 ∧ (⟨2, 3⟩ : FmtL).len ≠ 0 ∧ (loopSt 3).sp.loops.length < 4
    ∧ 4 ≤ (loopSt 4).sp.loops.length ∧ (loopSt 4).sp.st.exc = false := by decide
theorem wit_CallsAndLoops_next (e : LoopEnt) (h : e = ⟨0xF0, 0x100, 2, 0, false⟩) (d : LoopEnt) (g : d = ⟨0xF0, 0x100, 1, 0, false⟩) :
    ¬ (e.depth = spSt.sp.rets.length ∧ e.exc = spSt.sp.st.exc ∧ e.last = 0x104)
    ∧ (e.depth = spSt.sp.rets.length ∧ e.exc = spSt.sp.st.exc ∧ e.last = 0x100 ∧ 1 < e.left)
    ∧ (d.depth = spSt.sp.rets.length ∧ d.exc = spSt.sp.st.exc ∧ d.last = 0x100 ∧ d.left ≤ 1) := by
  subst h; subst g; decide
theorem test_loop_back : ∃ t, exec (.nop .safety ⟨0, 0, 0, 0⟩) (loopSt 1) = .next t ∧ t.sp.pc = 0xF0
    ∧ t.sp.loops = [⟨0xF0, 0x100, 1, 0, false⟩] := ⟨_, rfl, rfl, rfl⟩
theorem test_call : ∃ t, exec (.call .safety ⟨0, 0x1FFFFE⟩) (callSt 7) = .next t ∧ t.sp.pc = 0xF8 ∧ t.sp.rets.head? = some 0x104 :=
  ⟨_, rfl, rfl, rfl⟩

theorem wit_SafeBooleans : sbSt.runs .safety mS ∧ (⟨4, 2, 0, 0⟩ : FmtX).sb = 0 ∧ (⟨4, 2, 0, 0⟩ : FmtX).sc = 0 ∧ (⟨15, 2, 0, 0⟩ : FmtX).sd.toNat < 16
    ∧ (sbSt.sbr 2 = 1 ∨ sbSt.sbr 2 = 2) ∧ ¬ (sbSt.sbr 3 = 1 ∨ sbSt.sbr 3 = 2) ∧ sbSt.sp.st.exc = false := ⟨⟨⟨rfl, rfl, rfl, rfl, rfl⟩, rfl⟩, by decide⟩
theorem test_sand3_invalid : exec (.sand3 .safety ⟨4, 2, 2, 3⟩) sbSt = sbSt.endsIn .safety (sbSt.setSbr 4 0) 1 := by rfl
theorem wit_ScmpResult : dwSt.sp.run = .running ∧ dwSt.sp.stepping = false ∧ dwSt.fetch .safety = (dwSt, none)
    ∧ (dwSt.sp.st.mode = 2 ∧ (5 : BitVec 6).toNat < 6 ∧ (⟨1, 15, 15, 0⟩ : FmtX).sa.toNat < 16 ∧ (⟨1, 15, 15, 0⟩ : FmtX).sb.toNat < 16
      ∧ (⟨1, 15, 15, 0⟩ : FmtX).sc = 0)
    ∧ ¬ ((6 : BitVec 6).toNat < 6) ∧ dwSt.sp.st.exc = false := ⟨rfl, rfl, rfl, by decide⟩
theorem test_scmp_ge : exec (.scmp .safety ⟨1, 2, 2, 0⟩ 5) dwSt = dwSt.endsIn .safety (dwSt.setSbr 1 2) 2 := by rfl

/-- The safety processor with an address in g2; core 0 with one. -/
def spAt (a : Word) : State := spWith (fun c => { c with g := [(2, a)] })
def acAt (a : Word) : State := acWith (fun c => { c with g := [(2, a)] })
def userAt (a : Word) : State := userWith (fun c => { c with g := [(2, a)] })

theorem wit_LoadResults_tcm : ((spAt 0x7FFFC).memAddr .safety ⟨1, 2, 0⟩).toNat < 0x80000 ∧ (0x7FFFC : Nat) % 4 = 0
    ∧ 0x100000 ≤ ((spAt 0x100000).memAddr .safety ⟨1, 2, 0⟩).toNat ∧ ((spAt 0x13FFFC).memAddr .safety ⟨1, 2, 0⟩).toNat < 0x140000
    ∧ 0x80000 ≤ ((spAt 0x80000).memAddr .safety ⟨1, 2, 0⟩).toNat ∧ ((spAt 0xFFFFC).memAddr .safety ⟨1, 2, 0⟩).toNat < 0x100000
    ∧ 0x140000 ≤ ((spAt 0x140000).memAddr .safety ⟨1, 2, 0⟩).toNat ∧ ((spAt 0x102).memAddr .safety ⟨1, 2, 0⟩).toNat % 4 ≠ 0
    ∧ (spAt 0x80000).sp.st.exc = false := by decide
theorem wit_LoadResults_memory : regionOf 0 = .work ∧ regionOf 0x0FFFFFFC = .work ∧ regionOf 0x10000000 = .nv ∧ regionOf 0x17FFFFFC = .nv
    ∧ regionOf 0x20000000 = .sram ∧ regionOf 0x200FFFFC = .sram ∧ regionOf 0x30000000 = .regs ∧ regionOf 0x300FFFFC = .regs
    ∧ regionOf 0x18000000 = .none ∧ regionOf 0x20100000 = .none ∧ regionOf 0x30100000 = .none ∧ regionOf 0x7FFFFFFC = .none
    ∧ regionOf 0x80000000 = .remote ∧ regionOf 0xFFFFFFFC = .remote := by decide
/-- RUN, with an uncorrectable word at 0x2000 and device 1 present on the ridge link. -/
def badSt : State := { acAt 0x2000 with md := (inMode .run).md, mem := { (acAt 0x2000).mem with bad := [0x2000] }, lnk := { State.reset.lnk with present := 2 } }
/-- n requests of core 0 to device 1 await their response there. -/
def askSt (n : Nat) : State := { badSt with lnk := { badSt.lnk with remote := (List.range n).map (fun i => ⟨1, BitVec.ofNat 32 i, 0, 0, true⟩) } }

theorem wit_LoadResults_core : (acAt 0x1000).runs (.ac 0) mSKU ∧ (acAt 0x1000).sound 0x1000 ∧ (acAt 0x1000).revoked 0 = false
    ∧ (acAt 0x1000).tagFree 0 = true ∧ (askSt 32).tagFree 0 = false ∧ (askSt 32).runs (.ac 0) mSKU
    ∧ (acAt 0x30000000).ac0.st.mode = 1 ∧ ((acAt 0x30000000).busRead 0 0x30000000 4).2.1 = stOk
    ∧ (userAt 0x30000000).ac0.st.mode = 0 ∧ (userAt 0x30000000).ac0.st.exc = false :=
  ⟨⟨⟨rfl, rfl, rfl, rfl, rfl⟩, rfl⟩, ⟨rfl, rfl⟩, rfl, by decide, by decide, ⟨⟨rfl, rfl, rfl, rfl, rfl⟩, rfl⟩, rfl, rfl, rfl, rfl⟩

theorem wit_LoadResults_bad : badSt.runs (.ac 0) mSKU ∧ regionOf 0x2000 = .work ∧ badSt.mem.bad.contains (wordAt 0x2000) = true
    ∧ badSt.revoked 0 = false ∧ badSt.tagFree 0 = true ∧ badSt.ac0.st.exc = false ∧ badSt.md.mode ≠ .off ∧ (badSt.src 133).rail = .ok
    ∧ badSt.remoteNow 0 (State.remoteDev 0x90000000) = none ∧ badSt.remoteFull (State.remoteDev 0x90000000) = false
    ∧ (askSt 4).remoteFull (State.remoteDev 0x90000000) = true ∧ badSt.remoteNow 0 (State.remoteDev 0xA0000000) = some stError :=
  ⟨⟨⟨rfl, rfl, rfl, rfl, rfl⟩, rfl⟩, rfl, rfl, rfl, by decide, rfl, by decide, by decide, by decide, by decide, by decide, by decide⟩
theorem test_load_uncorrectable : after (exec (.ldw (.ac 0) ⟨1, 2, 0⟩) badSt) (fun t => t.ac0.ecause == 0x20005 && t.ac0.eval == 0x2000) = true := by
  decide +kernel

theorem wit_StoreResults : (spAt 0x100000).runs .safety mSKU ∧ 0x100000 ≤ (0x13FFFC : Word).toNat ∧ (0x13FFFC : Word).toNat < 0x140000
    ∧ (acAt 0x0FFFFFFC).sound 0x0FFFFFFC ∧ (acAt 0x13400000).sound 0x13FFFFFC ∧ (acAt 0x13400000).revoked 0 = false
    ∧ (acAt 0x13400000).ac0.st.mode ≠ 0 ∧ (userAt 0x13400000).ac0.st.mode = 0 ∧ (acAt 0x13400000).mem.stuck = []
    ∧ (acAt 0x13400000).tagFree 0 = true ∧ (askSt 32).tagFree 0 = false ∧ (spAt 0xFFFFC).sp.st.exc = false
    ∧ ((acAt 0x30000000).busWrite 0 0x30000010 4 1).2 = stOk ∧ ((acAt 0x30000000).busWrite 0 0x30000000 4 1).2 = stIgnored
    ∧ ((acAt 0x30000000).busWrite 0 0x30000004 1 1).2 = stDecode ∧ ((acAt 0x30000000).reg (sysB + 4)).getLsbD 0 = false
    ∧ (({ acAt 0x30000000 with regs := [(sysB + 4, 1)] } : State).reg (sysB + 4)).getLsbD 0 = true :=
  ⟨⟨⟨rfl, rfl, rfl, rfl, rfl⟩, rfl⟩, by decide, by decide, ⟨rfl, rfl⟩, ⟨rfl, rfl⟩, rfl, by decide, rfl, rfl, by decide, by decide, rfl, by decide +kernel,
    by decide +kernel, by decide +kernel, by decide, by decide⟩
theorem wit_StoreFrame : ∃ t, exec (.stw (.ac 0) ⟨2, 2, 8⟩) (acAt 0x2000) = .next t
    ∧ regionOf ((acAt 0x2000).memAddr (.ac 0) ⟨2, 2, 8⟩).toNat ≠ .regs ∧ t.byte 0x2009 = 0x20 ∧ t.byte 0x2007 = 0 :=
  ⟨_, rfl, by decide, rfl, rfl⟩

/-- A strobe has passed and no verdict has come yet. -/
def waitSt : State := { spSt with chA := { spSt.chA with verdictUp := false } }

theorem wit_ImageAccess : spSt.runs .safety mS ∧ spSt.ioRead 0x200000 = .value 0 ∧ spSt.ioRead 0x20019C = .value 0
    ∧ spSt.ioRead 0x2001A0 = .bad ∧ spSt.ioRead 0x300020 = .value 0 ∧ waitSt.ioRead 0x300020 = .wait
    ∧ (∃ t, spSt.ioWrite 0x200110 5 = some t) ∧ spSt.ioWrite 0x200000 5 = none ∧ spSt.sp.st.exc = false
    ∧ (⟨1, 1, 31, 0⟩ : FmtX).sa.toNat * 32 + (⟨1, 1, 31, 0⟩ : FmtX).sb.toNat = 63 ∧ (⟨1, 2, 11, 0⟩ : FmtX).sa.toNat * 32 + 11 = 75 :=
  ⟨⟨⟨rfl, rfl, rfl, rfl, rfl⟩, rfl⟩, rfl, rfl, rfl, rfl, rfl, ⟨_, rfl⟩, rfl, rfl, rfl, rfl⟩
theorem test_sbout : exec (.sbout .safety ⟨2, 2, 0, 0⟩) sbSt = sbSt.endsIn .safety (sbSt.setImgSb 64 2) 4 := by rfl
theorem test_iold_wait : after (exec (.iold .safety ⟨1, 0, 0x20008⟩) waitSt) (fun t => t.sp.run == .waitRead 1 0x300020) = true := by decide +kernel

/-- The runtime's code ends at 0x1000, pc is 0xFFC or 0x1000, and the window holds a slot of queue 80 reserved. -/
def winSt (pc : Word) : State :=
  { spWith (fun c => { c with pc := pc, rtend := 0x1000, rtendSet := true, g := [(2, 0x200A4000), (3, 0x30000000)] }) with
    queues := [(80, { slots := [⟨0, .reserved 4⟩], next := 1 })] }

theorem wit_FabricWindow : (winSt 0xFFC).runs .safety mS ∧ (winSt 0xFFC).sp.pc.toNat < (winSt 0xFFC).sp.rtend.toNat
    ∧ ((winSt 0xFFC).busRead 4 0x30000000 4).2.1 = stOk ∧ (winSt 0xFFC).winWritable 0x200A4000 = true
    ∧ ((winSt 0xFFC).busWrite 4 0x200A4000 4 7).2 = stOk ∧ (winSt 0xFFC).winWritable 0x200A5000 = false
    ∧ ((winSt 0xFFC).busRead 4 0x18000000 4).2.1 ≠ stOk
    ∧ (winSt 0x1000).runs .safety mS ∧ (winSt 0x1000).sp.rtend.toNat ≤ (winSt 0x1000).sp.pc.toNat ∧ (winSt 0x1000).sp.st.exc = false :=
  ⟨⟨⟨rfl, rfl, rfl, rfl, rfl⟩, rfl⟩, by decide, rfl, rfl, rfl, rfl, by decide, ⟨⟨rfl, rfl, rfl, rfl, rfl⟩, rfl⟩, by decide, rfl⟩
theorem wit_AtomicResults : (acAt 0x200FFFFC).runs (.ac 0) mKU ∧ (⟨1, 2, 3, 0⟩ : FmtR).aux = 0 ∧ ((acAt 0x200FFFFC).gr (.ac 0) 2).toNat % 4 = 0
    ∧ (acAt 0x200FFFFC).sound 0x200FFFFC ∧ (acAt 0x200FFFFC).revoked 0 = false ∧ BitVec.ofNat 32 ((acAt 0x200FFFFC).num 0x200FFFFC 4) = 0
    ∧ (acAt 0x200FFFFC).tagFree 0 = true ∧ (askSt 32).tagFree 0 = false ∧ (askSt 32).runs (.ac 0) mKU ∧ (badSt.busRead 0 0x2000 4).2.1 ≠ stOk
    ∧ (acAt 0x200FFFFC).gr (.ac 0) 1 = 0 ∧ (acAt 0x200FFFFC).gr (.ac 0) 2 ≠ 0 ∧ regionOf 0x10000000 ≠ .work ∧ regionOf 0x10000000 ≠ .sram
    ∧ (acAt 0x10000000).ac0.st.exc = false :=
  ⟨⟨⟨rfl, rfl, rfl, rfl, rfl⟩, rfl⟩, rfl, rfl, ⟨rfl, rfl⟩, rfl, rfl, by decide, by decide, ⟨⟨rfl, rfl, rfl, rfl, rfl⟩, rfl⟩, by decide, rfl, by decide,
    by decide, by decide, rfl⟩
theorem test_amoadd : ∃ t, exec (.amoadd (.ac 0) ⟨1, 2, 2, 0⟩) (acAt 0x200FFFFC) = .next t ∧ t.byte 0x200FFFFF = 0x20 ∧ t.gr (.ac 0) 1 = 0 :=
  ⟨_, rfl, rfl, rfl⟩

/-- Session 0 transmits and session 511 receives; g2 is the last address that fits 16 bytes. -/
def sesSt : State := { spAt 0x13FFF0 with ses := { State.reset.ses with
  tab := [(0, { cfgA := true, tx := true }), (511, { cfgA := true })] } }

theorem wit_SessionInstructions : sesSt.runs .safety mS ∧ (⟨2, 0, 511⟩ : FmtS).ra = 0 ∧ (⟨2, 0, 511⟩ : FmtS).imm.toNat < 512
    ∧ (sesSt.gr .safety 2).toNat % 4 = 0 ∧ 0x100000 ≤ (sesSt.gr .safety 2).toNat ∧ (sesSt.gr .safety 2).toNat + 15 < 0x140000
    ∧ (sesSt.sess 0).cfgA = true ∧ (sesSt.sess 0).tx = true ∧ (sesSt.sess 511).cfgA = true ∧ (sesSt.sess 511).tx = false
    ∧ (sesSt.sess 1).cfgA = false ∧ sesSt.sp.st.exc = false := ⟨⟨⟨rfl, rfl, rfl, rfl, rfl⟩, rfl⟩, by decide⟩
theorem wit_SystemInstructions : acSt.runs (.ac 0) mSKU ∧ acSt.runs (.ac 0) mSK ∧ acSt.runs (.ac 0) mK ∧ spSt.runs .safety mS
    ∧ acSt.storesPending 0 = false ∧ (acWith (fun c => { c with posted := [(2, 0x2000)] })).storesPending 0 = true
    ∧ (acWith (fun c => { c with posted := [(2, 0x2000)] })).runs (.ac 0) mSKU
    ∧ State.specialOk (.ac 0) 7 = true ∧ State.specialOk .safety 8 = true ∧ spSt.sp.rtendSet = false
    ∧ (winSt 0xFFC).sp.pc.toNat < (winSt 0xFFC).sp.rtend.toNat ∧ (winSt 0x1000).sp.rtend.toNat ≤ (winSt 0x1000).sp.pc.toNat
    ∧ (winSt 0x1000).sp.st.mode = 2 ∧ (winSt 0x1000).sp.st.exc = false :=
  ⟨⟨⟨rfl, rfl, rfl, rfl, rfl⟩, rfl⟩, ⟨⟨rfl, rfl, rfl, rfl, rfl⟩, rfl⟩, ⟨⟨rfl, rfl, rfl, rfl, rfl⟩, rfl⟩, ⟨⟨rfl, rfl, rfl, rfl, rfl⟩, rfl⟩, rfl, rfl, ⟨⟨rfl, rfl, rfl, rfl, rfl⟩, rfl⟩, by decide⟩
theorem test_rtend_first : after (exec (.mtsr .safety ⟨0, 2, 0, 8⟩) (spAt 0x1000)) (fun t => t.sp.rtend == 0x1000) = true := by decide +kernel
theorem test_rtend_twice : after (exec (.mtsr .safety ⟨0, 0, 0, 8⟩) (winSt 0xFFC)) (fun t => t.sp.rtend == 0x1000 && t.sp.st.v) = true := by
  decide +kernel

theorem wit_ExceptionEntry : ({ code := 255, detail := 65535, eval := 0 } : Exc).code < 256
    ∧ ({ code := 255, detail := 65535, eval := 0 } : Exc).detail < 65536 := by decide

/-- A handler runs; the debugger has core 0 selected. -/
def excSt : State := acWith (fun c => { c with st := { mode := 1, exc := true } })
def dbgSt : State := { acSt with dbg := { State.reset.dbg with sel := some 0 } }

theorem wit_TrapAndBreak : acSt.runs (.ac 0) mKU ∧ acSt.ac0.st.exc = false ∧ excSt.runs (.ac 0) mKU ∧ excSt.ac0.st.exc = true
    ∧ acSt.runs (.ac 0) mSKU ∧ acSt.dbg.sel = none ∧ dbgSt.runs (.ac 0) mSKU ∧ dbgSt.dbg.sel ≠ none ∧ dbgSt.haltAllowed (.ac 0) = true
    ∧ dbgSt.ac0.loops = [] :=
  ⟨⟨⟨rfl, rfl, rfl, rfl, rfl⟩, rfl⟩, rfl, ⟨⟨rfl, rfl, rfl, rfl, rfl⟩, rfl⟩, rfl, ⟨⟨rfl, rfl, rfl, rfl, rfl⟩, rfl⟩, rfl, ⟨⟨rfl, rfl, rfl, rfl, rfl⟩, rfl⟩, by decide, by decide, rfl⟩
theorem test_trap : ∃ t, exec (.trap (.ac 0) ⟨0, 0, 0, 255⟩) acSt = .next t ∧ t.ac0.epc = 0x1004 ∧ t.ac0.ecause = 0xFF0008 ∧ t.ac0.pc = 0 :=
  ⟨_, rfl, rfl, rfl, rfl⟩
theorem wit_ReturnFromException : acSt.runs (.ac 0) mK ∧ (0x10 : Word).toNat / 16 % 4 < 2 ∧ (0x2000 : Word).toNat % 4 = 0
    ∧ (0x2002 : Word).toNat % 4 ≠ 0 ∧ (0x1F : Word).toNat / 16 % 4 = 1 ∧ 2 ≤ (0x20 : Word).toNat / 16 % 4 ∧ acSt.ac0.st.exc = false := ⟨⟨⟨rfl, rfl, rfl, rfl, rfl⟩, rfl⟩, by decide⟩
theorem test_rfe : ∃ t, exec (.rfe (.ac 0) ⟨0, 0, 0, 0⟩) (acWith (fun c => { c with epc := 0x2000, est := 0x41, st := { mode := 1, exc := true } }))
    = .next t ∧ t.ac0.pc = 0x2000 ∧ t.ac0.st.mode = 0 ∧ t.ac0.st.ie = true ∧ t.ac0.st.z = true ∧ t.ac0.st.exc = false :=
  ⟨_, rfl, rfl, rfl, rfl, rfl, rfl⟩
theorem wit_ModeChecks : userSt.ac0.run = .running ∧ userSt.ac0.stepping = false ∧ userSt.fetch (.ac 0) = (userSt, none)
    ∧ userSt.ac0.st.mode = 0 ∧ userSt.ac0.st.exc = false ∧ spSt.fetch .safety = (spSt, none) ∧ spSt.sp.st.mode = 2 ∧ spSt.sp.st.exc = false
    ∧ (spWith (fun c => { c with st := { mode := 2, exc := true } })).sp.st.exc = true ∧ (⟨1, 2, 3, 1⟩ : FmtR).aux ≠ 0 :=
  ⟨rfl, rfl, rfl, rfl, rfl, rfl, rfl, rfl, rfl, by decide⟩

/-- Core 0 takes interrupts, and number 63 is pending; a posted store of it was refused, and the refusal has arrived; a breakpoint
stands at its pc. -/
def irqSt : State := acWith (fun c => { c with st := { mode := 1, ie := true }, irq := 0x8000000000000000 })
def postedSt : State := acWith (fun c => { c with posted := [(2, 0x2000)] })
def dueSt : State := acWith (fun c => { c with due := [(2, 0x2000)] })
def bpSt : State := { acSt with dbg := { State.reset.dbg with bps := [(3, some 0x1000)] } }

theorem wit_AsynchronousEvents : irqSt.ac0.run = .running ∧ irqSt.ac0.st.ie = true ∧ irqSt.ac0.st.exc = false ∧ irqSt.ac0.stepping = false
    ∧ irqSt.ac0.due = [] ∧ irqSt.ac0.killDue = false ∧ irqSt.irqPending 0 63 = true ∧ (∀ m, m < 63 → irqSt.irqPending 0 m = false)
    ∧ postedSt.ac0.run = .running ∧ postedSt.ac0.due = [] ∧ postedSt.ac0.posted = (stError, 0x2000) :: []
    ∧ (acWith (fun c => { c with posted := [(5, 0)], run := .waitRemote 1 0 })).ac0.run = .waitRemote 1 0
    ∧ dueSt.ac0.run = .running ∧ dueSt.ac0.killDue = false ∧ dueSt.ac0.posted = [] ∧ dueSt.ac0.due ≠ []
    ∧ look none bpSt.dbg.bps (4 * 0 + 3) = some bpSt.ac0.pc ∧ bpSt.ac0.run = .running ∧ bpSt.haltAllowed (.ac 0) = true
    ∧ bpSt.ac0.past ≠ some bpSt.ac0.pc ∧ bpSt.ac0.killDue = false ∧ bpSt.ac0.due = [] ∧ bpSt.ac0.st.ie = false := by decide +kernel
theorem wit_AsynchronousEvents_past (s : State) (h : s = { bpSt with ac0 := { bpSt.ac0 with past := some 0x1000 } })
    (u : State) (g : u = s.setCpu (.ac 0) { s.cpu (.ac 0) with past := none }) : (s.cpu (.ac 0)).run = .running ∧ s.firstDue (.ac 0) = none
    ∧ u.fetch (.ac 0) = (u, none) ∧ (s.cpu (.ac 0)).st.mode.toNat < 3 := by subst g h; exact ⟨rfl, rfl, rfl, by decide⟩
theorem test_posted_first : after (exec (.nop (.ac 0) ⟨0, 0, 0, 0⟩) dueSt) (fun t => t.ac0.ecause == 0x20105 && t.ac0.eval == 0x2000 && t.ac0.due == []) = true := by
  decide +kernel
theorem test_interrupt : ∃ t, exec (.interrupt 0 63) irqSt = .next t ∧ t.ac0.pc = 0x100 ∧ t.ac0.ecause = 0x3F0010 ∧ t.ac0.irq = 0 :=
  ⟨_, rfl, rfl, rfl, rfl⟩

/-- Core 0 runs context 5; context 63 is HELD; g2 = 63, g3 an attribute that R132 allows, with every reserved bit 1; g4 names a
queue of the core. -/
def taskSt : State :=
  { acWith (fun c => { c with task := some 5, g := [(2, 63), (3, 0xFFFFFFFA), (4, 84), (5, 7), (6, 64), (7, 5)] }) with
    ctxs := [(5, { state := .running }), (62, { state := .waiting, waitQ := 84 }), (63, { state := .held })]
    regs := [(queB + 0x1008 + 16 * 84, 0)] }

theorem wit_TaskInstructions : taskSt.runs (.ac 0) mK ∧ (taskSt.ctx 0).state = .free ∧ (taskSt.ctx 63).state = .held
    ∧ (taskSt.ctx 5).state ≠ .held ∧ (taskSt.ctx 5).state = .running ∧ (taskSt.core 0).task = some 5 ∧ (taskSt.core 0).task ≠ some 63
    ∧ (let v := taskSt.gr (.ac 0) 3; v.toNat % 8 ≠ 0 ∧ v.toNat % 8 ≤ 4 ∧ v.toNat / 256 % 16 ≠ 0)
    ∧ ¬ (let v := taskSt.gr (.ac 0) 5; v.toNat % 8 ≠ 0 ∧ v.toNat % 8 ≤ 4 ∧ v.toNat / 256 % 16 ≠ 0)
    ∧ taskSt.ctxField 63 0x1F = some 0 ∧ 64 ≤ (taskSt.gr (.ac 0) 6).toNat ∧ taskSt.ac0.st.exc = false :=
  ⟨⟨⟨rfl, rfl, rfl, rfl, rfl⟩, rfl⟩, rfl, rfl, by decide, rfl, rfl, by decide, by decide, by decide, rfl, by decide, rfl⟩

/-- Every context is HELD. -/
def fullSt : State := { taskSt with ctxs := (List.range 64).map (fun x => (x, { state := .held })) }

theorem wit_TaskInstructions_full : fullSt.runs (.ac 0) mK ∧ ∀ y, y < 64 → (fullSt.ctx y).state ≠ .free := ⟨⟨⟨rfl, rfl, rfl, rfl, rfl⟩, rfl⟩, by decide⟩
theorem wit_TaskSwitches : taskSt.runs (.ac 0) mKU ∧ (taskSt.core 0).task = some 5 ∧ taskSt.qOwned 84 = true ∧ taskSt.qOwner 84 = 0
    ∧ taskSt.qAvail 84 = false ∧ (84 : Nat) < 128 ∧ (taskSt.ctx 62).state = .waiting ∧ (taskSt.ctx 5).state ≠ .waiting
    ∧ ({ taskSt with queues := [(84, { slots := [⟨0, .published⟩], next := 1 })] } : State).qAvail 84 = true :=
  ⟨⟨⟨rfl, rfl, rfl, rfl, rfl⟩, rfl⟩, rfl, by decide, by decide, by decide, by decide, rfl, by decide, by decide⟩
theorem test_tkill_self : ∃ t, exec (.tkill (.ac 0) ⟨0, 7, 0, 0⟩) taskSt = .next t ∧ (t.ctx 5).state = .free ∧ t.ac0.task = none :=
  ⟨_, rfl, rfl, rfl⟩

/-! ### Hypotheses met: modes, faults, the cycle -/

theorem wit_SupplyTransitions : (inMode .off).md.mode = .off ∧ (inMode .reset).md.mode ≠ .off
    ∧ ((inMode .start).md.mode ≠ .off ∧ (inMode .start).md.mode = .start) ∧ (inMode .idle).md.mode ≠ .start
    ∧ (inMode .verify).md.mode ≠ .holdup ∧ (inMode .holdup).md.mode = .holdup ∧ (inMode .holdup).md.flushed = false
    ∧ (inMode .holdup).md.powerValid = false
    ∧ (∃ s : State, s.md.mode = .holdup ∧ s.md.flushed = true) ∧ (∃ s : State, s.md.mode = .holdup ∧ s.md.flushed = false ∧ s.md.powerValid = true) :=
  ⟨rfl, by decide, ⟨by decide, rfl⟩, by decide, by decide, rfl, rfl, rfl,
    ⟨{ State.reset with md := { State.reset.md with mode := .holdup, flushed := true } }, rfl, rfl⟩,
    ⟨{ State.reset with md := { State.reset.md with mode := .holdup, powerValid := true } }, rfl, rfl, rfl⟩⟩
theorem test_power_up : ∃ t, exec .powerUp (inMode .off) = .next t ∧ t.md.mode = .reset ∧ t.md.prev = .off := ⟨_, rfl, rfl, rfl⟩
theorem test_holdup : ∃ t, exec .holdupEntry (inMode .run) = .next t ∧ t.md.mode = .holdup ∧ t.md.cause = 0x30 ∧ t.md.holds = 1 :=
  ⟨_, rfl, rfl, rfl, rfl⟩

/-- A power-on run without a failure. -/
def post : PostEnv := { failed := 0, onFail := 0, phyFail := 0, loopFail := 0, time := 100, capLow := false }
/-- The device in START with both regions locked; in VERIFY with fields of its mode controller changed. -/
def startSt : State := { inMode .start with otp := { State.reset.otp with rst := [(0, 2), (1, 2)] } }
def verify (f : ModeSt → ModeSt) : State := { State.reset with md := f { State.reset.md with mode := .verify } }

theorem wit_StartSequence : (inMode .reset).md.mode = .reset ∧ (inMode .start).md.mode = .start ∧ ({ post with failed := 0x200 } : PostEnv).failed.getLsbD 9 = true
    ∧ ({ post with onFail := 0x800 } : PostEnv).onFail ≠ 0 ∧ post.onFail = 0 ∧ (∀ i, i < 10 → i ≠ 8 → ({ post with failed := 0x100 } : PostEnv).failed.getLsbD i = false)
    ∧ (inMode .start).isLocked 0 = false ∧ startSt.isLocked 0 = true ∧ startSt.isLocked 1 = true := by decide
theorem wit_StartSequence_decision (s : State) (h : s = verify id) : s.md.mode = .verify ∧ s.md.decision = none
    ∧ (s.md.pairOk = true → s.md.loaderRan = true) ∧ s.md.firmwareOk = false ∧ s.md.latch = false ∧ s.md.startC3 = false
    ∧ s.md.pairOk = false ∧ s.md.vholdCharged = false := by subst h; decide
theorem wit_StartSequence_pairs : (verify (fun m => { m with firmwareOk := true, latch := true })).md.latch = true
    ∧ (verify (fun m => { m with firmwareOk := true, startC3 := true })).md.startC3 = true
    ∧ (verify (fun m => { m with firmwareOk := true, vholdCharged := true })).md.vholdCharged = true
    ∧ (verify (fun m => { m with firmwareOk := true, pairOk := true, loaderRan := true, vholdCharged := true })).md.pairOk = true
    ∧ (verify (fun m => { m with firmwareOk := true, pairOk := true, loaderRan := true, vholdCharged := true })).lc ≠ 3
    ∧ (verify (fun m => { m with decision := some (.idle, 0x21) })).md.decision = some (.idle, 0x21) ∧ Mode.idle ≠ .off
    ∧ (verify (fun m => { m with decision := some (.lockout, 0x33), startC3 := true })).md.decision = some (.lockout, 0x33)
    ∧ (verify (fun m => { m with decision := some (.idle, 0x21) })).md.vholdCharged = false ∧ Mode.idle ≠ .reset ∧ Mode.idle ≠ .lockout
    ∧ ((verify (fun m => { m with decision := some (.idle, 0x21) })).src 85).rail = .ok
    ∧ (inMode .idle).md.mode ≠ .verify := by decide

/-- The parameter image of slot 1 is released. -/
def releasedSt : State := { verify (fun m => { m with pairOk := true }) with tru := { State.reset.tru with slots := [(3, some 1)] } }

theorem wit_StartSequence_loader : releasedSt.md.mode = .verify ∧ releasedSt.md.loaderRan = false ∧ releasedSt.md.pairOk = true
    ∧ ∃ a len, releasedSt.released 1 = some (a, len) := ⟨rfl, rfl, rfl, _, _, rfl⟩
theorem test_no_firmware : ∃ t, exec .modeDecision (verify id) = .next t ∧ t.md.mode = .lockout ∧ t.md.cause = 0x33 := ⟨_, rfl, rfl, rfl⟩

/-- Fault source n shows Fault and its raise waits, with mode m; or stands in a state. -/
def raisedSt (m : Mode) (n : Nat) (d : BitVec 16) : State :=
  { inMode m with flt := { State.reset.flt with srcs := [(n, { rail := .fault })], raised := [⟨n, d, 0⟩] } }
def srcSt (m : Mode) (n : Nat) (v : Src) : State := { inMode m with flt := { State.reset.flt with srcs := [(n, v)] } }

theorem wit_HardwareFaults : (inMode .run).md.mode ≠ .off ∧ ((inMode .run).src 80).rail = .ok ∧ ((raisedSt .run 84 0).src 84).rail ≠ .ok := by
  decide
theorem no_window (m : Mode) (n k : Nat) (d : BitVec 16) : (raisedSt m n d).windowEnd k = none := by
  have h : ((raisedSt m n d).src k).st = .ok := by
    simp only [State.src, raisedSt, inMode, look]
    split
    · rfl
    · split <;> rfl
  simp [State.windowEnd, h]
theorem wit_FaultReactions : State.takeRaised 83 (raisedSt .run 83 7).flt.raised = some (⟨83, 7, 0⟩, []) ∧ (srcDefault 83).isSome = true
    ∧ ((raisedSt .run 83 7).src 83).st = .ok ∧ 60 ≤ 83 ∧ (83 : BitVec 8) ≠ 12 ∧ (raisedSt .run 83 7).md.mode = .run
    ∧ (∀ r ∈ (raisedSt .run 83 7).flt.raised, r.time = 0 → 83 ≤ r.src)
    ∧ (raisedSt .commission 31 7).md.mode = .commission
    ∧ 2 ≤ (raisedSt .run 83 7).recoveredAs 83 ((raisedSt .run 83 7).matEnt 83).cls
    ∧ (raisedSt .run 26 7).recoveredAs 26 ((raisedSt .run 26 7).matEnt 26).cls < 2 ∧ (srcDefault 26).isSome = true ∧ 26 < 32
    ∧ (raisedSt .run 26 7).flt.raised = [⟨26, 7, 0⟩] := by decide
theorem wit_FaultReactions_windows : ∀ k x, (raisedSt .run 83 7).windowEnd k = some x → (raisedSt .run 83 7).now < x := by
  intro k x h; rw [no_window] at h; cases h
theorem test_fault_react : after (exec (.faultReceipt 83 false 7) (raisedSt .run 83 7)) (fun t => t.md.mode == .react && t.md.cause == 0x10
    && t.md.returnMode == .run) = true := by decide +kernel
theorem wit_SourcesAndReactionEnds : ((srcSt .lockout 80 { rail := .fault, st := .fault }).src 80).st = .fault
    ∧ (srcSt .lockout 80 { rail := .fault, st := .fault }).md.mode = .lockout
    ∧ (srcSt .react 80 { rail := .fault, st := .fault, causing := true }).standing 80 = false
    ∧ (srcSt .quiet 80 { st := .clearing, causing := true }).windowEnd 80 = some 200000000
    ∧ (srcSt .react 80 { st := .clearing, causing := true, cls := 2 }).mustLock = false
    ∧ (srcSt .react 81 { st := .fault, causing := true, cls := 3 }).mustLock = true
    ∧ (inMode .idle).md.mode ≠ .react := by decide
theorem wit_SourcesAndReactionEnds_window (s : State) (h : s = { srcSt .quiet 80 { st := .clearing, causing := true } with
      tmr := { State.reset.tmr with tb := 200000000 } }) : s.md.mode = .quiet ∧ s.windowEnd 80 = some 200000000 ∧ 200000000 ≤ s.now := by
  subst h; decide
theorem wit_SourcesAndReactionEnds_line : ((srcSt .lockout 80 { rail := .fault, st := .fault, zline := true }).src 80).zline = true
    ∧ ((srcSt .lockout 80 { rail := .fault, st := .fault }).src 80).causing = false ∧ (srcSt .react 80 {}).md.latch = false := by decide

theorem wit_ModeRequests : (inMode .run).revoked 9 = false ∧ (inMode .run).md.reqState ≠ 1 ∧ (inMode .quiet).md.mode = .quiet
    ∧ (inMode .service).md.mode = .service ∧ (inMode .commission).hasAuth 1 = false ∧ (inMode .commission).coincides = false
    ∧ ({ inMode .lockout with tru := { State.reset.tru with auth := some ⟨1, 0, 5⟩ } } : State).hasAuth 1 = true
    ∧ (raisedSt .idle 26 0).coincides = true ∧ (inMode .holdup).md.mode = .holdup ∧ (inMode .run).zonesStopped = true
    ∧ ({ inMode .run with regs := [(sysB + 0x10C, 2)] } : State).zonesStopped = false
    ∧ ({ State.reset with md := { State.reset.md with reqState := 1 } } : State).md.reqState = 1 := by decide

/-- COMMISSION with zones 0 and 15 in use; a running release of zone 3. -/
def comSt : State := { inMode .commission with chA := { State.reset.chA with tcm := [(0x10800E, 0x01), (0x10800F, 0x80)] } }
def relSt : State := { comSt with md := { comSt.md with trel := some (3, 12000000000) } }

theorem wit_TestReleases : (0x5A00000F : Word).toNat / 2 ^ 24 = 0x5A ∧ (0x5A00000F : Word).toNat % 2 ^ 24 / 64 = 0
    ∧ (0x5A00000F : Word).getLsbD 5 = false ∧ comSt.md.mode = .commission ∧ comSt.md.trel = none ∧ comSt.md.trelStart = none
    ∧ comSt.zuseA.testBit ((0x5A00000F : Word).toNat % 16) = true ∧ comSt.coincides = false ∧ relSt.md.trel ≠ none
    ∧ comSt.zuseA.testBit 7 = false ∧ (raisedSt .commission 26 0).coincides = true
    ∧ ((5 : Fin 10) = 5 ∨ (5 : Fin 10) = 6) ∧ ((0 : Fin 10).val < 4 ∧ (comSt.core 0).st.mode = 1)
    ∧ ¬ (((9 : Fin 10).val < 4 ∧ (comSt.core 9).st.mode = 1) ∨ (9 : Fin 10) = 5 ∨ (9 : Fin 10) = 6)
    ∧ ¬ (((0 : Fin 10).val < 4 ∧ (userSt.core 0).st.mode = 1) ∨ (0 : Fin 10) = 5 ∨ (0 : Fin 10) = 6)
    ∧ (inMode .run).md.mode ≠ .commission ∧ (0x5900000F : Word).toNat / 2 ^ 24 ≠ 0x5A ∧ comSt.revoked 0 = false := by decide
theorem wit_CollectorCommands : State.reset.revoked 9 = false ∧ (0x8000 : Word).getLsbD 15 = true ∧ (0x3EF : Word).getLsbD 9 = true
    ∧ (0x7FFF : Word).getLsbD 15 = false ∧ (State.reset.src 239).st = .ok ∧ ((srcSt .run 224 { rail := .fault, st := .clearing }).src 224).st = .clearing := by
  decide
theorem test_revoke_set : after (exec (.revokeSet 6 0x3EF) State.reset) (fun t => t.flt.revoked == 0x3AF && t.resp.status == stIgnored) = true := by decide +kernel

/-- What channel A's strobe shows. -/
def strobe : StrobeEnv := { rev := 0, rb := 0, mid := 0, bdrop := 0, crcOk := true, rc := 125000 }
def strobeB : StrobeEnvB := { rev := 0, rb := 0, mid := 0, bdrop := 0, encs := [], evalT := 0, refcnt := 0 }
/-- IDLE with the PLL locked and WC0 loaded; the safety processor waits in CYCEND. -/
def cycSt : State :=
  { inMode .idle with
    sp := { Cpu.resetSafety with run := .waitStrobe, pc := 0x200, rets := [0x40], g := [(1, 7)] }
    tmr := { State.reset.tmr with lock := true, wcs := [(0, { nextV := 0, armed := true })], cycLen := 25000 } }

theorem wit_CycleStrobe : cycSt.cycles = true ∧ cycSt.tmr.lock = true ∧ (cycSt.wc 0).armed = true ∧ cycSt.sp.run = .waitStrobe
    ∧ (inMode .verify).cycles = false ∧ (inMode .idle).tmr.lock = false ∧ ((inMode .idle).wc 0).armed = false := by decide
theorem test_strobe_resumes : after (exec (.cycleStrobe strobe) cycSt) (fun t => t.sp.run == .running && t.sp.pc == 0x40 && t.sp.rets == []
    && t.sp.r 1 == 7) = true := by decide +kernel
/-- Channel A's strobe has been seen at rc RC periods, the window reaches from 100000 to 150000, and a col slot is open. -/
def slotSt (rc : BitVec 32) : State :=
  { cycSt with
    col := { cycSt.col with aSeen := true, hint := some rc, slotOpen := true }
    lat := { cycSt.lat with winLo := 100000, winHi := 150000 } }

theorem wit_ChannelB : cycSt.cycles = true ∧ (slotSt 100000).cycles = true ∧ (slotSt 100000).col.hint = some 100000
    ∧ (slotSt 100000).lat.winLo ≤ (100000 : BitVec 32).toNat ∧ (slotSt 149999).col.hint = some 149999
    ∧ (149999 : BitVec 32).toNat < (slotSt 149999).lat.winHi ∧ (slotSt 150000).lat.winHi ≤ (150000 : BitVec 32).toNat
    ∧ (99999 : BitVec 32).toNat < (slotSt 99999).lat.winLo ∧ cycSt.col.hint = none
    ∧ (slotSt 100000).col.slotOpen = true ∧ cycSt.col.slotOpen = false ∧ cycSt.col.aSeen = false
    ∧ ({ cycSt with chA := { cycSt.chA with seenMode := some 6 } } : State).chA.seenMode.isSome = true := by decide

/-- The safety processor runs with channel A's working state changed. -/
def chSt (f : ChanA → ChanA) : State := { spSt with chA := f spSt.chA }

theorem wit_RuntimeWrites : spSt.sp.run = .running ∧ spSt.sp.st.exc = false ∧ spSt.chA.published = false
    ∧ (spWith (fun c => { c with st := { mode := 2, exc := true } })).sp.st.exc = true
    ∧ (chSt (fun c => { c with phase := .allOff })).chA.phase = .allOff
    ∧ (chSt (fun c => { c with phase := .program })).chA.phase = .program ∧ spSt.sp.rets = []
    ∧ (chSt (fun c => { c with phase := .allOff, published := true })).chA.published = true
    ∧ spSt.chA.cycsetLock = false ∧ (4 : Word).toNat ≤ 4 ∧ 4 < (5 : Word).toNat ∧ (chSt (fun c => { c with cycsetLock := true })).chA.cycsetLock = true
    ∧ (3 : Word).toNat = spSt.cycCode ∧ (4 : Word).toNat ≠ spSt.cycCode
    ∧ spSt.chA.entryNow = false ∧ (chSt (fun c => { c with entryNow := true })).chA.entryNow = true
    ∧ (chSt (fun c => { c with restoring := true })).chA.restoring = true ∧ (0x3F : BitVec 6).getLsbD 4 = true ∧ (0x3F : BitVec 6).getLsbD 5 = true := by
  decide
theorem test_cycset : after (exec (.cycset 4) { spSt with
    md := { spSt.md with tcycValid := true, tcyc := 4 }
    tmr := { State.reset.tmr with tb := 400001 } }) (fun t => (t.wc 0).nextV == 1200000) = true := by decide +kernel

/-! ### Hypotheses met: register conventions -/

/-- Pending writes: TC0 and TC1 both claim TIO pin 5 (group 0), and a limit of the governor (group 5). -/
def clashSt : State := { State.reset with conv := { State.reset.conv with
  shadow := [(govB + 0x10, some 0x40), (tmrB + 0x104, some 0x15), (tmrB + 0x144, some 0x15)] } }
/-- A commit of the collector's group 7 is in progress. -/
def applySt : State :=
  { State.reset with
    conv := { State.reset.conv with shadow := [(fltB + 0x80, some 3)], cstate := 1, cmask := 0x80, held := 0x80 }
    tmr := { State.reset.tmr with lock := true } }

theorem wit_CommitStarts : clashSt.revoked 3 = false ∧ applySt.conv.cstate = 1 ∧ clashSt.conv.cstate ≠ 1 ∧ (0x100 : Word).toNat % 256 = 0
    ∧ (0x20 : Word).toNat % 256 ≠ 0 ∧ clashSt.firstConflict ((0x20 : Word).toNat % 256) = 0
    ∧ (1 : Word).toNat % 256 ≠ 0 ∧ clashSt.firstConflict ((1 : Word).toNat % 256) ≠ 0 := by decide
theorem test_conflict : ∃ t, exec (.commit 3 0xFF) clashSt = .next t ∧ t.reg (sysB + 0x20) = 0x511 ∧ t.conv.cstate = 3 := ⟨_, rfl, rfl, rfl⟩
theorem wit_DiscardAndReset : clashSt.revoked 0 = false ∧ clashSt.conv.cstate ≠ 1 ∧ (0xFF : Word).toNat % 256 ≠ 0
    ∧ clashSt.firstConflict ((0xFF : Word).toNat % 256) ≠ 0 ∧ (tmrB + 0x104, some 0x15) ∈ clashSt.conv.shadow
    ∧ groupAt (tmrB + 0x104) = some 0 := by decide
theorem wit_CommitsAndSnapshots : applySt.conv.cstate = 1 ∧ applySt.allHeld = true ∧ applySt.tmr.lock = true ∧ applySt.conv.heldBack = []
    ∧ applySt.conv.cmask = 0x80 ∧ applySt.conv.cmask < 256
    ∧ ({ applySt with conv := { applySt.conv with held := 0 } } : State).allHeld = false
    ∧ applySt.committing 1 = true ∧ tabWf none applySt.conv.shadow = true ∧ look none applySt.conv.shadow (fltB + 0x80) = some 3 ∧ groupAt (fltB + 0x80) = some 7
    ∧ State.reset.conv.cstate ≠ 1 ∧ State.reset.conv.snapBusy = false ∧ State.reset.revoked 9 = false ∧ (1 : Word).getLsbD 0 = true
    ∧ ({ applySt with conv := { applySt.conv with snapBusy := true } } : State).conv.snapBusy = true := by decide
theorem test_apply : after (exec .commitApply applySt) (fun t => t.reg (fltB + 0x80) == 3 && t.conv.shadow == [] && t.conv.ccount == 1) = true := by decide +kernel
theorem wit_TimeBaseLatch : State.reset.revoked 9 = false ∧ look none State.reset.conv.tbLatch 9 = none := by decide
theorem test_time_base_latch : ∃ t, exec (.timeBaseLowRead 2) { State.reset with tmr := { State.reset.tmr with tb := 0x700000009 } } = .next t
    ∧ t.resp.data = [9] ∧ (t.regRead 2 (tmrB + 0xC)).2 = (stOk, 7) := ⟨_, rfl, rfl, rfl⟩

theorem wit_RegisterWrites : (0x30010000 : Word).toNat / 0x100000 = 0x300 ∧ (0x300FFFFC : Word).toNat % 4 = 0 ∧ (0x30000002 : Word).toNat % 4 ≠ 0
    ∧ AccessSize.b8 ≠ .b32 ∧ regKind 0 0x200 = none ∧ regKind 15 0x3FFC = none ∧ regKind 1 0 = some .ro ∧ regKind 3 8 = some .rs
    ∧ regKind 5 0x1C = some .wo ∧ regKind 2 0 = some (.w1c 0x17) ∧ State.reset.regLocked 5 0x1C = false
    ∧ regKind 2 0x10 = some (.rwc 0x3FF) ∧ State.reset.regLocked 2 0x10 = false ∧ State.reset.committing 2 = false
    ∧ regKind 2 0x20 = some (.count govB) ∧ (0x30020020 : Word).toNat % 0x10000 / 0x4000 = 0 ∧ (0x3002C010 : Word).toNat % 0x10000 / 0x4000 = 3 := by
  decide
theorem test_alias_set : ∃ t, exec (.registerWrite 0 0x30024010 0x41 .b32) clashSt = .next t
    ∧ look none t.conv.shadow (govB + 0x10) = some 0x41 ∧ t.reg (govB + 0x10) = 0x32 := ⟨_, rfl, rfl, rfl⟩
theorem wit_RevokedMaster : ({ State.reset with flt := { State.reset.flt with revoked := 0x200 } } : State).revoked 9 = true := by decide

/-! ### Hypotheses met: inputs and outputs, rings, timers, loops, general I/O -/

/-- RUN with an image of one test-pulse source TP0 (width 500, period 100) that input 31 (filter 3) names, in both channels. -/
def inSt (mask pulsing : Bool) : State :=
  { State.reset with
    md := { State.reset.md with mode := .run, pairOk := true }
    chA := { State.reset.chA with
      loadProg := true
      tcm := [(0x1080BC, 3), (0x1080BF, 1), (0x1080C0, 0xF4), (0x1080C1, 1), (0x1080C2, 100)] }
    lat := { State.reset.lat with
      loaded := true
      bank0 := [(0x20BC, 3), (0x20BF, 1), (0x20C0, 0xF4), (0x20C1, 1), (0x20C2, 100)] }
    inputs := { State.reset.inputs with
      pcntA := 1
      pcntB := 1
      ins := [(31, { a := { mask := mask }, b := { mask := mask } })]
      tps := [(0, { pulsing := pulsing, ovl := pulsing })] } }

theorem wit_SafetyInputs_filter : (inSt false false).md.mode ≠ .off ∧ (inSt false false).md.mode ≠ .reset ∧ ((inSt true false).inChan true 31).mask = true
    ∧ ((inSt false false).inChan true 31).mask = false ∧ ((inSt false false).inChan true 31).filt.out = false
    ∧ ((inSt false false).spareAt true 31 && (inSt false false).cmpOff) = false
    ∧ ((inSt false false).inChan true 31).filt.run = 0 ∧ 1 ≤ (inSt false false).inFilt true 31 - 2 := by decide +kernel
/-- The spare stands in for input 31 in channel B. -/
def spareSt : State := { inSt false false with inputs := { (inSt false false).inputs with spareIn := 31, spareB := true, sparePh := .standIn } }

theorem wit_SafetyInputs_spare : (spareSt.inChan true 31).mask = false ∧ (spareSt.spareAt true 31 && spareSt.cmpOff) = true
    ∧ (spareSt.spareAt false 31 && spareSt.cmpOff) = false := by decide +kernel
/-- Source 0 is driven low, in the masks of channel A and B as given. -/
def lowSt (a b : Bool) : State := { inSt true true with inputs := { (inSt true true).inputs with
  tps := [(0, { pulsing := true, ovl := true, winA := a, winB := b })] } }

theorem wit_SafetyInputs_windows : ((lowSt true false).tp 0).winA = true ∧ ((lowSt true true).tp 0).winB = true ∧ ((lowSt false true).tp 0).winB = true
    ∧ (((lowSt false false).tp 0).pulsing || ((lowSt false false).tp 0).winA || ((lowSt false false).tp 0).winB) = true
    ∧ (((inSt false false).tp 0).pulsing || ((inSt false false).tp 0).winA || ((inSt false false).tp 0).winB) = false
    ∧ ((inSt false false).unitFires 0 || (inSt false false).tpFires false 0 || (inSt false false).tpFires true 0) = true
    ∧ ((inSt false false).unitFires 7 || (inSt false false).tpFires false 7 || (inSt false false).tpFires true 7) = false
    ∧ (inMode .start).tpModes = false ∧ ({ lowSt true true with inputs := { (lowSt true true).inputs with
        tps := [(0, { ovl := true, retryLow := true })] } } : State).inputs.tps = [(0, { ovl := true, retryLow := true })] := by decide +kernel
theorem wit_SafetyInputs_pulse : (inSt false false).tpModes = true ∧ (inSt false false).tpFires false 0 = true ∧ (inSt false false).tpNamed true 0 = true
    ∧ ((inSt false false).tp 0).pulsing = false ∧ (inSt false false).inSrc false 31 = some 0 ∧ (inSt false false).inSrc true 31 = some 0
    ∧ (inSt false false).tpFires true 0 = true ∧ (inSt false false).tpFires false 7 = false ∧ ((inSt true true).tp 0).pulsing = true
    ∧ (0x7FFFFFFF : BitVec 32).getLsbD 31 = false ∧ (inSt false false).tpHigh 0 = true ∧ (inSt true true).tpHigh 0 = false
    ∧ ((inSt true true).tp 0).ovl = true ∧ ((inSt true true).tp 0).retryLow = false ∧ ((inSt false false).tp 0).ovl = false := by decide +kernel
theorem test_pulse_masks : after (exec (.testPulseStart 0) (inSt false false)) (fun t => (t.inChan false 31).mask && (t.inChan true 31).mask
    && !(t.inChan false 30).mask) = true := by decide +kernel

/-- RUN with output 11 closed by both channels, 15 of its cycles counted, and a test running on it. -/
def outSt (cnt : Word) (test : OutTest) (on : Bool) : State :=
  { inMode .run with
    col := { State.reset.col with cnt := cnt }
    outputs := { State.reset.outputs with outs := [(11, { swA := on, swB := on, dmdA := on, dmdB := on, test := test })] } }

theorem wit_SafetyOutputs : (outSt 184 .none true).offDue 11 = true ∧ (outSt 183 .none true).offDue 11 = false
    ∧ (outSt 184 (.off true) true).testedOut true = some (11, true) ∧ (outSt 184 .none true).testedOut true = none
    ∧ (outSt 176 .none false).onDue 11 = true ∧ (outSt 177 .none false).onDue 11 = false
    ∧ (outSt 176 (.on false) false).testedOut false = some (11, false) ∧ (outSt 176 .none false).testedOut false = none
    ∧ ((outSt 184 (.off true) true).out 11).dmd true = true ∧ (outSt 184 (.off true) true).outModes = true
    ∧ ((outSt 184 (.off true) true).out 11).stayOff = false ∧ (outSt 184 (.off true) true).railOut true = false
    ∧ (({ outSt 184 (.off true) true with outputs := { (outSt 184 (.off true) true).outputs with
        outs := [(11, { stayOff := true, test := .off true })] } } : State).out 11).stayOff = true
    ∧ (outSt 184 (.off true) true).md.badModeB = false ∧ (outSt 184 (.off true) true).outTripped 11 = false
    ∧ ((outSt 184 (.off true) true).out 11).hold true = false ∧ ((outSt 0 .none true).out 11).swA = true ∧ ((outSt 0 .none true).out 11).swB = true
    ∧ ((outSt 0 .none false).out 11).swA = false ∧ ((outSt 0 .none false).out 11).swB = false
    ∧ (outSt 0 .none true).groupOff true = false ∧ (outSt 0 .none true).groupOff false = true := by decide +kernel
theorem test_off_test : after (exec (.offTestStart 11) (outSt 184 .none true)) (fun t => !(t.out 11).swA && (t.out 11).swB) = true := by decide +kernel
theorem test_off_test_fails : after (exec (.offTestTimeout 0 false) (outSt 184 (.off false) true)) (fun t => (t.out 11).holdA
    && (t.src 59).rail == .fault) = true := by decide +kernel

/-- RUN with ring 1 a manager whose ports have link. -/
def ringSt (link mgr : Bool) : State :=
  { inMode .run with
    regs := [(netB + 4, if mgr then 5 else 1)]
    net := { State.reset.net with r1 := { a := { link := link, misses := 2, hits := 2, seen := true }, b := { link := link, hits := 2, seen := true } } } }

/-- A frame of EtherType 0x88B5 with its header. -/
def frame (dst src : List Byte) (hops cls : Byte) : RingFrame := ⟨dst ++ src ++ [0x88, 0xB5, 1, 0, hops, cls] ++ List.replicate 42 0, true, false⟩

/-- Another MAC address than the device's. -/
def otherMac (s : State) : List Byte := 0 :: s.mac.tail.map (fun b => b + 1)

theorem otherMac_ne (s : State) : otherMac s ≠ s.mac := by
  simp [otherMac, State.mac, bytesOfNat]

theorem wit_RingCommands_ports : (ringSt true true).portUp false true = true ∧ (ringSt false true).portUp false true = false
    ∧ (ringSt true true).ringMgr false = true ∧ (ringSt true false).ringMgr false = false ∧ (ringSt true true).ringOn false = true
    ∧ (ringSt true true).bypass = false ∧ (ringSt true true).ringLine false = false ∧ (ringSt true true).etype = 0x88B5
    ∧ (∀ p : Bool, ((ringSt true true).port false p).seen = true ∧ 2 ≤ ((ringSt true true).port false p).hits ∧ ((ringSt true true).port false p).link = true)
    ∧ ((ringSt true true).ring false).mgrDup = false := by decide +kernel
theorem wit_RingCommands_frame (s : State) (h : s = ringSt true false) (f : RingFrame) (g : f = frame (0 :: (otherMac s).tail) (otherMac s) 63 0x7F) :
    f.fragment = false ∧ 60 ≤ f.bytes.length ∧ f.bytes.length ≤ 1514 ∧ natOfBE (sub f.bytes 12 2) = s.etype ∧ s.etype ≠ 0x88F7
    ∧ sub f.bytes 6 6 ≠ s.mac ∧ f.bytes.take 6 ≠ s.mac ∧ (f.bytes.getD 0 0).getLsbD 0 = false ∧ f.bytes.getD 16 0 ≠ 0
    ∧ s.ringMgr false = false ∧ s.portUp false false = true ∧ f.fcsOk = true := by
  subst h g
  have n := otherMac_ne (ringSt true false)
  refine ⟨rfl, by decide +kernel, by decide +kernel, by decide +kernel, by decide +kernel, n, n, by decide +kernel, by decide +kernel, by decide +kernel, by decide +kernel, rfl⟩
theorem wit_RingCommands_own (s : State) (h : s = ringSt true false) (f : RingFrame) (g : f = frame s.mac (otherMac s) 1 0x10) :
    sub f.bytes 6 6 ≠ s.mac ∧ f.bytes.take 6 = s.mac ∧ f.fcsOk = true ∧ f.bytes.getD 16 0 ≠ 0 ∧ 16 ≤ (f.bytes.getD 17 0).toNat
    ∧ (f.bytes.getD 17 0).toNat < 128 ∧ s.revoked 8 = false ∧ s.qFull (s.rxQueue false 1) = false ∧ s.qEn (s.rxQueue false 1) = true := by
  subst h g
  exact ⟨otherMac_ne (ringSt true false), rfl, rfl, by decide +kernel, by decide +kernel, by decide +kernel, by decide +kernel, by decide +kernel,
    by decide +kernel⟩
/-- Two frames wait on port A: one passed on, and one of queue 2. -/
def outRing (d : BitVec 10) : State :=
  { ringSt true true with
    flt := { State.reset.flt with revoked := d }
    net := { (ringSt true true).net with r1 := { (ringSt true true).net.r1 with
      a := { link := true, out := [⟨3, [], false, 0, none⟩, ⟨1, [], false, 2, none⟩] }
      mgrs := [[1], [2]] } } }

theorem wit_RingCommands_egress : ((outRing 0x100).port false false).out ≠ [] ∧ (outRing 0x100).portUp false false = true ∧ (outRing 0x100).revoked 8 = true
    ∧ (∀ q, q < 8 → (outRing 0).qAvail (32 + q) = false) ∧ (outRing 0).conv.cstate ≠ 1 ∧ applySt.conv.cmask.testBit 3 = false
    ∧ 2 ≤ ((outRing 0).ring false).mgrs.length ∧ ((ringSt true true).ring false).mgrs.length < 2 ∧ ((ringSt true true).ring false).mgrFwd = false
    ∧ 2 ≤ ((ringSt true true).port false false).misses ∧ ((ringSt false true).port false true).link = false ∧ ({ inMode .run with regs := [(netB + 8, 4)] } : State).ringOn true = false
    ∧ 10 ≤ ((ringSt true true).recentLosses { link := true, losses := List.replicate 10 5 }).length := by decide +kernel
theorem wit_RingCommands_stamps : ({ ringSt true true with net := { State.reset.net with ts := [⟨9, true, true, 77⟩] } } : State).net.ts
    = ⟨9, true, true, 77⟩ :: [] ∧ (ringSt true true).net.ts = [] := by decide +kernel
theorem test_fragment : after (exec (.ringFrameReceive false true { frame [] [] 0 0 with fragment := true }) (ringSt true false))
    (fun t => t.reg (netB + 0x54) == 1) = true := by decide +kernel

/-- A TC channel 15 with its control register, mode fields in state, and the PLL locked. -/
def tcSt (ctl : Word) (c : TcSt) : State :=
  { inMode .run with
    regs := [(tmrB + 0x4C0, ctl), (tmrB + 0x4D0, 8), (tmrB + 0x4E4, 0x103)]
    tmr := { State.reset.tmr with lock := true, tcs := [(15, c)], wcs := [(3, { nextV := 5, armed := true })] } }

theorem wit_TimerCommands_count : ((tcSt 4 {}).tc 15).stopped = false ∧ (tcSt 4 {}).tmr.lock = true ∧ ((tcSt 4 {}).tc 15).a = false
    ∧ ((tcSt 4 {}).tc 15).skip = false ∧ (tcSt 4 {}).tcMode 15 = 4 ∧ (tcSt 6 {}).tcMode 15 = 6 ∧ (tcSt 5 {}).tcMode 15 = 5
    ∧ ((tcSt 5 {}).reg (State.tcA 15 0)).extractLsb' 5 2 = 0 ∧ ((tcSt 0x30005 {}).reg (State.tcA 15 0)).extractLsb' 16 2 = 3 ∧ 32 ≤ (32 : BitVec 16).toNat
    ∧ (31 : BitVec 16).toNat < 32 ∧ (tcSt 0x86 {}).tcMode 15 = 6 ∧ ((tcSt 0x86 {}).reg (State.tcA 15 0)).getLsbD 7 = true
    ∧ ((tcSt 5 {}).tc 15).b ≠ true ∧ ((tcSt 1 { stopped := true }).tc 15).stopped = true ∧ (inMode .run).tmr.lock = false := by decide +kernel
theorem wit_TimerCommands_ticks : (tcSt 1 { cnt := 0xFFFFFFFF }).tcMode 15 = 1 ∧ ((tcSt 1 {}).tc 15).phase = ((tcSt 1 {}).reg (State.tcA 15 8)).toNat % 65536
    ∧ ((tcSt 1 { cnt := 0xFFFFFFFF }).tc 15).cnt = 0xFFFFFFFF ∧ (tcSt 1 { cnt := 7 }).reg (State.tcA 15 0x10) = ((tcSt 1 { cnt := 7 }).tc 15).cnt + 1
    ∧ ((tcSt 1 { cnt := 7, period := 8 }).tc 15).period.toNat = 8 := by decide +kernel
theorem wit_TimerCommands_captures : ((tcSt 1 {}).reg (State.tcA 15 0x24)).getLsbD 0 = true ∧ ((tcSt 1 {}).reg (State.tcA 15 0x24)).getLsbD 1 = true
    ∧ ((tcSt 1 { caps := List.replicate 7 ⟨5, 0, true⟩ }).tc 15).caps.length < 8 ∧ 8 ≤ ((tcSt 1 { caps := List.replicate 8 ⟨5, 0, true⟩ }).tc 15).caps.length
    ∧ ((tcSt 1 {}).reg (State.tcA 15 0x24)).getLsbD 8 = true ∧ (tcSt 1 {}).qFull (108 + 15) = false ∧ (tcSt 1 {}).qEn (108 + 15) = true
    ∧ ((inMode .run).reg (State.tcA 15 0x24)).getLsbD 8 = false
    ∧ ((tcSt 1 {}).wc 3).armed = true ∧ (tcSt 1 {}).now ≤ ((tcSt 1 {}).wc 3).nextV
    ∧ (({ tcSt 1 {} with tmr := { (tcSt 1 {}).tmr with tb := 6 } } : State).wc 3).nextV < ({ tcSt 1 {} with tmr := { (tcSt 1 {}).tmr with tb := 6 } } : State).now
    ∧ (({ tcSt 1 {} with regs := [(tmrB + 0x560, 1)] } : State).reg (State.wcA 3 0)).getLsbD 0 = true := by decide +kernel
theorem test_count_wraps : after (exec (.tcCountEdge 15 ⟨true, 0⟩ ⟨false, 0⟩) (tcSt 4 { cnt := 0xFFFFFFFF })) (fun t => (t.tc 15).cnt == 0) = true := by decide +kernel
theorem test_tick : after (step (tcSt 1 { cnt := 6 })) (fun t => t.tmr.tb == 1 && (t.tc 15).cnt == 7) = true := by decide +kernel

/-- A loop channel 3 whose modem is enabled. -/
def lpSt (m : Mode) (c : LpSt) : State :=
  { inMode m with regs := [(loopB + 0x1C0, 9)], loop := { State.reset.loop with lps := [(3, c)] } }

theorem wit_LoopCommands : (inMode .off).md.mode.loopsOff = true ∧ (lpSt .run { live := 8 }).lp 3 = { live := 8 } ∧ (8 : BitVec 5).getLsbD 3 = true
    ∧ (lpSt .lockout {}).md.mode = .lockout ∧ (lpSt .run {}).md.mode.follows = true ∧ ((inMode .run).reg (State.lpA 3 0)).getLsbD 0 = false
    ∧ ((lpSt .run {}).reg (State.lpA 3 0)).getLsbD 0 = true ∧ ((lpSt .run {}).reg (State.lpA 3 0)).getLsbD 2 = false
    ∧ 150 < (151 : BitVec 10).toInt ∧ (lpSt .run {}).conv.cstate ≠ 1 ∧ applySt.conv.cmask.testBit 1 = false
    ∧ (lpSt .run {}).fskOn 3 = true ∧ (inMode .run).fskOn 3 = false := by decide +kernel
theorem wit_LoopCommands_modem : ((lpSt .run { tx := List.replicate 63 7 }).lp 3).tx.length < 64 ∧ 64 ≤ ((lpSt .run { tx := List.replicate 64 7 }).lp 3).tx.length
    ∧ State.txBusy { tx := [1], ph := .pending } = false ∧ State.txBusy { ph := .trailer } = true
    ∧ State.txBusy { cd := true } = false ∧ ((lpSt .run { cd := true }).lp 3).muteTo = 0
    ∧ ((lpSt .run { cd := true, muteTo := 5 }).lp 3).muteTo + 19 * 166667 / 2 ≤ ({ lpSt .run { cd := true, muteTo := 5 } with
        tmr := { State.reset.tmr with tb := 1583342 } } : State).now
    ∧ ((lpSt .run {}).reg (State.lpA 3 8)).extractLsb' 8 2 ≠ 2
    ∧ ((lpSt .run { tx := [1, 2], ph := .pending }).lp 3).ph = .pending ∧ ((lpSt .run { ph := .sending (some 1) }).lp 3).tx = []
    ∧ ((lpSt .run { cd := true, rx := List.replicate 64 ⟨1, false, false, true⟩ }).lp 3).cd = true
    ∧ 64 ≤ ((lpSt .run { cd := true, rx := List.replicate 64 ⟨1, false, false, true⟩ }).lp 3).rx.length := by decide +kernel
theorem test_abort : after (exec (.fskAbort 0 3 3) (lpSt .run { tx := [1], ph := .trailer })) (fun t => t.lp 3 == { ph := .aborted }) = true := by decide +kernel

/-- Pin 15 an output (or input) that counts both edges, a claimed TP7, and the watchdog with its window. -/
def gioSt (f : GioSt → GioSt) : State :=
  { inMode .run with
    regs := [(gioB + 8, 0x8000), (gioB + 0x18, 10), (gioB + 0x20, 0x80), (gioB + 0x24, 0x80), (gioB + 0x7C, 0x32)]
    gio := f State.reset.gio }

theorem wit_GioCommands : (gioSt id).gioPin 15 = 2 ∧ (gioSt id).gio.lv.getLsbD 15 ≠ true ∧ (gioSt id).gioPin 14 = 0 ∧ (gioSt id).gioPin 14 ≠ 2
    ∧ ((gioSt id).reg (gioB + 0x40 + 4 * 15)).extractLsb' 2 2 = 0 ∧ 10 ≤ (10 : BitVec 16).toNat ∧ (9 : BitVec 16).toNat < 10
    ∧ (0x32 : Word).getLsbD 4 = true ∧ (gioSt id).tpDrive 7 = true ∧ (gioSt id).tpDrive 6 = false ∧ (gioSt id).gioOn 15 = true
    ∧ (gioSt (fun g => { g with trip := 0x8000 })).gioOn 15 = false ∧ (gioSt (fun g => { g with trip := 0x8000 })).gio.trip.getLsbD 15 = true
    ∧ (gioSt id).gio.trip.getLsbD 15 = false ∧ bit (gioSt (fun g => { g with tpTrip := 0x80 })).gio.tpTrip 7 = true ∧ bit (gioSt id).gio.tpTrip 7 = false
    ∧ (0xA55A : Word).extractLsb' 0 16 = 0xA55A ∧ (0 : Word).extractLsb' 0 16 ≠ 0xA55A ∧ (gioSt id).gioTime = 2000000 ∧ (gioSt id).md.mode.follows = true
    ∧ (gioSt id).gio.wdexp = false ∧ (gioSt id).gio.wdAt = none ∧ (gioSt (fun g => { g with wdAt := some 0 })).now < 0 + (gioSt id).gioTime
    ∧ (gioSt (fun g => { g with wdexp := true })).gio.wdexp = true ∧ (inMode .run).gioTime = 0 := by decide +kernel
theorem test_watchdog : after (exec .gioWatchdogExpire (gioSt (fun g => { g with wdAt := some 0 }))) (fun t => t.gio.wdexp && (t.src 119).rail == .fault)
    = true := by decide +kernel

/-! ### Hypotheses met: queues and memories, governor, self-test, OTP, trust engine, host, debug port, ridge link -/

/-- A grant of hardware job n is in force. -/
def jobSt (m : Mode) (n cls : Nat) : State :=
  { inMode m with gov := { State.reset.gov with grants := [{ who := .job n, cls := cls, fromRes := false, cost := 30, forced := false }] } }

/-- Queue 88 (owned by core 0, depth 16) with n used slots: the oldest published, the next taken and reserved by core 0. -/
def queSt (slots : List Slot) (own : Word) : State :=
  { inMode .run with regs := [(queB + 0x1008 + 16 * 88, own)], queues := [(88, { slots := slots, next := slots.length })] }
/-- The slots of that queue. -/
def slots3 : List Slot := [⟨0, .taken 0⟩, ⟨1, .published⟩, ⟨2, .reserved 0⟩]
def slots16 : List Slot := (List.range 16).map (fun i => ⟨i, .published⟩)

theorem wit_QueuesAndMemories : (queSt slots3 0).revoked 0 = false ∧ (queSt slots3 0).qFull 88 = false ∧ (queSt slots3 0).qEn 88 = true
    ∧ (queSt slots3 0).qOwned 88 = true ∧ ((queSt slots3 0).qPushM 88).testBit 0 = true ∧ (queSt slots16 0).qFull 88 = true
    ∧ (queSt slots3 0x1F).qOwned 88 = false ∧ ((queSt slots3 0).qPushM 88).testBit 9 = false
    ∧ (queSt slots3 0).qFind 88 0x200A6200 (.reserved 0) = some 2 ∧ (queSt slots3 0).qFind 88 0x200A6000 (.taken 0) = some 0
    ∧ (∀ e ∈ ((queSt slots3 0).queue 88).slots, ¬ ((queSt slots3 0).qSlotAddr 88 e.idx = (0x200A6100 : Word).toNat ∧ e.st = .reserved 0))
    ∧ Queue.front ((queSt slots3 0).queue 88).slots = some ⟨1, .published⟩ ∧ Queue.front ((queSt [] 0).queue 88).slots = none
    ∧ ((queSt slots3 0).qPopM 88).testBit 0 = false := by decide +kernel
theorem wit_QueuesAndMemories_take : ((inMode .run).qPopM 92).testBit 0 = true ∧ (0 : Fin 10) ≠ 4 ∧ ((inMode .run).reg (memB + 0x10)).getLsbD 0 = false
    ∧ (inMode .run).governs = true ∧ (∃ g ∈ (jobSt .run 6 4).gov.grants, g.who = .job 6 ∧ g.ended = false)
    ∧ (∃ g ∈ (jobSt .run 1 1).gov.grants, g.who = .job 1 ∧ g.ended = false)
    ∧ (∀ g ∈ ({ inMode .run with gov := { State.reset.gov with hot := true } } : State).gov.grants, g.who = .job 6 → g.ended = true)
    ∧ (inMode .run).md.mode ≠ .off ∧ (inMode .run).md.mode ≠ .reset ∧ (inMode .verify).governs = false
    ∧ (∀ x ∈ (inMode .run).lnk.remote, x.core ≠ 9) ∧ postedSt.ac0.posted = [(2, 0x2000)]
    ∧ (({ inMode .run with regs := [(memB + 0x10, 1)] } : State).reg (memB + 0x10)).getLsbD 0 = true :=
  ⟨by decide +kernel, by decide, by decide +kernel, by decide, ⟨_, .head _, rfl, rfl⟩, ⟨_, .head _, rfl, rfl⟩, (fun _ h => nomatch h), by decide, by decide, by decide,
    (fun _ h => nomatch h), rfl, by decide +kernel⟩
theorem test_reserve : after (exec (.queueReserve 0 88) (queSt slots3 0)) (fun t => t.resp.data == [0x200A6301]) = true := by decide +kernel
theorem test_push_full : after (exec (.queueReserve 0 88) (queSt slots16 0)) (fun t => t.resp.data == [0]) = true := by decide +kernel

/-- RUN with the PLL locked, a grant of job 7 in force, and the self-test state given. -/
def govSt (b : BstSt) : State :=
  { inMode .run with
    tmr := { State.reset.tmr with lock := true, tb := 200001 }
    gov := { State.reset.gov with left := 100, res := 50, grants := [{ who := .job 7, cls := 2, fromRes := false, cost := 30, forced := false }] }
    bst := b }

theorem wit_GovernorAndSelfTest : (govSt {}).tmr.lock = true ∧ (inMode .run).tmr.lock = false
    ∧ (∃ g rest, State.takeGrant (.job 7) (govSt {}).gov.grants = some (g, rest) ∧ g.cost ≤ (30 : Word).toNat)
    ∧ (∀ g ∈ (govSt {}).gov.grants, g.who ≠ .core 0) ∧ (govSt {}).boundaryDue = false
    ∧ ({ govSt {} with tmr := { (govSt {}).tmr with tb := 400000 } } : State).boundaryDue = true
    ∧ ((govSt {}).conv.cstate ≠ 1 ∨ (govSt {}).conv.cmask.testBit 5 = false)
    ∧ (((govSt {}).reg (govB + 8)).toNat % 256 : Nat) + 5 ≤ (120 : BitVec 10).toInt
    ∧ (119 : BitVec 10).toInt < (((govSt {}).reg (govB + 8)).toNat % 256 : Nat) + 5 :=
  ⟨rfl, rfl, ⟨_, _, rfl, by decide⟩, by decide, by decide, by decide, by decide, by decide, by decide⟩
theorem wit_GovernorAndSelfTest_slices : (govSt {}).slices = true ∧ (govSt {}).bst.active = none ∧ (govSt {}).bst.used = false
    ∧ (govSt {}).yields 3 = false ∧ (3 : Nat) ≠ 0 ∧ (govSt {}).incmpReady = true ∧ ({ govSt {} with regs := [(sioB + 0xC, 2000), (sioB + 0x10, 2000)] } : State).deferCause ⟨false, false, false⟩ = none
    ∧ (govSt { active := some 0 }).bst.active = some 0 ∧ ((govSt { active := some 0 }).seq 0).step < 192
    ∧ ((govSt { active := some 0, seqs := [(0, { step := 191 })] }).seq 0).step < 192 ∧ (govSt {}).deferCause ⟨true, false, false⟩ ≠ none ∧ (inMode .verify).slices = false
    ∧ (govSt { used := true }).bst.used = true ∧ (govSt { active := some 10 }).bst.active = some 10 ∧ (10 : Nat) ≠ 0
    ∧ ((govSt { active := some 10 }).seq 10).confirmed.contains (BitVec.toNat (3 : Byte)) = false
    ∧ ((govSt { active := some 10 }).seq 10).retry ≠ some (((govSt { active := some 10 }).seq 10).step, 3)
    ∧ ((govSt { active := some 10, seqs := [(10, { step := 3, retry := some (3, 3) })] }).seq 10).retry = some (3, 3)
    ∧ ((govSt {}).seq 10).overdue = false ∧ ((govSt { seqs := [(10, { overdue := true })] }).seq 10).overdue = true := by decide +kernel
theorem test_slice_fails_twice : after (exec (.sliceEnd { failed := true, disagreed := false, limiter := none, item := 3, meas := 0, low := 0, high := 0 })
    (govSt { active := some 10, seqs := [(10, { step := 3, retry := some (3, 3) })] })) (fun t => (t.seq 10).failed && (t.src 117).rail == .fault)
    = true := by decide +kernel
theorem wit_GovernorAndSelfTest_job : (jobSt .run 0 4).governs = true ∧ ∃ g ∈ (jobSt .run 0 4).gov.grants, g.who = .job 0 ∧ g.ended = false :=
  ⟨by decide, _, .head _, rfl, rfl⟩
theorem test_switch_point_low : after (exec (.sliceEnd { failed := false, disagreed := false, limiter := none, item := 0, meas := 5999, low := 0, high := 0 })
    (govSt { active := some 0 })) (fun t => (t.seq 0).failed && (t.src 36).rail == .fault) = true := by decide +kernel
theorem test_grant_settles : after (exec (.grantEnd (.job 7) 10) (govSt {})) (fun t => t.gov.left == 120 && t.gov.grants == []) = true := by decide +kernel

/-- IDLE in FACTORY with the job given; the burns of a job. -/
def otpSt (j : Option OtpJob) : State := { inMode .idle with otp := { State.reset.otp with job := j } }
def burnt : BurnEnv := { vlBad := false, words := 1, fails := [] }

theorem wit_OtpJobs : (otpSt none).revoked 0 = false ∧ (0 : BitVec 8) ≠ 0x5A ∧ (otpSt none).otpBusy = false
    ∧ (otpSt (some { op := 1, arg := 352, repair := false })).otpBusy = true ∧ (otpSt none).progRefusal 352 = none
    ∧ (otpSt none).progRefusal 351 = some 2 ∧ (otpSt none).finalRefusal 5 = some (0x10, 352) ∧ (inMode .service).strengthenRefusal 0x3FF = none
    ∧ (otpSt none).strengthenRefusal 0x3FF = some (1, 0x3FF) ∧ (inMode .run).otpProgMode = false ∧ (otpSt none).otp.job = none
    ∧ (otpSt (some { op := 1, arg := 352, repair := false })).otp.job = some { op := 1, arg := 352, repair := false }
    ∧ burnt.vlBad = false ∧ burnt.fails = [] := by decide +kernel

/-- A mode with the trust engine's state changed. -/
def truSt (m : Mode) (f : TruSt → TruSt) : State := { inMode m with tru := f State.reset.tru }

theorem wit_TrustJobs_starts : (truSt .idle id).revoked 0 = false ∧ (truSt .idle id).truModes = true ∧ (truSt .idle id).truBusy = false
    ∧ (inMode .verify).truModes = false ∧ (truSt .idle (fun t => { t with job := some { op := 1, arg := 0 } })).truBusy = true
    ∧ (truSt .idle id).truRefusal 1 0 = none ∧ (truSt .service id).truRefusal 4 0 = none ∧ (truSt .idle id).truRefusal 4 0 = some 1
    ∧ (truSt .idle id).truRefusal 8 3 = none ∧ (truSt .idle id).truRefusal 8 4 = some 2 ∧ (truSt .commission id).truRefusal 11 0 = none
    ∧ ({ truSt .idle id with otp := { State.reset.otp with rst := [(5, 2)] } } : State).truRefusal 3 1 = none := by decide +kernel
/-- The hypothesis `authResult = 0` rests on the signature, which is opaque; its other case is met here. -/
theorem wit_TrustJobs_ends : (truSt .idle id).tru.job = none ∧ (truSt .idle (fun t => { t with job := some { op := 2, arg := 0 } })).authResult ≠ 0
    ∧ (truSt .service (fun t => { t with auth := some ⟨1, 0, 5⟩ })).tru.auth ≠ none ∧ (truSt .service id).md.mode = .service
    ∧ (truSt .idle id).upModes 2 = true ∧ (truSt .idle id).openOf 2 = none ∧ (truSt .commission id).md.trel = none
    ∧ BitVec.ofNat 32 (({ truSt .commission id with regs := [(truB + 0x2000, 5)] } : State).winNum 0 4) ≠ (truSt .commission id).ccvA
    ∧ BitVec.ofNat 32 ((truSt .commission id).winNum 0 4) = (truSt .commission id).ccvA
    ∧ BitVec.ofNat 32 (({ truSt .commission id with regs := [(sioB + 0x28, 9)] } : State).winNum 0 4)
        ≠ ({ truSt .commission id with regs := [(sioB + 0x28, 9)] } : State).ccvB := by decide +kernel
theorem wit_TrustJobs_queue : (∃ t e, ({ jobSt .idle 4 3 with queues := [(124, { slots := [⟨0, .published⟩], next := 1 })] } : State).qPop 124 = (t, some e))
    ∧ (inMode .idle).qFull 125 = false ∧ (inMode .idle).qEn 125 = true ∧ (inMode .idle).qAvail 124 = false ∧ (jobSt .idle 4 3).governs = true
    ∧ (truSt .run (fun t => { t with advPend := true })).tru.advPend = true ∧ (truSt .run id).md.mode = .run ∧ (truSt .quiet id).md.mode ≠ .idle
    ∧ 12 ≤ (12 : Word).toNat % 16 ∧ (11 : Word).toNat % 16 < 12 ∧ (truSt .idle (fun t => { t with ext := some (15, 1) })).tru.ext = some (15, 1) :=
  ⟨⟨_, _, rfl⟩, by decide +kernel, by decide +kernel, by decide +kernel, by decide, rfl, rfl, by decide, by decide, by decide, rfl⟩
theorem wit_TrustJobs_grants : (∃ g ∈ (jobSt .idle 4 3).gov.grants, g.who = .job 4 ∧ g.ended = false)
    ∧ (∃ g ∈ (jobSt .idle 5 4).gov.grants, g.who = .job 5 ∧ g.ended = false) ∧ (inMode .verify).governs = false
    ∧ ({ op := 4, arg := 0, stopped := true } : TruJob).stopped = true ∧ ({ op := 1, arg := 0, lost := true } : TruJob).lost = true
    ∧ ({ op := 1, arg := 0 } : TruJob).lost = false ∧ ({ op := 1, arg := 0 } : TruJob).stopped = false :=
  ⟨⟨_, .head _, rfl, rfl⟩, ⟨_, .head _, rfl, rfl⟩, by decide, rfl, rfl, rfl, rfl⟩
theorem test_confirm_ccv : after (exec (.truJobEnd burnt false) { truSt .commission (fun t => { t with job := some { op := 11, arg := 0 } }) with
    regs := [(truB + 0x2000, 5)]
    gov := (jobSt .commission 5 4).gov }) (fun t => t.tru.job == none && t.md.mode == .commission && t.upd.nextRec == 0) = true := by decide +kernel

theorem wit_FieldCommandFrames : (∃ t, exec (.testPulseMaskClose 0) State.reset = .next t)
    ∧ (∃ t, exec (.loopDacUpdate ⟨0, 0, 0, 0, 0, false⟩ ⟨0, 0, 0, 0, 0, false⟩ ⟨0, 0, 0, 0, 0, false⟩ ⟨0, 0, 0, 0, 0, false⟩ false) State.reset = .next t) ∧ (∃ t, exec (.onTestPass 0) State.reset = .next t)
    ∧ (∃ t, exec (.fskTxEnd 0) State.reset = .next t) ∧ (∃ t, exec (.vgLow true) State.reset = .next t) ∧ (∃ t, exec (.wcFire 0) State.reset = .next t)
    ∧ (∃ t, exec (.ringCheckSend true) State.reset = .next t) ∧ (∃ t, exec (.ridgeSideDown true) State.reset = .next t) :=
  ⟨⟨_, rfl⟩, ⟨_, rfl⟩, ⟨_, rfl⟩, ⟨_, rfl⟩, ⟨_, rfl⟩, ⟨_, rfl⟩, ⟨_, rfl⟩, ⟨_, rfl⟩⟩

/-- The host port with a fetched READ or a job of master 5. -/
def hstSt (m : Mode) (h : HostSt) : State := { inMode m with regs := [(State.hjPart, 4), (State.hjOwn, 5)], host := h }

theorem wit_HostCommands : (inMode .start).hostLive = false ∧ (inMode .verify).hostLive = true ∧ (inMode .run).revoked 5 = false
    ∧ (inMode .run).host.wbuf = [] ∧ (inMode .run).asksRemote 5 0x30000004 = false
    ∧ ((inMode .run).hostBegin.busWrite 5 0x30000004 4 1).2 = stOk ∧ ((inMode .run).hostBegin.busWrite 5 0x18000000 4 1).2 ≠ stOk
    ∧ (((inMode .run).hostBegin.busWrite 5 0x18000000 4 1).1.reg hstB).extractLsb' 2 2 = 0
    ∧ badSt.asksRemote 5 0x90000000 = true ∧ badSt.remoteOpen 5 0x90000000 = true ∧ (askSt 4).remoteOpen 5 0x90000000 = false
    ∧ (askSt 4).asksRemote 5 0x9FFFFFFC = true ∧ badSt.hostLive = true
    ∧ 1 ≤ (64 : BitVec 8).toNat ∧ (64 : BitVec 8).toNat ≤ 64 ∧ 64 < (65 : BitVec 8).toNat
    ∧ (∀ i, i < (64 : BitVec 8).toNat → regionOf ((0x1000 : Word) + BitVec.ofNat 32 (4 * i)).toNat ≠ .remote)
    ∧ (hstSt .run { read := some ([7], 0, 0) }).host.read = some ([7], 0, 0) ∧ (inMode .run).host.read = none
    ∧ (0 : BitVec 8) ≠ 0x5A ∧ (hstSt .service {}).host.job = none ∧ (hstSt .service { job := some { op := 1 } }).host.job ≠ none
    ∧ (hstSt .service {}).md.mode = .service ∧ (hstSt .run {}).md.mode ≠ .service ∧ (hstSt .run {}).searchModes = true := by decide +kernel
theorem wit_HostCommands_jobs : (hstSt .run { job := some { op := 2 } }).reg State.hjOwn = BitVec.ofNat 32 5
    ∧ (hstSt .run { job := some { op := 2 } }).reg State.hjOwn ≠ BitVec.ofNat 32 6
    ∧ (∀ j, (hstSt .service { job := some { op := 1 } }).host.job = some j → j.op ≠ 2)
    ∧ (4 : Word).toNat % 512 ≤ ((hstSt .run {}).reg State.hjPart).toNat ∧ ((hstSt .run {}).reg State.hjPart).toNat < (5 : Word).toNat % 512
    ∧ (hstSt .service { job := some { op := 1 } }).host.job = some { op := 1 } ∧ (hstSt .idle { job := some { op := 1 } }).md.mode ≠ .service ∧ (1 : BitVec 12) ≠ 0 ∧ (2 : BitVec 12).getLsbD 1 = true
    ∧ (2 : BitVec 12).getLsbD 0 = false :=
  ⟨by decide +kernel, by decide +kernel, by intro j h; cases h; decide, by decide +kernel, by decide +kernel, rfl, by decide, by decide, by decide, by decide⟩
theorem test_host_decode : after (exec (.hostWrite 0x18000000 [(1, false)]) (inMode .run)) (fun t => t.reg hstB == 0xC && t.reg (hstB + 0x10) == 0x18000000)
    = true := by decide +kernel

/-- IDLE with the OTP sensed, a processor selected and core 3 or the safety processor in a run state. -/
def dbgrSt (m : Mode) (sel : Nat) (r : RunSt) : State :=
  { inMode m with
    otp := { State.reset.otp with sensed := true }
    sp := { Cpu.resetSafety with run := r }
    ac3 := { Cpu.resetAc with run := r }
    dbg := { State.reset.dbg with sel := some sel } }

theorem wit_DebugCommands : (inMode .off).md.mode = .off ∧ (inMode .idle).md.mode ≠ .off ∧ (inMode .idle).dbgProc = none
    ∧ (dbgrSt .idle 4 .running).dbgProc = some .safety ∧ (dbgrSt .idle 4 .running).dbgMay .safety = false
    ∧ (inMode .idle).dbgMayMem = false ∧ procOf ((3 : Word).toNat % 8) = some (.ac 3) ∧ (dbgrSt .idle 3 .running).dbgMay (.ac 3) = true
    ∧ (dbgrSt .idle 3 .running).dbgProc = some (.ac 3) ∧ (dbgrSt .idle 3 .waitFence).midInstr (.ac 3) = true
    ∧ (dbgrSt .idle 3 .running).midInstr (.ac 3) = false ∧ (dbgrSt .service 4 (.halted .running)).dbgMay .safety = true
    ∧ (dbgrSt .service 4 (.halted .running)).sp.run = .halted .running ∧ (dbgrSt .idle 3 (.halted .running)).isHalted (.ac 3) = true
    ∧ (dbgrSt .idle 3 .running).isHalted (.ac 3) = false ∧ (15 : Word).toNat < 16 ∧ (3 : Word).toNat < 4
    ∧ (dbgrSt .idle 3 .running).dbgMayMem = true ∧ (dbgrSt .idle 3 .running).dbgPrivate = false
    ∧ (0 : Byte) ≠ State.dbgCrc 3 0 ∧ 0x60 ≤ (0x60 : Word).toNat ∧ (dbgrSt .idle 3 .running).ac3.run = .running
    ∧ (dbgrSt .idle 3 .running).asksRemote 6 (dbgrSt .idle 3 .running).dbg.addr = false := by decide +kernel
/-- The debug port addresses device 1, which is present, with core 3 selected. -/
def dbgFar (d : DbgSt) : State := { dbgrSt .idle 3 .running with dbg := d, lnk := { State.reset.lnk with present := 2 } }

theorem wit_DebugCommands_remote : (dbgFar { sel := some 3, addr := 0x90000000 }).dbgMayMem = true ∧ (dbgFar { sel := some 3, addr := 0x90000000 }).dbgPrivate = false
    ∧ (dbgFar { sel := some 3, addr := 0x90000000 }).asksRemote 6 0x90000000 = true ∧ (dbgFar { sel := some 3, addr := 0x90000000 }).dbg.got = none
    ∧ (dbgFar { sel := some 3, addr := 0x90000000 }).remoteOpen 6 0x90000000 = true
    ∧ (dbgFar { sel := some 3, addr := 0x90000000, got := some (0, 7) }).dbg.got = some (0, 7) := by decide +kernel
theorem test_debug_refused : after (exec (.dbgHalt 0 (State.dbgCrc 3 0)) (dbgrSt .idle 4 .running)) (fun t => t.dbg.status == 2 && t.sp.run == .running) = true := by
  decide +kernel

/-- Device 0 with devices 1 and 7 on the ring, memory [0x1000, 0x11000) exposed to device 1, and a request awaited. -/
def lnkSt (f : LnkSt → LnkSt) : State :=
  { inMode .run with
    regs := [(lnkB + 0x14, 0x10000), (lnkB + 0x18, 0x10000), (lnkB + 0x1C, 0x0202)]
    queues := [(91, { slots := [⟨0, .published⟩], next := 1 })]
    mem := { State.reset.mem with cells := [(0x200A9000, 7)] }
    gov := (jobSt .run 3 3).gov
    lnk := f { State.reset.lnk with present := 0x82, ld := { run := 3 }, remote := [⟨7, 9, 0, 0, true⟩] } }

theorem wit_RidgeCommands : (inMode .reset).linkOn = false ∧ (lnkSt id).linkOn = true ∧ LinkErr.crc ≠ .none ∧ (7 : Fin 8).val ≠ (lnkSt id).lnk.id
    ∧ (0 : Fin 8).val = (lnkSt id).lnk.id ∧ 3 ≤ ((lnkSt id).side true).run ∧ (lnkSt id).lnk.reference = false
    ∧ (lnkSt (fun l => { l with reference := true })).lnk.reference = true ∧ (lnkSt (fun l => { l with aligned := true })).lnk.aligned = true
    ∧ (lnkSt id).lnk.stepped = false ∧ (lnkSt id).revoked 7 = false ∧ (lnkSt id).exposes 1 0x10000 false = true ∧ (lnkSt id).exposes 1 0x1FFFC true = true
    ∧ (lnkSt id).exposes 1 0x20000 true = false ∧ (lnkSt id).exposes 7 0x10000 false = false
    ∧ (lnkSt id).qFull 95 = false ∧ (lnkSt id).qEn 95 = true
    ∧ ({ inMode .run with flt := { State.reset.flt with revoked := 0x80 } } : State).revoked 7 = true := by decide +kernel
theorem wit_RidgeCommands_requests : (lnkSt id).sound 0x1FFFC ∧ (∃ x rest, State.takeRemote 7 9 (lnkSt id).lnk.remote = some (x, rest))
    ∧ (∀ x ∈ (lnkSt id).lnk.remote, ¬ (x.dest = 1 ∧ x.tag = 9))
    ∧ (lnkSt id).host.wbuf = [] ∧ (lnkSt id).host.fetch = none ∧ (∀ k : Fin 4, ((lnkSt id).cpu (.ac k)).killDue = false)
    ∧ (lnkSt id).governs = true ∧ (∃ g ∈ (lnkSt id).gov.grants, g.who = .job 3 ∧ g.ended = false) ∧ (verify id).governs = false
    ∧ (∃ u e, (lnkSt id).qPop (88 + 3) = (u, some e) ∧ (e.getD 0 0).toNat % 8 ≠ (lnkSt id).lnk.id
        ∧ (lnkSt id).lnk.present.getLsbD ((e.getD 0 0).toNat % 8) = true) :=
  ⟨⟨rfl, rfl⟩, ⟨_, _, rfl⟩, by decide, rfl, rfl, by decide, by decide, ⟨_, .head _, rfl, rfl⟩, by decide, ⟨_, _, rfl, by decide +kernel, by decide +kernel⟩⟩
theorem wit_RidgeCommands_debug (s : State) (h : s = { lnkSt id with
      dbg := { sel := none, asked := some 9 }
      lnk := { (lnkSt id).lnk with remote := [⟨7, 9, 6, 0, true⟩] } }) :
    (∃ x rest, State.takeRemote 7 9 s.lnk.remote = some (x, rest) ∧ x.core = 6 ∧ x.isLoad = true) ∧ s.dbg.asked = some 9 := by
  subst h; exact ⟨⟨_, _, rfl, rfl, rfl⟩, rfl⟩
theorem test_remote_write : after (exec (.ridgeMreq true .none 1 true 9 0x1FFFC 0x12345678) (lnkSt id)) (fun t => t.byte 0x1FFFC == 0x78) = true := by
  decide +kernel
theorem test_remote_refused : after (exec (.ridgeMreq true .none 1 true 9 0x20000 5) (lnkSt id)) (fun t => t.byte 0x20000 == 0
    && (t.lnk.sent.map (fun f => f.payload.head?)) == [some 0]) = true := by decide +kernel

theorem wit_MemoryCanonicalKept : Memory.wf (lnkSt id).mem.cells = true ∧ ∃ t, step { State.reset with pending := [.powerUp] } = .next t :=
  ⟨by decide, _, rfl⟩

end Sys2Proof.Tests
end

section
/-! SUPPORT. Loops over the items of the device, and what driving a fault source and losing a switch driver's rail do (10 R288, R291;
08 R243). -/
namespace Sys2Proof.Machine
namespace State

/-! ### Loops over the items of the device -/

theorem upFrom_eq_range' (k : Nat) : ∀ i : Nat, upFrom k i = List.range' i k := by
  induction k with
  | zero => intro i; rfl
  | succ k ih => intro i; rw [upFrom, ih, List.range'_succ]

/-- What every pass of a loop keeps, the loop keeps. -/
theorem foldl_keeps {α β : Type} (g : State → β) (f : State → α → State) (h : ∀ s a, g (f s a) = g s) (l : List α) (s : State) :
    g (l.foldl f s) = g s :=
  List.foldlRecOn (motive := fun t => g t = g s) l f rfl (fun t ht a _ => (h t a).trans ht)

/-! ### Driving a source (10 R288, R291) -/

theorem drive_shown (s : State) {n : Nat} (d : BitVec 16) (h : (s.src n).rail ≠ .ok) : s.drive n d = s := by
  unfold drive
  simp [h]

theorem drive_fresh (s : State) {n : Nat} (d : BitVec 16) (hn : (srcDefault n).isSome = true) (h : (s.src n).rail = .ok) :
    s.drive n d = { s with flt := { (s.setSrc n { s.src n with rail := .fault }).flt with
      raised := s.flt.raised ++ [{ src := n, detail := d, time := s.now }] } } := by
  unfold drive
  rw [if_neg (by simpa [Option.isSome_iff_ne_none] using hn), if_neg (by simp [h])]
  rfl

theorem src_setSrc (s : State) (n k : Nat) (v : Src) : (s.setSrc n v).src k = if k = n then v else s.src k := look_put_eq _ _ _ _ _

/-- A driven source shows Fault. -/
theorem drive_rail (s : State) (n : Nat) (d : BitVec 16) (hn : (srcDefault n).isSome = true) : ((s.drive n d).src n).rail ≠ .ok := by
  by_cases h : (s.src n).rail = .ok
  · rw [drive_fresh s d hn h]
    show ((s.setSrc n { s.src n with rail := .fault }).src n).rail ≠ .ok
    simp [src_setSrc]
  · rwa [drive_shown s d h]

/-- Driving a source clears none. -/
theorem drive_keeps_fault (s : State) (n k : Nat) (d : BitVec 16) (h : (s.src k).rail ≠ .ok) : ((s.drive n d).src k).rail ≠ .ok := by
  by_cases hn : (srcDefault n).isSome = true
  · by_cases ho : (s.src n).rail = .ok
    · have hk : k ≠ n := by rintro rfl; exact h ho
      rw [drive_fresh s d hn ho]
      show ((s.setSrc n { s.src n with rail := .fault }).src k).rail ≠ .ok
      rwa [src_setSrc, if_neg hk]
    · rwa [drive_shown s d ho]
  · have e : s.drive n d = s := by
      unfold drive
      rw [if_pos (by simpa using hn)]
    rwa [e]

/-! ### The rail of a channel's switch drivers (08 R243) -/

theorem driverRail_eq (s : State) (chB bad : Bool) : s.driverRail chB bad = { s with outputs := (s.driverRail chB bad).outputs } := by
  have pass : ∀ (t : State) (l : List Nat), t = { s with outputs := t.outputs } →
      let u := l.foldl (fun (s : State) k => s.setOut k ((s.out k).setSw chB false s.now)) t
      u = { s with outputs := u.outputs } := fun t l ht =>
    List.foldlRecOn (motive := fun u : State => u = { s with outputs := u.outputs }) l _ ht (fun u hu k _ => by
      unfold setOut
      rw [hu])
  unfold driverRail
  cases chB <;> cases bad
  · rfl
  · exact pass _ _ rfl
  · rfl
  · exact pass _ _ rfl

theorem sw_setSw (o : OutSt) (chB c on : Bool) (now : Nat) : (o.setSw chB on now).sw c = if c = chB then on else o.sw c := by
  unfold OutSt.setSw
  split
  next h =>
    split
    · rename_i hc; rw [hc, h]
    · rfl
  next => cases chB <;> cases c <;> rfl

theorem out_setOut (s : State) (j k : Nat) (v : OutSt) : (s.setOut j v).out k = if k = j then v else s.out k := look_put_eq _ _ _ _ _

/-- Opening a channel's switches of the outputs in a list opens them and leaves the other channel's as they are. -/
theorem foldl_openSw (chB : Bool) (k : Nat) (l : List Nat) : ∀ s : State,
    let u := l.foldl (fun (s : State) k => s.setOut k ((s.out k).setSw chB false s.now)) s
    (k ∈ l ∨ (s.out k).sw chB = false → (u.out k).sw chB = false) ∧ (u.out k).sw (!chB) = (s.out k).sw (!chB) := by
  induction l with
  | nil => intro s; simp
  | cons j l ih =>
    intro s
    obtain ⟨own, other⟩ := ih (s.setOut j ((s.out j).setSw chB false s.now))
    rw [out_setOut] at own other
    refine ⟨fun h => own ?_, other.trans ?_⟩
    · by_cases hk : k = j
      · simp [hk, sw_setSw]
      · simpa [hk] using h
    · by_cases hk : k = j
      · simp [hk, sw_setSw]
      · simp [hk]

/-- The loss of the rail opens the channel's twelve switches. -/
theorem driverRail_opens (s : State) (chB : Bool) (k : Nat) (hk : k < 12) :
    ((s.driverRail chB true).out k).sw chB = false ∧ ((s.driverRail chB true).out k).sw (!chB) = (s.out k).sw (!chB) := by
  have hmem : k ∈ upFrom 12 0 := by rw [upFrom_eq_range', List.mem_range'_1]; omega
  cases chB
  · obtain ⟨own, other⟩ := foldl_openSw false k (upFrom 12 0) { s with outputs := { s.outputs with railOutA := true } }
    exact ⟨own (.inl hmem), other⟩
  · obtain ⟨own, other⟩ := foldl_openSw true k (upFrom 12 0) { s with outputs := { s.outputs with railOutB := true } }
    exact ⟨own (.inl hmem), other⟩

/-- A command that changes the outputs at most and drives a source: the source shows Fault and its raise waits; one that shows Fault
already stays as it is (10 R288, R291). -/
theorem raises_of_drive {s : State} {i : Instr} {n : Nat} {d : BitVec 16} (o : OutputsSt) (hn : (srcDefault n).isSome = true)
    (he : exec i s = .next (({ s with outputs := o } : State).drive n d)) :
    ((s.src n).rail = .ok → ∃ t, exec i s = .next t ∧ (t.src n).rail = .fault
        ∧ t.flt.raised = s.flt.raised ++ [{ src := n, detail := d, time := s.now }]
        ∧ (∀ k, k ≠ n → t.src k = s.src k) ∧ t.md = s.md ∧ t.mem = s.mem)
      ∧ ((s.src n).rail ≠ .ok → ∃ t, exec i s = .next t ∧ t.flt = s.flt ∧ t.md = s.md ∧ t.mem = s.mem) := by
  constructor
  · intro h
    rw [drive_fresh { s with outputs := o } d hn h] at he
    have hread : ∀ k, (s.setSrc n { s.src n with rail := .fault }).src k = if k = n then { s.src n with rail := .fault } else s.src k :=
      fun k => src_setSrc s n k _
    exact ⟨_, he, congrArg Src.rail ((hread n).trans (if_pos rfl)), rfl, fun k hk => (hread k).trans (if_neg hk), rfl, rfl⟩
  · intro h
    rw [drive_shown { s with outputs := o } d h] at he
    exact ⟨_, he, rfl, rfl, rfl⟩

end State

/-- Settles O30: each command drives its source, after the switches that a driver's rail opens. -/
theorem hardwareFaults : Obligations.HardwareFaults := by
  unfold Obligations.HardwareFaults
  intro s hs raises
  have hon : (s.md.mode != .off) = true := by simpa using hs
  have rail : ∀ b : Bool, exec (.coreRailFault b true) s = .next ((s.driverRail b true).drive (if b then 82 else 81) 0) :=
    fun b => congrArg _ (if_neg hs)
  refine ⟨?_, ?_, ?_, fun k => ?_, ?_, fun b => ⟨_, rail b, fun k hk => ?_⟩⟩
  · exact State.raises_of_drive s.outputs rfl (congrArg _ (if_pos hon))
  · exact State.raises_of_drive _ rfl (State.driverRail_eq s false true ▸ rail false)
  · exact State.raises_of_drive _ rfl (State.driverRail_eq s true true ▸ rail true)
  · exact State.raises_of_drive s.outputs rfl (congrArg _ (if_pos hon))
  · exact State.raises_of_drive s.outputs rfl (congrArg _ (if_pos hon))
  · have hout : ((s.driverRail b true).drive (if b then 82 else 81) 0).out k = (s.driverRail b true).out k := by
      unfold State.out
      rw [(State.drive_md _ _ _).2]
    rw [hout]
    cases b <;> exact State.driverRail_opens s _ k hk

end Sys2Proof.Machine
end

section
/-! SUPPORT. Channel A's strobe (01 R22-R26; 04 R124; 05 R150-R154): up to the resume of the safety processor, nothing that the strobe
does touches that processor. -/
namespace Sys2Proof.Machine
namespace State

theorem onlyLog_sp {s t : State} (h : s.onlyLog t) : t.sp = s.sp := by rw [h]

@[simp] theorem drive_sp (s : State) (n : Nat) (d : BitVec 16) : (s.drive n d).sp = s.sp := onlyLog_sp (drive_only s n d)

theorem sp_ite {s t u : State} {c : Prop} [Decidable c] (h : t.sp = s.sp) (k : u.sp = s.sp) : (if c then t else u).sp = s.sp := by
  split
  · exact h
  · exact k

/-! ### Time passes and WC0 fires (13 R361-R376) -/

@[simp] theorem tcActs_sp (s : State) (n : Nat) (wrap m0 m1 : Bool) : (s.tcActs n wrap m0 m1).sp = s.sp := by
  unfold tcActs
  extract_lets
  split <;> rfl

@[simp] theorem tcCount_sp (s : State) (n : Nat) (down : Bool) (off : Nat → Bool) : (s.tcCount n down off).sp = s.sp := rfl

@[simp] theorem tcPresc_sp (s : State) (n : Nat) : (s.tcPresc n).sp = s.sp := by
  unfold tcPresc
  split <;> rfl

theorem tcTick_sp (s : State) (n : Nat) : (s.tcTick n).sp = s.sp := by
  unfold tcTick
  split
  · simp [tcStep]
  · simp

theorem tcApplyTick_sp (s : State) (n : Nat) (wrote : Nat → Bool) : (s.tcApplyTick n wrote).sp = s.sp := by
  unfold tcApplyTick
  split <;> simp

theorem tickWith_sp (s : State) (wrote : Nat → Nat → Bool) : (s.tickWith wrote).sp = s.sp := by
  unfold tickWith
  split
  · rfl
  · refine foldl_keeps State.sp _ (fun t n => ?_) _ _
    split
    · exact tcApplyTick_sp t n _
    · exact tcTick_sp t n

theorem foldl_setReg_sp (l : List Nat) (a : Nat → Nat) (v : State → Nat → Word) (s : State) :
    (l.foldl (fun (t : State) n => t.setReg (a n) (v t n)) s).sp = s.sp :=
  foldl_keeps State.sp (fun (t : State) n => t.setReg (a n) (v t n)) (fun _ _ => rfl) l s

theorem snapNow_sp (s : State) : s.snapNow.sp = s.sp := by
  unfold snapNow
  split
  · rfl
  · simp [foldl_setReg_sp]

theorem ticks_sp (k : Nat) : ∀ s : State, (ticks k s).sp = s.sp := by
  induction k with
  | zero => intro s; rfl
  | succ k ih => intro s; exact (ih s.tick).trans ((snapNow_sp _).trans (tickWith_sp s _))

theorem advanceTo_sp (s : State) (t : Nat) : (s.advanceTo t).sp = s.sp := by
  unfold advanceTo
  dsimp only
  split
  · rfl
  · split
    · exact ticks_sp _ s
    · exact snapNow_sp (s.skipTicks 1)

theorem wcFire_sp (s : State) (w : Nat) : (s.wcFire w).sp = s.sp := by
  unfold wcFire
  dsimp only
  split <;> rfl

/-! ### The output point (01 R26; 08 R259; 12 R342) -/

/-- The state t differs from s in its outputs and the collector at most. -/
def onlyOutputs (s t : State) : Prop := t = { s with outputs := t.outputs, flt := t.flt }

theorem onlyOutputs_trans {s t u : State} (h : s.onlyOutputs t) (k : t.onlyOutputs u) : s.onlyOutputs u := by
  unfold onlyOutputs at *
  rw [k, h]

theorem onlyOutputs_ite {s t u : State} {c : Prop} [Decidable c] (h : s.onlyOutputs t) (k : s.onlyOutputs u) :
    s.onlyOutputs (if c then t else u) := by
  split
  · exact h
  · exact k

theorem drive_onlyOutputs (s : State) (n : Nat) (d : BitVec 16) : s.onlyOutputs (s.drive n d) := by
  unfold drive
  refine onlyOutputs_ite ?_ (onlyOutputs_ite ?_ ?_) <;> rfl

theorem noteSupply_only (s : State) (g : Bool) : s.onlyOutputs (s.noteSupply g) := by
  unfold noteSupply
  refine onlyOutputs_ite ?_ rfl
  exact onlyOutputs_trans (onlyOutputs_ite (by rfl) (by rfl)) (drive_onlyOutputs _ _ _)

theorem applyDemands_only (s : State) (chB : Bool) (dmd : BitVec 12) : s.onlyOutputs (s.applyDemands chB dmd) := by
  refine onlyOutputs_trans (onlyOutputs_trans ?_ (noteSupply_only _ false)) (noteSupply_only _ true)
  exact List.foldlRecOn (motive := s.onlyOutputs) _ _ rfl (fun t ht k _ => onlyOutputs_trans ht rfl)

theorem onlyOutputs_sp {s t : State} (h : s.onlyOutputs t) : t.sp = s.sp := by rw [h]

theorem egress_sp (s : State) (r2 pB : Bool) (f : OutFrame) : (s.egress r2 pB f).sp = s.sp := by
  unfold egress
  split
  · cases r2 <;> rfl
  · rfl

theorem sendPdu_sp (s : State) (r2 : Bool) (cls : Nat) (pdu : List Byte) : (s.sendPdu r2 cls pdu).sp = s.sp := by
  unfold sendPdu originate
  simp only [if_true, egress_sp]
  cases r2 <;> rfl

theorem sesSendA_sp (s : State) (n : Nat) (fs : Bool) (cyc : Word) : (s.sesSendA n fs cyc).sp = s.sp := by
  unfold sesSendA
  extract_lets
  split
  · split <;> rfl
  · exact sendPdu_sp _ _ _ _

theorem sesOutA_sp (s : State) (present : Bool) : (s.sesOutA present).sp = s.sp := by
  unfold sesOutA
  refine sp_ite (foldl_keeps State.sp _ (fun t n => ?_) _ _) rfl
  exact sp_ite (sesSendA_sp t n _ _) rfl

theorem outPointA_sp (s : State) : s.outPointA.sp = s.sp := by
  have hd := onlyOutputs_sp (applyDemands_only s false (if s.chA.published then s.chA.recDmd.setWidth 12 else 0))
  unfold outPointA
  exact sp_ite ((sesOutA_sp _ _).trans hd) hd

/-! ### QUIET is left (02 R47) -/

theorem leave_sp (s : State) : s.leave.sp = s.sp := by
  unfold leave
  split <;> rfl

theorem abortSlice_sp (s : State) : s.abortSlice.sp = s.sp := by
  unfold abortSlice
  split <;> rfl

theorem releaseCores_sp (s : State) : s.releaseCores.sp = s.sp := by
  unfold releaseCores
  split <;> rfl

theorem gioNote_sp (s : State) : s.gioNote.sp = s.sp := by
  unfold gioNote
  exact sp_ite (drive_sp _ _ _) rfl

theorem gioMode_sp (s : State) (old : Mode) : (s.gioMode old).sp = s.sp := by
  unfold gioMode
  exact (gioNote_sp _).trans (sp_ite (sp_ite rfl rfl) rfl)

theorem sesRenew_sp (s : State) : s.sesRenew.sp = s.sp := by
  unfold sesRenew
  split <;> rfl

theorem settleAll_sp (s : State) : s.settleAll.sp = s.sp := rfl
theorem openAll_sp (s : State) : s.openAll.sp = s.sp := rfl
theorem zonesOff_sp (s : State) : s.zonesOff.sp = s.sp := rfl

theorem enter_sp (s : State) (old : Mode) : (s.enter old).sp = s.sp := by
  unfold enter
  cases s.md.mode with
  | idle => exact releaseCores_sp s
  | run | commission | lockout => simp only [apply_ite State.sp, releaseCores_sp, settleAll_sp, openAll_sp, zonesOff_sp, ite_self]
  | _ => rfl

/-- A transition other than to OFF and RESET leaves the safety processor alone. -/
theorem toMode_sp (s : State) (m : Mode) (cause : Nat) (hoff : m ≠ .off) (hreset : m ≠ .reset) : (s.toMode m cause).sp = s.sp := by
  have go : ((((((s.leave.abortSlice.stopJobs).putMode m cause).enter s.md.mode).gioMode s.md.mode).sesRenew).log 0xFF 0 false 4 cause 0).sp
      = s.sp := by
    rw [onlyLog_sp (log_only _ _ _ _ _ _ _), sesRenew_sp, gioMode_sp, enter_sp]
    exact (abortSlice_sp _).trans (leave_sp s)
  cases m
  case off => exact absurd rfl hoff
  case reset => exact absurd rfl hreset
  all_goals exact go

theorem leaveQuiet_sp (s : State) : s.leaveQuiet.sp = s.sp := by
  have hm : s.returnsTo = .commission ∨ s.returnsTo = .run := by
    unfold returnsTo
    split
    · exact .inl rfl
    · exact .inr rfl
  unfold leaveQuiet
  refine sp_ite (toMode_sp s _ _ ?_ ?_) rfl
  all_goals rcases hm with h | h <;> simp [h]

/-! ### What channel A latches (05 R149-R154; 07 R213-R228; 08 R247; 12 R344) -/

theorem qPush_sp (s : State) (q : Nat) (bs : List Byte) : (s.qPush q bs).1.sp = s.sp := onlyLog_sp (qPush_only s q bs)

theorem passDone_sp (s : State) (n : Nat) : (s.passDone n).sp = s.sp := by
  unfold passDone
  exact sp_ite (qPush_sp _ _ _) rfl

theorem nextInput_sp (s : State) : s.nextInput.sp = s.sp := by
  unfold nextInput
  exact sp_ite (passDone_sp _ _) rfl

theorem cmpFail_sp (s : State) (i part : Nat) : (s.cmpFail i part).sp = s.sp := drive_sp _ _ _

theorem spareBad_sp (s : State) (next : SparePh) : (s.spareBad next).sp = s.sp := by
  unfold spareBad
  exact sp_ite ((cmpFail_sp _ _ _).trans (cmpFail_sp _ _ _)) rfl

theorem spareStrobe_sp (s : State) (chB : Bool) : (s.spareStrobe chB).sp = s.sp := by
  unfold spareStrobe
  refine sp_ite rfl ?_
  dsimp only
  cases s.inputs.sparePh with
  | shadow n => exact sp_ite (spareBad_sp _ _) rfl
  | handBack n => exact sp_ite (spareBad_sp _ _) (sp_ite rfl (sp_ite (nextInput_sp _) rfl))
  | _ => rfl

theorem latchInputs_sp (s : State) (chB : Bool) (rev : BitVec 32) : (s.latchInputs chB rev).sp = s.sp := by
  have hrev : ((upFrom 32 0).foldl (fun (s : State) n => s.setInp n { s.inp n with rev := bit rev n }) (s.spareStrobe chB)).sp = s.sp :=
    (foldl_keeps State.sp _ (fun t n => by exact State.setInp_sp t n _) _ _).trans (spareStrobe_sp s chB)
  unfold latchInputs
  cases firstIdx (bit rev) 32 0 with
  | none => simpa only [apply_ite State.sp, ite_self] using hrev
  | some n => simpa only [apply_ite State.sp, ite_self, drive_sp] using hrev

theorem compare1_sp (s : State) (chB : Bool) (k : Nat) (rb mid bdrop : Bool) : (s.compare1 chB k rb mid bdrop).sp = s.sp := by
  unfold compare1
  refine sp_ite rfl ?_
  dsimp only
  split
  · rfl
  · exact sp_ite rfl rfl

theorem senseOutputs_sp (s : State) (chB : Bool) (rb mid bdrop : BitVec 12) : (s.senseOutputs chB rb mid bdrop).sp = s.sp := by
  unfold senseOutputs
  have hpass := foldl_keeps State.sp (fun (s : State) k => s.compare1 chB k (bit rb k) (bit mid k) (bit bdrop k))
    (fun t k => compare1_sp t chB k _ _ _) (upFrom 12 0) s
  simpa only [apply_ite State.sp, ite_self] using hpass

@[simp] theorem setIo_sp (s : State) (o : Nat) (v : Word) : (s.setIo o v).sp = s.sp := rfl
@[simp] theorem setAxis_sp (s : State) (i : Nat) (v : AxisSt) : (s.setAxis i v).sp = s.sp := rfl
@[simp] theorem clrBits_sp (s : State) (a : Nat) (v : Word) : (s.clrBits a v).sp = s.sp := rfl

theorem captureAxis_sp (s : State) (i : Nat) : (s.captureAxis i).sp = s.sp := by
  unfold captureAxis
  dsimp only
  split <;> simp

theorem captureAxes_sp (s : State) : s.captureAxes.sp = s.sp := foldl_keeps State.sp _ captureAxis_sp _ s

theorem sesStrobeA_sp (s : State) : s.sesStrobeA.sp = s.sp := by
  unfold sesStrobeA
  refine foldl_keeps State.sp _ (fun t n => ?_) _ s
  exact sp_ite rfl (sp_ite rfl rfl)

theorem latchImage_sp (s : State) (mentry : Bool) : (s.latchImage mentry).sp = s.sp := by
  unfold latchImage
  simp only [setIo_sp]

theorem resumeA_keeps (s : State) : s.resumeA.chA = s.chA ∧ s.resumeA.col = s.col := by
  unfold resumeA
  dsimp only
  split <;> exact ⟨rfl, rfl⟩

/-- A processor that waits in CYCEND resumes at 0x40 (04 R124). -/
theorem resumeA_waiting {s : State} (h : s.sp.run = .waitStrobe) :
    s.resumeA.sp = { s.sp with run := .running, pc := 0x40, rets := [], loops := [], st := { s.sp.st with exc := false } } := by
  unfold resumeA
  simp only [h]

/-- What channel A has latched when its safety processor resumes (05 R149-R154). -/
theorem latchA_resumes (s : State) (e : StrobeEnv) : ∃ u : State, s.latchA e = u.resumeA ∧ u.sp = s.sp
    ∧ (u.chA.published = false ∧ u.chA.verdictUp = false ∧ u.chA.recIn = 0 ∧ u.chA.recZone = 0 ∧ u.chA.recDmd = 0 ∧ u.chA.recTag = 0
      ∧ u.chA.slots = 0 ∧ u.chA.seenMode ≠ none ∧ u.chA.crcOk = e.crcOk ∧ u.col.hint = some e.rc)
    ∧ (s.sp.run = .waitStrobe → u.chA.phase = .prologue) := by
  unfold latchA
  refine ⟨_, rfl, ?_, ⟨rfl, rfl, rfl, rfl, rfl, rfl, rfl, Option.some_ne_none _, rfl, rfl⟩, fun h => if_pos ?_⟩
  · simp only [setIo_sp, latchImage_sp, sesStrobeA_sp, captureAxes_sp, senseOutputs_sp, latchInputs_sp]
  · rw [h]
    rfl

/-- Channel A's strobe finds the safety processor as the strobe before left it. -/
theorem strobeA_latches (s : State) (e : StrobeEnv) : ∃ u : State, s.strobeA e = u.latchA e ∧ u.sp = s.sp := by
  unfold strobeA
  refine ⟨_, rfl, ?_⟩
  rw [leaveQuiet_sp, outPointA_sp, noVerdictA, onlyLog_sp (driveIf_only _ _ _ _), wcFire_sp, advanceTo_sp]

end State

theorem exec_cycleStrobe (e : StrobeEnv) (s : State) : exec (.cycleStrobe e) s
    = .next (if s.cycles && s.tmr.lock && (s.wc 0).armed then s.strobeA e else s) := rfl

/-- Settles O36: the strobe's last act is the resume of the processor that it found. -/
theorem cycleStrobe : Obligations.CycleStrobe := by
  unfold Obligations.CycleStrobe
  intro s e
  refine ⟨fun hc hl ha => ?_, fun h => ?_⟩
  · obtain ⟨u, hstrobe, husp⟩ := s.strobeA_latches e
    obtain ⟨v, hlatch, hvsp, ⟨hpub, hver, hin, hzone, hdmd, htag, hslots, hseen, hcrc, hhint⟩, hphase⟩ := u.latchA_resumes e
    obtain ⟨hchA, hcol⟩ := v.resumeA_keeps
    have hexec : exec (.cycleStrobe e) s = .next v.resumeA := by
      rw [exec_cycleStrobe, if_pos (by simp [hc, hl, ha]), hstrobe, hlatch]
    refine ⟨_, hexec, ?_⟩
    rw [hchA, hcol]
    refine ⟨hpub, hver, hin, hzone, hdmd, htag, hslots, hseen, hcrc, hhint, fun hw => ?_⟩
    rw [State.resumeA_waiting ((congrArg Cpu.run (hvsp.trans husp)).trans hw), hvsp, husp]
    exact ⟨rfl, rfl, rfl, rfl, rfl, rfl, rfl, hphase ((congrArg Cpu.run husp).trans hw)⟩
  · rw [exec_cycleStrobe, if_neg]
    rcases h with h | h | h <;> simp [h]

end Sys2Proof.Machine
end

section
/-! SUPPORT. Channel B's strobes and the end of the col slot (01 R24-R32, R40): what the loss of channel A's strobe leaves, and what a
processor woken by the verdict keeps. -/
namespace Sys2Proof.Machine
namespace State

theorem onlyLog_lat {s t : State} (h : s.onlyLog t) : t.lat = s.lat := by rw [h]
theorem onlyLog_col {s t : State} (h : s.onlyLog t) : t.col = s.col := by rw [h]
theorem onlyOutputs_lat {s t : State} (h : s.onlyOutputs t) : t.lat = s.lat := by rw [h]

/-! ### The window closes without channel A's strobe (01 R24, R27, R40) -/

theorem noteSupply_keeps_fault (s : State) (g : Bool) (n : Nat) (h : (s.src n).rail ≠ .ok) : ((s.noteSupply g).src n).rail ≠ .ok := by
  have hdrive : ∀ t : State, t.flt = s.flt → ((t.drive (supplySrc g) (det g.toNat)).src n).rail ≠ .ok := by
    intro t ht
    refine drive_keeps_fault t _ n _ ?_
    unfold src
    rwa [ht]
  unfold noteSupply
  by_cases hc : (s.supLow g && !s.vfLow g && (upFrom 6 (if g then 6 else 0)).any (fun k => (s.out k).dmdA || (s.out k).dmdB)) = true
  · rw [if_pos hc]
    cases g <;> exact hdrive _ rfl
  · rwa [if_neg hc]

/-- An output point clears no fault. -/
theorem applyDemands_keeps_fault (s : State) (chB : Bool) (dmd : BitVec 12) (n : Nat) (h : (s.src n).rail ≠ .ok) :
    ((s.applyDemands chB dmd).src n).rail ≠ .ok := by
  refine noteSupply_keeps_fault _ true n (noteSupply_keeps_fault _ false n ?_)
  have hflt := foldl_keeps State.flt (fun (s : State) k => s.demand1 chB k (bit dmd k)) (fun _ _ => rfl) (upFrom 12 0) s
  unfold src
  rwa [hflt]

/-- Channel B unlocked by a strobe that it has missed: the loss is counted and F008 driven (01 R24). -/
def unlockedLost (s : State) : State :=
  ({ s with lat := { s.lat with locked := false, lostCnt := satInc 255 s.lat.lostCnt } } : State).drive 8 0

theorem unlockedLost_lat (s : State) : s.unlockedLost.lat = { s.lat with locked := false, lostCnt := satInc 255 s.lat.lostCnt } :=
  onlyLog_lat (drive_only _ _ _)

theorem unlockedLost_fault (s : State) : (s.unlockedLost.src 8).rail ≠ .ok := drive_rail _ _ _ rfl

/-- At the window's close channel B strobes at its upper end, unlocked, with the loss counted, F008 driven, and a record due of a
channel A that has begun to strobe (01 R24, R27, R40). -/
theorem closeWindow_strobes (s : State) (e : StrobeEnvB) : ∃ u : State, s.closeWindow e = u.strobeB e s.lat.winHi
    ∧ u.lat.locked = false ∧ u.lat.lostCnt = satInc 255 s.lat.lostCnt ∧ (u.src 8).rail ≠ .ok ∧ u.col.aSeen = false
    ∧ u.col.hint = none ∧ (s.col.aSeen = false → s.chA.seenMode.isSome = true → u.col.dueA = true) := by
  obtain ⟨a, ha⟩ : ∃ a : State, a = if !s.col.aSeen && s.chA.seenMode.isSome then s.noVerdictB.unlockedLost.applyDemands false 0
      else s.noVerdictB.unlockedLost := ⟨_, rfl⟩
  have hlat : a.lat = { s.lat with locked := false, lostCnt := satInc 255 s.lat.lostCnt } := by
    rw [← onlyLog_lat (driveIf_only s _ 10 0 : s.onlyLog s.noVerdictB), ← unlockedLost_lat, ha]
    split
    · exact onlyOutputs_lat (applyDemands_only _ _ _)
    · rfl
  have hflt : (a.src 8).rail ≠ .ok := by
    rw [ha]
    split
    · exact applyDemands_keeps_fault _ _ _ _ (unlockedLost_fault _)
    · exact unlockedLost_fault _
  have hclose : s.closeWindow e = ({ a with
      col := { a.col with
        aSeen := false, hint := none, dueA := a.col.dueA || (!s.col.aSeen && s.chA.seenMode.isSome)
        strobeAt := if a.col.slotOpen then a.col.strobeAt else a.now
        cnt := if a.col.slotOpen then a.col.cnt else s.lat.cycle } } : State).strobeB e a.lat.winHi := by
    rw [ha]
    rfl
  rw [hclose, hlat]
  exact ⟨_, rfl, rfl, rfl, hflt, rfl, rfl, fun hseen hmode => by simp [hseen, hmode]⟩

/-! ### The end of the col slot (01 R26; 05 R153-R160) -/

/-- The state t has the col of s and its verdict flag. -/
def keepsCol (s t : State) : Prop := t.col = s.col ∧ t.chA.verdictUp = s.chA.verdictUp

theorem keepsCol_trans {s t u : State} (h : s.keepsCol t) (k : t.keepsCol u) : s.keepsCol u := ⟨k.1.trans h.1, k.2.trans h.2⟩

theorem keepsCol_ite {s t u : State} {c : Prop} [Decidable c] (h : s.keepsCol t) (k : s.keepsCol u) : s.keepsCol (if c then t else u) := by
  split
  · exact h
  · exact k

theorem settleStep_keepsCol (s : State) : s.keepsCol (s.settleStep .safety) := by
  unfold settleStep
  refine keepsCol_ite ⟨rfl, rfl⟩ ?_
  split <;> exact ⟨rfl, rfl⟩

theorem wakeRead_keepsCol (s : State) : s.keepsCol s.wakeRead := by
  unfold wakeRead
  split
  · split
    · refine keepsCol_trans ?_ (settleStep_keepsCol _)
      exact ⟨rfl, rfl⟩
    · exact ⟨rfl, rfl⟩
  · exact ⟨rfl, rfl⟩

theorem dueFault_keepsCol (s : State) (i : Nat) (c : Bool) : s.keepsCol (s.dueFault i c) := by
  unfold dueFault
  exact keepsCol_ite ⟨rfl, rfl⟩ ⟨rfl, rfl⟩

theorem prologue_keepsCol (s : State) : s.keepsCol s.prologue := by
  unfold prologue
  refine keepsCol_ite ⟨rfl, rfl⟩ ?_
  extract_lets checked put
  have hchecked : s.keepsCol checked := keepsCol_trans (dueFault_keepsCol s _ _) (dueFault_keepsCol _ _ _)
  have hput : checked.keepsCol put := ⟨rfl, rfl⟩
  refine keepsCol_trans (keepsCol_trans hchecked hput) ?_
  exact keepsCol_ite ⟨rfl, rfl⟩ (keepsCol_ite ⟨rfl, rfl⟩ ⟨rfl, rfl⟩)

theorem safePoint_keepsCol (s : State) (mask : Nat) : s.keepsCol (s.safePoint mask) := by
  unfold safePoint
  exact keepsCol_ite ⟨rfl, rfl⟩ ⟨rfl, rfl⟩

/-- The end of the col slot consumes both records and lifts the verdict. -/
theorem colSlot_consumes (s : State) (a b : Nat) (r m : Bool) :
    ∃ c : ColSt, (s.colSlot a b r m).col = { c with
        recA := none, recB := none, dueA := false, dueB := false, slotOpen := false, openA := false, openB := false }
      ∧ (s.colSlot a b r m).chA.verdictUp = true := by
  have wake : ∀ u : State, u.keepsCol (u.wakeRead.prologue.safePoint 0x88) := fun u =>
    keepsCol_trans (keepsCol_trans (wakeRead_keepsCol u) (prologue_keepsCol _)) (safePoint_keepsCol _ _)
  unfold colSlot
  exact ⟨_, (wake _).1, (wake _).2⟩

end State

theorem exec_channelBStrobeLocked (e : StrobeEnvB) (s : State) (rc : BitVec 32) (h : s.col.hint = some rc) :
    exec (.channelBStrobeLocked e) s = .next (if s.cycles && decide (s.lat.winLo ≤ rc.toNat) && decide (rc.toNat < s.lat.winHi) then
      { s.noVerdictB with
        lat := { s.noVerdictB.lat with locked := true }
        col := { s.noVerdictB.col with aSeen := false, hint := none } }.strobeB e rc.toNat else s) := by
  show execChannelBStrobeLocked e s = _
  unfold execChannelBStrobeLocked
  rw [h]

theorem exec_earlyStrobeIgnored (s : State) (rc : BitVec 32) (h : s.col.hint = some rc) :
    exec .earlyStrobeIgnored s = .next (if s.cycles && decide (rc.toNat < s.lat.winLo) then
      { s with lat := { s.lat with locked := false }, col := { s.col with hint := none } }.drive 8 0 else s) := by
  show execEarlyStrobeIgnored s = _
  unfold execEarlyStrobeIgnored
  rw [h]

theorem exec_channelBStrobeLocked_none (e : StrobeEnvB) (s : State) (h : s.col.hint = none) :
    exec (.channelBStrobeLocked e) s = .next s := by
  show execChannelBStrobeLocked e s = _
  unfold execChannelBStrobeLocked
  rw [h]

theorem exec_earlyStrobeIgnored_none (s : State) (h : s.col.hint = none) : exec .earlyStrobeIgnored s = .next s := by
  show execEarlyStrobeIgnored s = _
  unfold execEarlyStrobeIgnored
  rw [h]

theorem exec_acceptanceWindowClose (e : StrobeEnvB) (s : State) :
    exec (.acceptanceWindowClose e) s = .next (if s.cycles then s.closeWindow e else s) := rfl

theorem exec_colSlotEnd (a b : BitVec 16) (r m : Bool) (s : State) :
    exec (.colSlotEnd a b r m) s = .next (if s.col.slotOpen then s.colSlot a.toNat b.toNat r m else s) := rfl

/-- Settles O37: each command by the branch that its guard selects. -/
theorem channelB : Obligations.ChannelB := by
  unfold Obligations.ChannelB
  intro s hc
  refine ⟨fun e => ⟨fun rc hh hlo hhi => ?_, fun rc hh hout => ?_, exec_channelBStrobeLocked_none e s⟩, fun e => ?_,
    fun rc hh => ⟨fun hlo => ?_, fun hlo => ?_⟩, exec_earlyStrobeIgnored_none s, fun a b r m => ⟨fun ho => ?_, fun ho => ?_⟩⟩
  · rw [exec_channelBStrobeLocked e s rc hh, if_pos (by simp [hc, hlo, hhi])]
  · rw [exec_channelBStrobeLocked e s rc hh, if_neg (by simp only [hc, Bool.true_and, Bool.and_eq_true, decide_eq_true_eq]; omega)]
  · obtain ⟨u, hclose, hkept⟩ := s.closeWindow_strobes e
    exact ⟨u, by rw [exec_acceptanceWindowClose, if_pos hc, hclose], hkept⟩
  · rw [exec_earlyStrobeIgnored s rc hh, if_pos (by simp [hc, hlo])]
    exact ⟨_, rfl, State.onlyLog_lat (State.drive_only _ _ _), State.drive_rail _ _ _ rfl, State.onlyLog_col (State.drive_only _ _ _)⟩
  · rw [exec_earlyStrobeIgnored s rc hh, if_neg (by simp [hlo])]
  · obtain ⟨c, hcol, hup⟩ := s.colSlot_consumes a.toNat b.toNat r m
    refine ⟨_, by rw [exec_colSlotEnd, if_pos ho], ?_⟩
    rw [hcol]
    exact ⟨rfl, rfl, rfl, rfl, rfl, rfl, rfl, hup⟩
  · rw [exec_colSlotEnd, if_neg (by simp [ho])]

end Sys2Proof.Machine
end

section
/-! SUPPORT. Register accesses by their access code, and the latch of the time-base high word (03 R68-R76, R86). -/
namespace Sys2Proof.Machine
namespace State

/-! ### Writes by access code (03 R69, R71-R73) -/

/-- The value that an address writes by its quarter of the block (03 R73). -/
theorem aliased_aliasOf (o : Nat) (old v : Word) : aliased (aliasOf o) old v
    = if o / 0x4000 = 0 then v else if o / 0x4000 = 1 then old ||| v else if o / 0x4000 = 2 then old &&& ~~~v else old ^^^ v := by
  unfold aliasOf
  generalize o / 0x4000 = i
  match i with
  | 0 | 1 | 2 | _ + 3 => rfl

theorem aliasOf_direct {o : Nat} : aliasOf o = .direct ↔ o / 0x4000 = 0 := by
  unfold aliasOf
  generalize o / 0x4000 = i
  match i with
  | 0 | 1 | 2 | _ + 3 => simp

/-- What a write does to a register of kind k that is not locked (03 R69, R73, R79). -/
def writeOpen (s : State) (m a : Nat) (v : Word) (k : RegKind) : State × Nat :=
  let b := blockOf a
  let kind := aliasOf (a % 0x10000)
  let base := a - a % 0x10000 + a % 0x4000
  match k with
  | .ro | .rs | .count _ => (s, stIgnored)
  | .lk mask => s.lkWrite m b base kind mask v
  | .wo => if kind = .direct then s.woWrite m b (a % 0x4000) v else (s, stIgnored)
  | .w1c mask => if kind = .direct then (s.w1cWrite b base mask v, stOk) else (s, stIgnored)
  | .rw mask => s.rwWrite m b base kind mask v
  | .rwc mask =>
    if s.committing b then ({ s with conv := { s.conv with heldBack := s.conv.heldBack ++ [(a, v)] } }, stOk)
    else (s.shadowWrite base kind mask v, stOk)

/-- What a write of a register address does by the kind of register that it names (03 R69-R79). -/
def writeAt (s : State) (m a : Nat) (v : Word) : Option RegKind → State × Nat
  | none => (s, stDecode)
  | some (.count st) => (if aliasOf (a % 0x10000) = .direct then s.setReg st (s.reg st ||| 1) else s, stIgnored)
  | some k => if s.regLocked (blockOf a) (a % 0x4000) then (s, stIgnored) else s.writeOpen m a v k

/-- The model's write, by the kind of the register. The function is unfolded before it is applied: the kernel, asked to compare an
applied one with its body, would evaluate the register map at the unknown address. -/
theorem regWrite_eq (s : State) (m a : Nat) (v : Word) : s.regWrite m a v = s.writeAt m a v (regKind (blockOf a) (a % 0x4000)) := by
  generalize hf : @regWrite = f
  delta regWrite at hf
  subst hf
  cases h : regKind (blockOf a) (a % 0x4000) with
  | none => simp only [h, writeAt]
  | some k =>
    simp only [h]
    cases k with
    | count => exact ite_self _
    | _ => rfl

section
variable (s : State) (m : Nat) {a : Nat} (v : Word)

theorem regWrite_none (h : regKind (blockOf a) (a % 0x4000) = none) : s.regWrite m a v = (s, stDecode) := by
  rw [regWrite_eq, h]
  rfl

theorem regWrite_readOnly (h : regKind (blockOf a) (a % 0x4000) = some .ro ∨ regKind (blockOf a) (a % 0x4000) = some .rs) :
    s.regWrite m a v = (s, stIgnored) := by
  rw [regWrite_eq]
  rcases h with h | h <;> rw [h] <;> exact ite_self _

/-- A direct write of a counter sets IGN of its block (03 R74, R76). -/
theorem regWrite_count {st : Nat} (h : regKind (blockOf a) (a % 0x4000) = some (.count st)) (hd : a % 0x10000 / 0x4000 = 0) :
    s.regWrite m a v = (s.setReg st (s.reg st ||| 1), stIgnored) := by
  rw [regWrite_eq, h, writeAt, if_pos (aliasOf_direct.2 hd)]

section
variable (hl : s.regLocked (blockOf a) (a % 0x4000) = false)
include hl

theorem regWrite_open {k : RegKind} (h : regKind (blockOf a) (a % 0x4000) = some k) (hc : ∀ st, k ≠ .count st) :
    s.regWrite m a v = s.writeOpen m a v k := by
  rw [regWrite_eq, h]
  cases k with
  | count st => exact absurd rfl (hc st)
  | _ => exact if_neg (Bool.eq_false_iff.1 hl)

/-- Write-only and W1C registers are written through the first quarter of the block only (03 R73). -/
theorem regWrite_indirect_ignored (h : regKind (blockOf a) (a % 0x4000) = some .wo ∨ ∃ k, regKind (blockOf a) (a % 0x4000) = some (.w1c k))
    (ha : a % 0x10000 / 0x4000 ≠ 0) : s.regWrite m a v = (s, stIgnored) := by
  have hd := mt aliasOf_direct.1 ha
  rcases h with h | ⟨k, h⟩ <;> exact (s.regWrite_open m v hl h nofun).trans (if_neg hd)

theorem regWrite_w1c {k : Word} (h : regKind (blockOf a) (a % 0x4000) = some (.w1c k)) (hd : a % 0x10000 / 0x4000 = 0) :
    s.regWrite m a v = (s.w1cWrite (blockOf a) (a - a % 0x10000 + a % 0x4000) k v, stOk) :=
  (s.regWrite_open m v hl h nofun).trans (if_pos (aliasOf_direct.2 hd))

end

end

/-- Outside LOOP and GIO a direct write of a W1C register has no other effect (14 R392; 15 R409). -/
theorem w1cWrite_plain (s : State) {b : Nat} (a : Nat) (k v : Word) (h4 : b ≠ 4) (h5 : b ≠ 5) :
    s.w1cWrite b a k v = s.setReg a (s.reg a &&& ~~~(v &&& k)) := by
  simp only [w1cWrite, h4, h5, false_and, if_false]
  rfl

/-- Outside FLT, GIO, SES and TRU a write of an RW register has no other effect. -/
theorem rwWrite_plain (s : State) (m : Nat) {b : Nat} (a : Nat) (kind : WriteKind) (k v : Word) (h1 : b ≠ 1) (h5 : b ≠ 5)
    (h7 : b ≠ 7) (h11 : b ≠ 11) : s.rwWrite m b a kind k v = (s.setReg a (mergeMask (s.reg a) (aliased kind (s.reg a) v) k), stOk) := by
  simp only [rwWrite, h1, h5, h7, h11, false_and, if_false]

/-! ### The time base (03 R86) -/

theorem regRead_timeBaseHigh (s : State) (m : Nat) : s.regRead m (tmrB + 0xC) = ((s.readHigh m).1, stOk, (s.readHigh m).2) := rfl

theorem readHigh_latched {s : State} {m : Nat} {w : Word} (h : look none s.conv.tbLatch m = some w) :
    s.readHigh m = ({ s with conv := { s.conv with tbLatch := put none s.conv.tbLatch m none } }, w) := by
  simp only [readHigh, h]

theorem readHigh_live {s : State} {m : Nat} (h : look none s.conv.tbLatch m = none) : s.readHigh m = (s, w32 (s.now / 2 ^ 32)) := by
  simp only [readHigh, h]

end State

theorem regionOf_block {a : Nat} (h : a / 0x100000 = 0x300) : regionOf a = .regs := by
  unfold regionOf
  rw [if_neg (by omega), if_neg (by omega), if_neg (by omega), if_pos (by omega)]

section
variable {s : State} {m : Fin 10} (h : s.revoked m = false)
include h

theorem exec_registerWrite_refused (a v : Word) {z : AccessSize} (hz : z ≠ .b32 ∨ a.toNat % 4 ≠ 0 ∨ regionOf a.toNat ≠ .regs) :
    exec (.registerWrite m a v z) s = .next (s.answer stDecode []) := by
  show execRegisterWrite m a v z s = _
  rw [execRegisterWrite, h, if_neg Bool.false_ne_true, if_pos hz]

/-- An aligned word access of a register address by an open port answers as the register does. -/
theorem exec_registerWrite_word {a : Word} (v : Word) (ha : a.toNat / 0x100000 = 0x300) (h4 : a.toNat % 4 = 0) :
    exec (.registerWrite m a v .b32) s = .next ((s.regWrite m a.toNat v).1.answer (s.regWrite m a.toNat v).2 []) := by
  show execRegisterWrite m a v .b32 s = _
  rw [execRegisterWrite, h, if_neg Bool.false_ne_true, if_neg (by simp [h4, regionOf_block ha])]

theorem exec_timeBaseLowRead : exec (.timeBaseLowRead m) s = .next ((s.readLow m).1.answer stOk [(s.readLow m).2]) := by
  show execTimeBaseLowRead m s = _
  rw [execTimeBaseLowRead, h]
  rfl

end

/-- Settles O43: the write that each access code makes, for every register of the map. -/
theorem registerWrites : Obligations.RegisterWrites := by
  unfold Obligations.RegisterWrites
  intro s m a v hm
  extract_lets b o base quarter
  refine ⟨fun z hz => exec_registerWrite_refused hm a v (.inl hz), fun h4 => exec_registerWrite_refused hm a v (.inr (.inl h4)),
    fun ha h4 => ?_⟩
  rw [exec_registerWrite_word hm v ha h4]
  refine ⟨fun hk => ?_, fun hk => ?_, fun hl hal hk => ?_, fun k hk hl hc => ?_, fun k hk hl hc => ?_, fun k hk hl h1 h5 h7 h11 => ?_,
    fun k hk hl hal h4 h5 => ?_, fun st hk hal => ?_⟩
  · rw [s.regWrite_none m v hk]
  · rw [s.regWrite_readOnly m v hk]
  · rw [s.regWrite_indirect_ignored m v hl hk hal]
  · have hopen : s.regWrite m a.toNat v = (s.shadowWrite base (State.aliasOf (a.toNat % 0x10000)) k v, stOk) :=
      (s.regWrite_open m v hl hk nofun).trans (if_neg (Bool.eq_false_iff.1 hc))
    rw [hopen, State.shadowWrite, State.mergeMask, State.aliased_aliasOf]
  · rw [(s.regWrite_open m v hl hk nofun).trans (if_pos hc)]
  · have hopen := (s.regWrite_open m v hl hk nofun).trans (s.rwWrite_plain m base _ k v h1 h5 h7 h11)
    rw [hopen, State.mergeMask, State.aliased_aliasOf]
  · have hopen := (s.regWrite_w1c m v hl hk hal).trans (congrArg (·, stOk) (s.w1cWrite_plain base k v h4 h5))
    rw [hopen]
  · rw [s.regWrite_count m v hk hal]

/-- Settles O42: a master's latch is its own entry of a table. -/
theorem timeBaseLatch : Obligations.TimeBaseLatch := by
  unfold Obligations.TimeBaseLatch
  intro s m
  refine ⟨fun hm => ⟨_, exec_timeBaseLowRead hm, rfl, rfl, fun k hk => ?_, fun u hu => ?_⟩, fun hnone => ?_⟩
  · exact look_put_ne _ _ _ _ _ _ (Fin.val_ne_of_ne hk)
  · have hlatched : look none u.conv.tbLatch m = some (w32 (s.now / 2 ^ 32)) := hu.trans (look_put _ _ _ _)
    rw [State.regRead_timeBaseHigh, State.readHigh_latched hlatched]
    exact ⟨rfl, look_put _ _ _ _, fun k hk => look_put_ne _ _ _ _ _ _ (Fin.val_ne_of_ne hk)⟩
  · rw [State.regRead_timeBaseHigh, State.readHigh_live hnone]
    rfl

end Sys2Proof.Machine
end

section
/-! SUPPORT. Commits (03 R77-R83, R87-R90): what a write of COMMIT records, which groups hold a commit back, and what its apply and a
snapshot leave alone. -/
namespace Sys2Proof.Machine
namespace State

/-! ### A write of COMMIT and of DISCARD (03 R78-R80, R83) -/

/-- The mask of a group register is its low byte (03 R78). -/
theorem fld_lowByte (v : Word) : fld v 0 8 = v.toNat % 256 := rfl

/-- A commit's state, mask and first conflict, as a write of COMMIT records them. -/
def commitShown (s : State) (st mask : Nat) (err : Word) : State :=
  { s with conv := { s.conv with cstate := st, cmask := mask, held := 0 } }.setReg (sysB + 0x20) err

theorem startCommit_busy {s : State} (h : s.conv.cstate = 1) (v : Word) : s.startCommit v = (s, stIgnored) := by
  rw [startCommit, if_pos h]

section
variable {s : State} (h : s.conv.cstate ≠ 1) {v : Word}
include h

theorem startCommit_empty (hv : v.toNat % 256 = 0) : s.startCommit v = (s.commitShown 2 (v.toNat % 256) 0, stOk) := by
  simp only [startCommit, h, fld_lowByte, hv, if_true, if_false]
  rfl

theorem startCommit_clean (hv : v.toNat % 256 ≠ 0) (hc : s.firstConflict (v.toNat % 256) = 0) :
    s.startCommit v = (s.commitShown 1 (v.toNat % 256) 0, stOk) := by
  simp only [startCommit, h, fld_lowByte, hv, hc, if_true, if_false]
  rfl

theorem startCommit_conflict (hv : v.toNat % 256 ≠ 0) (hc : s.firstConflict (v.toNat % 256) ≠ 0) :
    s.startCommit v = (s.commitShown 3 (v.toNat % 256) (s.firstConflict (v.toNat % 256)), stOk) := by
  simp only [startCommit, h, fld_lowByte, hv, hc, if_false]
  rfl

end

theorem pend_iff (s : State) (mask a : Nat) :
    s.pend mask a = true ↔ (look none s.conv.shadow a).isSome = true ∧ ∃ g, groupAt a = some g ∧ mask.testBit g = true := by
  unfold pend
  rw [Bool.and_eq_true]
  cases groupAt a <;> simp

theorem pend_congr {s t : State} (h : t.conv = s.conv) (mask a : Nat) : t.pend mask a = s.pend mask a := by
  unfold pend
  rw [h]

/-- No write of a group outside the mask is pending in it. -/
theorem pend_outside (s : State) {mask a g : Nat} (hg : groupAt a = some g) (hm : mask.testBit g = false) : s.pend mask a = false := by
  simp [pend, hg, hm]

/-! ### The safe points (03 R77, R78) -/

theorem heldAtOnce_testBit (s : State) {g : Nat} (hg : g < 8) :
    s.heldAtOnce.testBit g = true ↔ g = 0 ∨ g = 2 ∨ g = 4 ∨ g = 6 ∧ s.host.read = none := by
  unfold heldAtOnce
  revert g
  cases s.host.read with
  | none =>
    simp only [Option.isSome_none, Bool.false_eq_true, if_false, and_true]
    decide
  | some r =>
    simp only [Option.isSome_some, if_true, reduceCtorEq, and_false]
    decide

/-- A mask of groups lies within another exactly if each of its groups does. -/
theorem and_eq_self_iff {k w : Nat} (hk : k < 256) : k &&& w = k ↔ ∀ g < 8, k.testBit g = true → w.testBit g = true := by
  constructor
  · intro h g _ hg
    rw [← h, Nat.testBit_and, Bool.and_eq_true] at hg
    exact hg.2
  · intro h
    refine Nat.eq_of_testBit_eq fun g => ?_
    rw [Nat.testBit_and]
    by_cases hg : g < 8
    · cases hkg : k.testBit g with
      | false => rfl
      | true => exact h g hg hkg
    · rw [Nat.testBit_lt_two_pow (Nat.lt_of_lt_of_le hk (Nat.pow_le_pow_right (n := 2) (by decide) (Nat.le_of_not_lt hg)))]
      rfl

theorem allHeld_iff {s : State} (h1 : s.conv.cstate = 1) (hm : s.conv.cmask < 256) : s.allHeld = true ↔
    ∀ g : Nat, g < 8 → s.conv.cmask.testBit g = true →
      s.conv.held.testBit g = true ∨ g = 0 ∨ g = 2 ∨ g = 4 ∨ (g = 6 ∧ s.host.read = none) := by
  have hall : s.allHeld = true ↔ s.conv.cmask &&& (s.conv.held ||| s.heldAtOnce) = s.conv.cmask := by
    simp [allHeld, h1]
  rw [hall, and_eq_self_iff hm]
  refine forall₃_congr fun g hg _ => ?_
  rw [Nat.testBit_or, Bool.or_eq_true, heldAtOnce_testBit s hg]

/-! ### What every island leaves alone -/

/-- The registers' conventions, the time base and its lock. -/
def convTime (s : State) : ConvSt × Stamp × Bool := (s.conv, s.tmr.tb, s.tmr.lock)

theorem onlyLog_convTime {s t : State} (h : s.onlyLog t) : t.convTime = s.convTime := by
  rw [h]
  rfl

theorem convTime_ite {s t u : State} {c : Prop} [Decidable c] (h : t.convTime = s.convTime) (k : u.convTime = s.convTime) :
    (if c then t else u).convTime = s.convTime := by
  split
  · exact h
  · exact k

theorem drive_convTime (s : State) (n : Nat) (d : BitVec 16) : (s.drive n d).convTime = s.convTime := onlyLog_convTime (drive_only s n d)

theorem convTime_conv {s t : State} (h : t.convTime = s.convTime) : t.conv = s.conv := congrArg Prod.fst h

/-! ### A tick and a snapshot (03 R87; 13 R361-R373) -/

theorem tcActs_convTime (s : State) (n : Nat) (wrap m0 m1 : Bool) : (s.tcActs n wrap m0 m1).convTime = s.convTime := by
  unfold tcActs
  exact convTime_ite rfl rfl

theorem tcPresc_convTime (s : State) (n : Nat) : (s.tcPresc n).convTime = s.convTime := by
  unfold tcPresc
  exact convTime_ite rfl rfl

theorem tcCount_convTime (s : State) (n : Nat) (down : Bool) (off : Nat → Bool) : (s.tcCount n down off).convTime = s.convTime := rfl

theorem tcStep_convTime (s : State) (n : Nat) (down : Bool) : (s.tcStep n down).convTime = s.convTime :=
  (tcActs_convTime _ n _ _ _).trans (tcCount_convTime s n down _)

theorem tcTick_convTime (s : State) (n : Nat) : (s.tcTick n).convTime = s.convTime := by
  unfold tcTick
  exact convTime_ite ((tcStep_convTime _ n _).trans (tcPresc_convTime s n)) (tcPresc_convTime s n)

theorem tcApplyTick_convTime (s : State) (n : Nat) (wrote : Nat → Bool) : (s.tcApplyTick n wrote).convTime = s.convTime := by
  unfold tcApplyTick
  exact convTime_ite ((tcCount_convTime _ n _ _).trans (tcPresc_convTime s n)) (tcPresc_convTime s n)

/-- Of these three a tick moves the time base alone. -/
theorem tickWith_convTime {s : State} (h : s.tmr.lock = true) (wrote : Nat → Nat → Bool) :
    (s.tickWith wrote).convTime = (s.conv, s.tmr.tb + 1, true) := by
  unfold tickWith
  rw [if_neg (by simp [h])]
  refine (foldl_keeps convTime _ (fun t n => ?_) _ _).trans (by simp only [convTime, h])
  exact convTime_ite (tcApplyTick_convTime t n _) (tcTick_convTime t n)

/-- A loop that stores registers stores no other. -/
theorem foldl_setReg_reg (l : List Nat) (f : Nat → Nat) (v : State → Nat → Word) {a : Nat} (h : ∀ n, a ≠ f n) (s : State) :
    (l.foldl (fun (t : State) n => t.setReg (f n) (v t n)) s).reg a = s.reg a :=
  foldl_keeps (fun t => t.reg a) _ (fun t n => reg_setReg_ne t _ _ _ (h n)) l s

/-- The registers of TMR, GIO and LOOP that a snapshot stores (13 R384; 14 R400; 15 R412). -/
def snapUnits (s : State) : State :=
  let s := (upFrom 16 0).foldl (fun (t : State) n => t.setReg (tcA n 0x38) (t.tc n).cnt) s
  let s := (upFrom 16 0).foldl (fun (t : State) n => t.setReg (gioB + 0x180 + 4 * n) (t.reg (gioB + 0x100 + 4 * n))) s
  (upFrom 4 0).foldl (fun (t : State) n => t.setReg (lpA n 0x2C) ((look {} t.loop.lps n).rb.setWidth 32)) s

theorem snapUnits_only (s : State) : s.onlyLog s.snapUnits := by
  have store (l : List Nat) (f : Nat → Nat) (v : State → Nat → Word) (t : State) :
      t.onlyLog (l.foldl (fun (t : State) n => t.setReg (f n) (v t n)) t) :=
    onlyLog_foldl (fun (t : State) n => t.setReg (f n) (v t n)) (fun _ _ => rfl) l t
  exact onlyLog_trans (onlyLog_trans (store _ _ _ _) (store _ _ _ _)) (store _ _ _ _)

theorem snapUnits_reg (s : State) {a : Nat} (ha : a < tmrB) : s.snapUnits.reg a = s.reg a := by
  have htc (n : Nat) : a ≠ tcA n 0x38 := by simp only [tcA, tmrB] at ha ⊢; omega
  have hgio (n : Nat) : a ≠ gioB + 0x180 + 4 * n := by simp only [gioB, tmrB] at ha ⊢; omega
  have hlp (n : Nat) : a ≠ lpA n 0x2C := by simp only [lpA, loopB, tmrB] at ha ⊢; omega
  exact (foldl_setReg_reg _ _ _ hlp _).trans ((foldl_setReg_reg _ _ _ hgio _).trans (foldl_setReg_reg _ _ _ htc s))

theorem snapNow_eq {s : State} (hb : s.conv.snapBusy = true) (hl : s.tmr.lock = true) :
    s.snapNow = { (s.snapUnits.setReg (sysB + 0x48) (w32 s.snapUnits.now)).setReg (sysB + 0x4C) (w32 (s.snapUnits.now / 2 ^ 32)) with
      conv := { s.snapUnits.conv with snapBusy := false, snapSeq := s.snapUnits.conv.snapSeq + 1 } } := by
  rw [snapNow, if_neg (by simp [hb, hl])]
  rfl

/-- A requested snapshot holds the time base and is counted; it stores nothing in FLT and GOV. -/
theorem snapNow_taken {s : State} (hb : s.conv.snapBusy = true) (hl : s.tmr.lock = true) :
    s.snapNow.conv = { s.conv with snapBusy := false, snapSeq := s.conv.snapSeq + 1 } ∧ s.snapNow.tmr = s.tmr
    ∧ s.snapNow.reg (sysB + 0x48) = w32 s.now ∧ s.snapNow.reg (sysB + 0x4C) = w32 (s.now / 2 ^ 32)
    ∧ ∀ a, fltB ≤ a → a < tmrB → s.snapNow.reg a = s.reg a := by
  have htmr := onlyLog_tmr (snapUnits_only s)
  have hconv := convTime_conv (onlyLog_convTime (snapUnits_only s))
  have hunits (a : Nat) (ha : a < tmrB) : s.snapUnits.reg a = s.reg a := snapUnits_reg s ha
  rw [snapNow_eq hb hl]
  generalize s.snapUnits = u at htmr hconv hunits
  have hnow : u.now = s.now := by rw [now, htmr, now]
  rw [hnow, hconv]
  refine ⟨rfl, htmr, ?_, reg_setReg _ _ _, fun a hlo hhi => ?_⟩
  · exact (reg_setReg_ne _ _ _ _ (by decide)).trans (reg_setReg _ _ _)
  · have h48 : a ≠ sysB + 0x48 := by simp only [fltB, sysB] at hlo ⊢; omega
    have h4C : a ≠ sysB + 0x4C := by simp only [fltB, sysB] at hlo ⊢; omega
    exact (reg_setReg_ne _ _ _ _ h4C).trans ((reg_setReg_ne _ _ _ _ h48).trans (hunits a hhi))

/-- What a commit relies on after its apply: a snapshot keeps everything of the conventions but its own state, and stores nothing in
FLT and GOV. -/
theorem snapNow_keeps (s : State) : (∃ busy seq, s.snapNow.conv = { s.conv with snapBusy := busy, snapSeq := seq })
    ∧ ∀ a, fltB ≤ a → a < tmrB → s.snapNow.reg a = s.reg a := by
  by_cases h : s.conv.snapBusy = true ∧ s.tmr.lock = true
  · obtain ⟨hconv, -, -, -, hreg⟩ := snapNow_taken h.1 h.2
    exact ⟨⟨_, _, hconv⟩, hreg⟩
  · have hidle : (!s.conv.snapBusy || !s.tmr.lock) = true := by
      rw [← Bool.not_and, Bool.not_eq_true', ← Bool.not_eq_true, Bool.and_eq_true]
      exact h
    rw [show s.snapNow = s from if_pos hidle]
    exact ⟨⟨_, _, rfl⟩, fun _ _ _ => rfl⟩

/-! ### The apply of each island (03 R74, R77, R78) -/

theorem tcApply_convTime (s : State) (n : Nat) (oldCtl oldPins oldPresc : Word) (wrote : Nat → Bool) (e : TcEvents) :
    (s.tcApply n oldCtl oldPins oldPresc wrote e).convTime = s.convTime := by
  unfold tcApply
  exact (tcActs_convTime _ _ _ _ _).trans (convTime_ite rfl rfl)

theorem wcFire_convTime (s : State) (w : Nat) : (s.wcFire w).convTime = s.convTime := by
  unfold wcFire
  exact convTime_ite rfl rfl

theorem wcLoad_convTime (s : State) (w : Nat) : (s.wcLoad w).convTime = s.convTime := by
  have hfire (t : State) (c : Prop) [Decidable c] (a : Nat) (v : Word) : (if c then t.wcFire w else t.setBits a v).convTime = t.convTime :=
    convTime_ite (wcFire_convTime t w) rfl
  unfold wcLoad
  exact convTime_ite rfl (convTime_ite (hfire _ _ _ _) (hfire _ _ _ _))

theorem timerApply_convTime (old : State) (mask : Nat) (s : State) : (timerApply old mask s).convTime = s.convTime := by
  unfold timerApply
  refine (foldl_keeps convTime _ (fun t w => ?_) _ _).trans (foldl_keeps convTime _ (fun t n => ?_) _ _)
  · exact convTime_ite (wcLoad_convTime t w) rfl
  · exact convTime_ite (tcApply_convTime t n _ _ _ _ _) rfl

theorem fskStop_convTime (s : State) (n : Nat) : (s.fskStop n).convTime = s.convTime := rfl

theorem loopApply_convTime (s : State) (n : Nat) (oldCtl : Word) : (s.loopApply n oldCtl).convTime = s.convTime := by
  unfold loopApply
  exact convTime_ite ((fskStop_convTime _ n).trans (convTime_ite rfl rfl)) (convTime_ite rfl rfl)

theorem gioNote_convTime (s : State) : s.gioNote.convTime = s.convTime := by
  unfold gioNote
  exact convTime_ite (drive_convTime _ _ _) rfl

theorem setGio_convTime (s : State) (g : GioSt) : ({ s with gio := g } : State).convTime = s.convTime := rfl

theorem gioApply_convTime (s : State) (wrote : Nat → Bool) : (s.gioApply wrote).convTime = s.convTime := by
  unfold gioApply
  extract_lets bad t u
  have ht : t.convTime = s.convTime := convTime_ite rfl rfl
  have hu : u.convTime = t.convTime := by
    refine foldl_keeps convTime _ (fun v n => ?_) _ t
    exact convTime_ite rfl rfl
  exact (gioNote_convTime _).trans ((setGio_convTime u _).trans (hu.trans ht))

theorem setRing_convTime (s : State) (r2 : Bool) (r : RingSt) : (s.setRing r2 r).convTime = s.convTime := by
  unfold setRing
  exact convTime_ite rfl rfl

theorem setPort_convTime (s : State) (r2 pB : Bool) (p : PortSt) : (s.setPort r2 pB p).convTime = s.convTime := setRing_convTime s r2 _

theorem wholeFalls_convTime (s : State) (r2 : Bool) : (s.wholeFalls r2).convTime = s.convTime := by
  unfold wholeFalls
  exact convTime_ite rfl ((drive_convTime _ _ _).trans (setRing_convTime s r2 _))

theorem lineWhole_convTime (s : State) (r2 : Bool) : (s.lineWhole r2).convTime = s.convTime := by
  unfold lineWhole
  exact convTime_ite rfl (convTime_ite (setRing_convTime s r2 _) (wholeFalls_convTime s r2))

theorem phyBad_convTime (s : State) (phy : Nat) : (s.phyBad phy).convTime = s.convTime := by
  unfold phyBad
  exact convTime_ite rfl rfl

theorem linkChange_convTime (s : State) (r2 pB up : Bool) : (s.linkChange r2 pB up).convTime = s.convTime := by
  unfold linkChange
  refine convTime_ite rfl (convTime_ite ((lineWhole_convTime _ _).trans (setPort_convTime _ _ _ _)) ?_)
  extract_lets ls t u
  have hu : u.convTime = s.convTime :=
    (convTime_ite (lineWhole_convTime _ _) (wholeFalls_convTime _ _)).trans (setPort_convTime s r2 pB _)
  exact convTime_ite ((drive_convTime _ _ _).trans ((phyBad_convTime _ _).trans hu)) hu

theorem netApply_convTime (s : State) : s.netApply.convTime = s.convTime := by
  have hring (t : State) (r2 : Bool) : (if t.ringOn r2 then t.lineWhole r2
      else (t.linkChange r2 false false).linkChange r2 true false).convTime = t.convTime :=
    convTime_ite (lineWhole_convTime t r2) ((linkChange_convTime _ _ _ _).trans (linkChange_convTime _ _ _ _))
  exact (hring _ true).trans (hring s false)

theorem govClamp_convTime (s : State) (o len lo hi : Nat) : (s.govClamp o len lo hi).convTime = s.convTime := by
  unfold govClamp
  exact convTime_ite rfl (convTime_ite rfl rfl)

theorem govApply_convTime (s : State) : s.govApply.convTime = s.convTime := by
  unfold govApply
  simp only [govClamp_convTime]

theorem queueApply_convTime (old : State) (own : Bool) (s : State) (q : Nat) : (queueApply old own s q).convTime = s.convTime := by
  unfold queueApply
  extract_lets moved v t u _ w
  have hu : u.convTime = s.convTime := convTime_ite rfl rfl
  have hw : w.convTime = s.convTime := convTime_ite hu hu
  exact convTime_ite hw hw

/-! ### The apply of a commit (03 R78, R79) -/

/-- Entries that are not pending in a group of the mask. -/
theorem mem_filter_pend (s : State) (mask : Nat) (e : Nat × Option Word) :
    e ∈ s.conv.shadow.filter (fun e => !s.pend mask e.1) ↔ e ∈ s.conv.shadow ∧ ¬ s.pend mask e.1 = true := by
  rw [List.mem_filter, Bool.not_eq_true', Bool.not_eq_true]

theorem applyRegs_conv (s : State) (mask : Nat) :
    (s.applyRegs mask).conv = { s.conv with shadow := s.conv.shadow.filter (fun e => !s.pend mask e.1) } := by
  unfold applyRegs
  refine foldl_keeps State.conv _ (fun t e => ?_) _ _
  cases e.2 with
  | none => rfl
  | some v => dsimp only; split <;> rfl

/-- The store of one pending value at the apply. -/
def applyEntry (p : Nat → Bool) (t : State) (e : Nat × Option Word) : State :=
  match e.2 with
  | some v => if p e.1 then t.setReg e.1 v else t
  | none => t

theorem applyEntry_reg (p : Nat → Bool) (t : State) (j a : Nat) (b : Option Word) :
    (applyEntry p t (j, b)).reg a = if a = j ∧ p j then b.getD (t.reg a) else t.reg a := by
  unfold applyEntry
  cases b with
  | none => simp
  | some v =>
    dsimp only
    by_cases hp : p j = true
    · simp [hp, reg_setReg_eq]
    · simp [hp]

theorem look_of_above {α : Type} (d : α) {k i : Nat} {t : Tab α} (h : above k t) (hi : i ≤ k) : look d t i = d := by
  cases t with
  | nil => rfl
  | cons e t =>
    have hk : k < e.1 := h
    rw [look, if_neg (by omega), if_pos (by omega)]

/-- Each register takes its own entry of the table. -/
theorem foldl_applyEntry_reg (p : Nat → Bool) (a : Nat) (l : Tab (Option Word)) (hl : tabWf none l = true) (t : State) :
    (l.foldl (applyEntry p) t).reg a = if p a then (look none l a).getD (t.reg a) else t.reg a := by
  induction l generalizing t with
  | nil => simp [look]
  | cons e l ih =>
    obtain ⟨j, b⟩ := e
    obtain ⟨-, habove, hwf⟩ := (tabWf_cons none j b l).1 hl
    rw [List.foldl_cons, ih hwf, applyEntry_reg]
    by_cases haj : a = j
    · subst haj
      rw [look_of_above none habove (Nat.le_refl a), look, if_pos rfl]
      cases p a <;> simp
    · have hlook : look none ((j, b) :: l) a = look none l a := by
        rw [look, if_neg haj]
        split
        · next hlt => exact (look_of_above none habove (Nat.le_of_lt hlt)).symm
        · rfl
      rw [hlook]
      simp [haj]

/-- With the pending writes in order, the apply gives each register the value that the conflicts are judged by. -/
theorem applyRegs_reg {s : State} (h : tabWf none s.conv.shadow = true) (mask a : Nat) :
    (s.applyRegs mask).reg a = s.afterApply mask a := by
  refine (foldl_applyEntry_reg (s.pend mask) a _ h _).trans ?_
  unfold afterApply
  by_cases hp : s.pend mask a = true
  · obtain ⟨w, hw⟩ := Option.isSome_iff_exists.1 ((pend_iff s mask a).1 hp).1
    simp [hp, hw]
  · rw [if_neg hp, if_neg hp]
    rfl

theorem foldl_idle {α : Type} (f : State → α → State) (l : List α) (s : State) (h : ∀ a ∈ l, f s a = s) : l.foldl f s = s :=
  List.foldlRecOn (motive := fun t => t = s) l f rfl (fun t ht a ha => by rw [ht]; exact h a ha)

theorem lt_of_mem_upFrom {k i n : Nat} (h : n ∈ upFrom k i) : n < i + k := by
  rw [upFrom_eq_range', List.mem_range'_1] at h
  exact h.2

theorem groupAt_tcA {n o : Nat} (hn : n < 16) (ho : o < 0x40) : groupAt (tcA n o) = some 0 := by
  have hb : blockOf (tcA n o) = 3 := by
    unfold blockOf tcA
    simp only [tmrB, sysB]
    omega
  rw [groupAt, hb]
  rfl

theorem groupAt_wcA {w o : Nat} (hw : w < 4) (ho : o < 0x20) : groupAt (wcA w o) = some 0 := by
  have hb : blockOf (wcA w o) = 3 := by
    unfold blockOf wcA
    simp only [tmrB, sysB]
    omega
  rw [groupAt, hb]
  rfl

theorem groupAt_queue {q i : Nat} (hq : q < 128) (hi : i < 4) : groupAt (queB + 0x1000 + 16 * q + 4 * i) = some 4 := by
  have hb : blockOf (queB + 0x1000 + 16 * q + 4 * i) = 8 := by
    unfold blockOf
    simp only [queB, sysB]
    omega
  rw [groupAt, hb]
  rfl

/-- A commit without CG0 leaves the timer island alone. -/
theorem timerApply_idle (old s : State) {mask : Nat} (h : mask.testBit 0 = false) : timerApply old mask s = s := by
  unfold timerApply
  refine (foldl_idle _ _ _ fun w hw => ?_).trans (foldl_idle _ _ s fun n hn => if_neg ?_)
  · have hw4 := lt_of_mem_upFrom hw
    refine if_neg ?_
    rw [pend_outside old (groupAt_wcA (by omega) (by decide)) h, pend_outside old (groupAt_wcA (by omega) (by decide)) h]
    decide
  · have hn16 := lt_of_mem_upFrom hn
    rw [List.any_eq_true]
    rintro ⟨i, hi, hp⟩
    have hi10 := lt_of_mem_upFrom hi
    rw [pend_outside old (groupAt_tcA (by omega) (by omega)) h] at hp
    exact Bool.false_ne_true hp

/-- What an apply does to every queue (16 R422, R423). -/
def queuesApply (old : State) (mask : Nat) (s : State) : State :=
  (upFrom 128 0).foldl (fun (t : State) q =>
    if (upFrom 4 0).any (fun i => old.pend mask (queB + 0x1000 + 16 * q + 4 * i)) then
      queueApply old (old.pend mask (queB + 0x1008 + 16 * q)) t q
    else t) s

theorem queuesApply_convTime (old : State) (mask : Nat) (s : State) : (queuesApply old mask s).convTime = s.convTime := by
  unfold queuesApply
  refine foldl_keeps convTime _ (fun t q => ?_) _ s
  exact convTime_ite (queueApply_convTime _ _ _ _) rfl

/-- A commit without CG4 leaves the queues alone. -/
theorem queuesApply_idle (old s : State) {mask : Nat} (h : mask.testBit 4 = false) : queuesApply old mask s = s := by
  unfold queuesApply
  refine foldl_idle _ _ s fun q hq => if_neg ?_
  have hq128 := lt_of_mem_upFrom hq
  rw [List.any_eq_true]
  rintro ⟨i, hi, hp⟩
  have hi4 := lt_of_mem_upFrom hi
  rw [pend_outside old (groupAt_queue (by omega) (by omega)) h] at hp
  exact Bool.false_ne_true hp

/-- What the islands of a mask do once its values are active. -/
def islandsApply (old : State) (mask : Nat) (s : State) : State :=
  let s := timerApply old mask s
  let s := if mask.testBit 1 then (upFrom 4 0).foldl (fun (t : State) n => t.loopApply n (old.reg (lpA n 0))) s else s
  let s := if mask.testBit 2 then s.gioApply (fun o => old.pend mask (gioB + o)) else s
  let s := if mask.testBit 3 then s.netApply else s
  let s := if mask.testBit 5 then s.govApply else s
  queuesApply old mask s

theorem islandsApply_convTime (old : State) (mask : Nat) (s : State) : (islandsApply old mask s).convTime = s.convTime := by
  unfold islandsApply
  have hloop (t : State) : ((upFrom 4 0).foldl (fun (t : State) n => t.loopApply n (old.reg (lpA n 0))) t).convTime = t.convTime :=
    foldl_keeps convTime _ (fun t n => loopApply_convTime t n _) _ t
  refine (queuesApply_convTime old mask _).trans ?_
  refine (convTime_ite (govApply_convTime _) rfl).trans ?_
  refine (convTime_ite (netApply_convTime _) rfl).trans ?_
  refine (convTime_ite (gioApply_convTime _ _) rfl).trans ?_
  exact (convTime_ite (hloop _) rfl).trans (timerApply_convTime old mask s)

/-- A commit of the collector's group alone touches no island. -/
theorem islandsApply_collector (old s : State) : islandsApply old 0x80 s = s := by
  unfold islandsApply
  rw [timerApply_idle old s (by decide), queuesApply_idle old _ (by decide)]
  rfl

theorem releaseHeld_none {s : State} (h : s.conv.heldBack = []) : s.releaseHeld = s := by
  unfold releaseHeld
  rw [h, List.foldl_nil, ← h]

/-- The values of the commit in progress, active after their tick (03 R74, R78). -/
def appliedValues (s : State) : State :=
  (s.tickWith (fun n o => s.pend s.conv.cmask (tcA n o))).applyRegs s.conv.cmask

theorem commitApply_waits {s : State} (h : s.allHeld = false ∨ s.tmr.lock = false) : s.commitApply = s := by
  rw [commitApply, if_pos (by simpa using h)]

section
variable {s : State} (ha : s.allHeld = true) (hl : s.tmr.lock = true)
include ha hl

theorem commitApply_eq : ∃ u : State, u.convTime = s.appliedValues.convTime ∧ (s.conv.cmask = 0x80 → u = s.appliedValues)
    ∧ s.commitApply = ({ u with conv := { u.conv with cstate := 2, ccount := u.conv.ccount + 1, held := 0 } } : State).releaseHeld.snapNow := by
  refine ⟨islandsApply s s.conv.cmask s.appliedValues, islandsApply_convTime _ _ _, fun hm => ?_, ?_⟩
  · rw [hm]
    exact islandsApply_collector _ _
  · rw [commitApply, if_neg (by simp [ha, hl])]
    rfl

end

section
variable {s : State} (hl : s.tmr.lock = true)
include hl

theorem tickWith_conv (wrote : Nat → Nat → Bool) : (s.tickWith wrote).conv = s.conv := congrArg Prod.fst (tickWith_convTime hl wrote)

theorem appliedValues_conv :
    s.appliedValues.conv = { s.conv with shadow := s.conv.shadow.filter (fun e => !s.pend s.conv.cmask e.1) } := by
  unfold appliedValues
  simp only [applyRegs_conv, pend_congr (tickWith_conv hl _), tickWith_conv hl _]

/-- A pending value of the mask is active after the apply. -/
theorem appliedValues_reg (hwf : tabWf none s.conv.shadow = true) {a : Nat} {v : Word} (hv : look none s.conv.shadow a = some v)
    (hp : s.pend s.conv.cmask a = true) : s.appliedValues.reg a = v := by
  have hconv := tickWith_conv hl (fun n o => s.pend s.conv.cmask (tcA n o))
  unfold appliedValues
  rw [applyRegs_reg (by rw [hconv]; exact hwf), afterApply, pend_congr hconv, if_pos hp, hconv, hv]
  rfl

end

/-- The end of a commit whose groups hold no write back: DONE and counted, with the writes of its groups no longer pending; one of
the collector's group alone leaves FLT and GOV as its values made them. -/
theorem commitApply_done {s : State} (ha : s.allHeld = true) (hl : s.tmr.lock = true) (hb : s.conv.heldBack = []) :
    (∃ busy seq, s.commitApply.conv = { s.conv with
        shadow := s.conv.shadow.filter (fun e => !s.pend s.conv.cmask e.1)
        cstate := 2, ccount := s.conv.ccount + 1, held := 0, snapBusy := busy, snapSeq := seq })
    ∧ (s.conv.cmask = 0x80 → ∀ a, fltB ≤ a → a < tmrB → s.commitApply.reg a = s.appliedValues.reg a) := by
  obtain ⟨u, hu, hcol, happly⟩ := commitApply_eq ha hl
  have hconv : u.conv = _ := (convTime_conv hu).trans (appliedValues_conv hl)
  rw [releaseHeld_none (by rw [hconv]; exact hb)] at happly
  obtain ⟨⟨busy, seq, hsnap⟩, hreg⟩ :=
    snapNow_keeps { u with conv := { u.conv with cstate := 2, ccount := u.conv.ccount + 1, held := 0 } }
  rw [happly]
  refine ⟨⟨busy, seq, by rw [hsnap, hconv]⟩, fun hm a hlo hhi => (hreg a hlo hhi).trans ?_⟩
  rw [hcol hm]
  exact reg_congr _ _ rfl a

theorem block_of_collector {b : Nat} (h : groupOf b = some 7) : b = 1 := by
  unfold groupOf at h
  split at h <;> simp_all

/-- The registers of the collector's group lie in FLT (03 R68). -/
theorem flt_of_groupAt {a : Nat} (h : groupAt a = some 7) : fltB ≤ a ∧ a < govB := by
  have hb : blockOf a = 1 := block_of_collector h
  unfold blockOf at hb
  simp only [fltB, govB, sysB] at hb ⊢
  omega

/-- Every entry of an address that is filtered out is gone. -/
theorem look_filter_none {α : Type} (d : α) (p : Nat → Bool) (t : Tab α) {a : Nat} (h : p a = false) :
    look d (t.filter (fun e => p e.1)) a = d := by
  refine Classical.byContradiction fun hne => ?_
  obtain ⟨e, he, rfl⟩ := List.mem_map.1 (look_mem d _ a hne)
  rw [(List.mem_filter.1 he).2] at h
  exact Bool.false_ne_true h.symm

end State

theorem exec_commit {s : State} {m : Fin 10} (h : s.revoked m = false) (mask : Word) :
    exec (.commit m mask) s = .next ((s.startCommit mask).1.answer (s.startCommit mask).2 []) := by
  show execCommit m mask s = _
  rw [execCommit, h]
  rfl

theorem exec_discard {s : State} {m : Fin 10} (h : s.revoked m = false) (mask : Word) :
    exec (.discard m mask) s = .next ((s.discard mask).answer stOk []) := by
  show execDiscard m mask s = _
  rw [execDiscard, h]
  rfl

theorem exec_snapshotRequest {s : State} {m : Fin 10} (h : s.revoked m = false) {v : Word} (hv : v.getLsbD 0 = true) :
    exec (.snapshotRequest m v) s = .next ({ s with conv := { s.conv with snapBusy := true } }.answer stOk []) := by
  show execSnapshotRequest m v s = _
  rw [execSnapshotRequest, h, if_neg Bool.false_ne_true, State.snapAsk, if_pos (show bit v 0 = true from hv)]

/-- Settles O39: the state code that each commit takes, by its mask and its conflicts. -/
theorem commitStarts : Obligations.CommitStarts := by
  unfold Obligations.CommitStarts
  intro s m mask hm
  rw [exec_commit hm]
  refine ⟨fun hbusy => by rw [State.startCommit_busy hbusy], fun hfree => ⟨fun hzero => ?_, fun hmask hclean => ?_, fun hmask hconf => ?_⟩⟩
  · rw [State.startCommit_empty hfree hzero]
    exact ⟨_, rfl, rfl, rfl, State.reg_setReg _ _ _, rfl⟩
  · rw [State.startCommit_clean hfree hmask hclean]
    exact ⟨_, rfl, rfl, rfl, rfl, State.reg_setReg _ _ _, rfl⟩
  · rw [State.startCommit_conflict hfree hmask hconf]
    exact ⟨_, rfl, rfl, rfl, State.reg_setReg _ _ _, rfl⟩

/-- Settles O40: a refused commit keeps the pending writes, DISCARD filters them, and a reset starts from none. -/
theorem discardAndReset : Obligations.DiscardAndReset := by
  unfold Obligations.DiscardAndReset
  intro s
  refine ⟨fun m mask hm hfree hmask hconf => ?_, fun m mask hm => ?_, fun cause => ?_⟩
  · exact ⟨_, exec_commit hm mask, by rw [State.startCommit_conflict hfree hmask hconf]; exact ⟨rfl, rfl⟩⟩
  · refine ⟨_, exec_discard hm mask, rfl, fun e => ?_⟩
    rw [← State.pend_iff]
    exact State.mem_filter_pend s _ e
  · exact congrArg ConvSt.shadow (State.convTime_conv (State.onlyLog_convTime (State.log_only _ _ _ _ _ _ _)))

/-- Settles O41: the apply keeps of the conventions what is not its own, and so does the snapshot after it. -/
theorem commitsAndSnapshots : Obligations.CommitsAndSnapshots := by
  unfold Obligations.CommitsAndSnapshots
  refine ⟨fun s => ⟨fun _ ha hl hb => ?_, fun h => ?_, State.allHeld_iff⟩,
    fun s => ⟨fun m v hm hv => exec_snapshotRequest hm hv, fun hb hl => ?_, fun hb => ?_⟩⟩
  · obtain ⟨⟨busy, seq, hconv⟩, hreg⟩ := State.commitApply_done ha hl hb
    refine ⟨s.commitApply, rfl, by rw [hconv], by rw [hconv], fun e he => ?_, fun hm hwf a v hv hg => ?_⟩
    · rw [hconv] at he
      exact Bool.eq_false_iff.2 ((s.mem_filter_pend _ e).1 he).2
    · have hp : s.pend s.conv.cmask a = true := (s.pend_iff _ a).2 ⟨by rw [hv]; rfl, 7, hg, by rw [hm]; decide⟩
      obtain ⟨hlo, hhi⟩ := State.flt_of_groupAt hg
      refine ⟨(hreg hm a hlo (Nat.lt_trans hhi (by decide))).trans (State.appliedValues_reg hl hwf hv hp), ?_⟩
      rw [hconv]
      exact State.look_filter_none none (fun i => !s.pend s.conv.cmask i) _ (by rw [hp]; rfl)
  · show Host.Outcome.next s.commitApply = _
    rw [State.commitApply_waits]
    rcases h with h | h | h
    · exact .inl (by simp [State.allHeld, h])
    · exact .inl h
    · exact .inr h
  · have htick := State.tickWith_convTime hl (fun _ _ => false)
    have hconv := State.tickWith_conv hl (fun _ _ => false)
    obtain ⟨hc, htmr, h48, h4C, -⟩ :=
      State.snapNow_taken (s := s.tickWith (fun _ _ => false)) (by rw [hconv]; exact hb) (congrArg (·.2.2) htick)
    have htb : (s.tickWith (fun _ _ => false)).tmr.tb = s.tmr.tb + 1 := congrArg (·.2.1) htick
    have hexec : exec .snapshot s = .next s.tick := by
      show execSnapshot s = _
      rw [execSnapshot, State.takeSnapshot, if_pos (by simp [hb, hl])]
    refine ⟨s.tick, hexec, ?_⟩
    unfold State.tick
    rw [hc, htmr, h48, h4C, hconv, State.now, htb]
    exact ⟨rfl, rfl, rfl, rfl, rfl⟩
  · show execSnapshot s = _
    rw [execSnapshot, State.takeSnapshot, if_neg (by simp [hb])]

end Sys2Proof.Machine
end

section
/-! SUPPORT. Safe booleans (04 R118; 05 R142-R144): the truth value that a code stands for, and the code that a function of one, two or
three operands writes. -/
namespace Sys2Proof.Machine

/-- The codes 01 and 10 stand for false and true, the other two for no truth value (05 R142). -/
theorem sbVal_eq : ∀ v : BitVec 2, sbVal v = if v = 1 ∨ v = 2 then some (decide (v = 2)) else none := by decide

theorem sbVal_valid {v : BitVec 2} (h : v = 1 ∨ v = 2) : sbVal v = some (decide (v = 2)) := (sbVal_eq v).trans (if_pos h)
theorem sbVal_invalid {v : BitVec 2} (h : ¬ (v = 1 ∨ v = 2)) : sbVal v = none := (sbVal_eq v).trans (if_neg h)

/-- A valid code is that of its truth value. -/
theorem sbOf_isTrue {v : BitVec 2} (h : v = 1 ∨ v = 2) : sbOf (decide (v = 2)) = v := by
  rcases h with rfl | rfl <;> rfl

theorem sbOf_xor {a b : BitVec 2} (ha : a = 1 ∨ a = 2) (hb : b = 1 ∨ b = 2) :
    sbOf (xor (decide (a = 2)) (decide (b = 2))) = if a ≠ b then 2 else 1 := by
  rcases ha with rfl | rfl <;> rcases hb with rfl | rfl <;> rfl

theorem sbOf_select {a b : BitVec 2} {c : Prop} [Decidable c] (ha : a = 1 ∨ a = 2) (hb : b = 1 ∨ b = 2) :
    sbOf (if decide c then decide (a = 2) else decide (b = 2)) = if c then a else b := by
  by_cases hc : c
  · simpa [hc] using sbOf_isTrue ha
  · simpa [hc] using sbOf_isTrue hb

theorem sbRes_sbVal (a : BitVec 2) : sbRes (sbVal a) = if a = 1 ∨ a = 2 then a else 0 := by
  by_cases ha : a = 1 ∨ a = 2
  · rw [sbVal_valid ha, if_pos ha]
    exact sbOf_isTrue ha
  · rw [sbVal_invalid ha, if_neg ha]
    rfl

theorem sbRes_not (a : BitVec 2) : sbRes ((sbVal a).map not) = if a = 1 then 2 else if a = 2 then 1 else 0 := by
  by_cases ha : a = 1 ∨ a = 2
  · rcases ha with rfl | rfl <;> rfl
  · obtain ⟨h1, h2⟩ := not_or.1 ha
    rw [sbVal_invalid ha, if_neg h1, if_neg h2]
    rfl

theorem sbOf_isSome (a : BitVec 2) : sbOf (sbVal a).isSome = if a = 1 ∨ a = 2 then 2 else 1 := by
  by_cases ha : a = 1 ∨ a = 2
  · rw [sbVal_valid ha, if_pos ha]
    rfl
  · rw [sbVal_invalid ha, if_neg ha]
    rfl

/-- A function of two operands: 00 where either is invalid, else the code of the function of their truth values (05 R143). -/
theorem sb2_eq {g : Bool → Bool → Bool} {a b r : BitVec 2}
    (hr : (a = 1 ∨ a = 2) → (b = 1 ∨ b = 2) → sbOf (g (decide (a = 2)) (decide (b = 2))) = r) :
    sb2 g (sbVal a) (sbVal b) = if (a = 1 ∨ a = 2) ∧ (b = 1 ∨ b = 2) then r else 0 := by
  by_cases ha : a = 1 ∨ a = 2
  · by_cases hb : b = 1 ∨ b = 2
    · rw [sbVal_valid ha, sbVal_valid hb, if_pos ⟨ha, hb⟩]
      exact hr ha hb
    · rw [sbVal_valid ha, sbVal_invalid hb, if_neg (fun h => hb h.2)]
      rfl
  · rw [sbVal_invalid ha, if_neg (fun h => ha h.1)]
    rfl

/-- A function of three operands: 00 where any is invalid, else the code of the function of their truth values (05 R144). -/
theorem sb3_eq {g : Bool → Bool → Bool → Bool} {a b c r : BitVec 2}
    (hr : (a = 1 ∨ a = 2) → (b = 1 ∨ b = 2) → sbOf (g (decide (a = 2)) (decide (b = 2)) (decide (c = 2))) = r) :
    sb3 g (sbVal a) (sbVal b) (sbVal c) = if (a = 1 ∨ a = 2) ∧ (b = 1 ∨ b = 2) ∧ (c = 1 ∨ c = 2) then r else 0 := by
  by_cases hc : c = 1 ∨ c = 2
  · have h2 : sb3 g (sbVal a) (sbVal b) (sbVal c) = sb2 (fun x y => g x y (decide (c = 2))) (sbVal a) (sbVal b) := by
      rw [sbVal_valid hc]
      cases sbVal a <;> cases sbVal b <;> rfl
    rw [h2, sb2_eq hr]
    simp only [hc, and_true]
  · rw [sbVal_invalid hc, if_neg (fun h => hc h.2.2)]
    cases sbVal a <;> cases sbVal b <;> rfl

namespace State
variable {s : State} {p : Proc} {f : FmtX}

theorem stepping_of_runs {modes : List Nat} (hrun : s.runs p modes) : (s.cpu p).stepping = false := by
  obtain ⟨⟨-, hstep, -⟩, -⟩ := hrun
  exact hstep

theorem setSbr_stepping (s : State) (p : Proc) (i : BitVec 5) (v : BitVec 2) :
    ((s.setSbr i v).cpu p).stepping = (s.cpu p).stepping := by
  cases p with
  | safety => rfl
  | ac k => match k with | 0 | 1 | 2 | 3 => rfl

/-- An SBOP that runs writes sd with its function of the operands' truth values and goes on; an operand that it does not use is 0
(04 R118). -/
theorem sbop_ends (hrun : s.runs p mS) {fn : Nat} {useB useC : Bool} {g : Option Bool → Option Bool → Option Bool → BitVec 2}
    {v : BitVec 2} (hb : useB = true ∨ f.sb = 0) (hc : useC = true ∨ f.sc = 0)
    (hv : g (sbVal (s.sbr f.sa)) (sbVal (s.sbr f.sb)) (sbVal (s.sbr f.sc)) = v) :
    .next (s.sbop p fn f useB useC g) = s.endsIn p (s.setSbr f.sd v) 1 := by
  have hlegal : ((useB || f.sb == 0) && (useC || f.sc == 0)) = true := by simpa using And.intro hb hc
  unfold sbop
  rw [hlegal, instr_seq (t := s.setSbr f.sd v) _ 1 _ hrun (by rw [hv]) ((setSbr_stepping s p _ _).trans (stepping_of_runs hrun))]
  rfl

theorem enterExc_stepping (s : State) (p : Proc) (e : Exc) (imp : Bool) (epc : Word) :
    ((s.enterExc p e imp epc).cpu p).stepping = (s.cpu p).stepping := by
  unfold enterExc
  cases p <;> simp

/-- An exception outside a handler, with no debug step in progress: it is entered with the pc of its instruction (04 R127). -/
theorem raiseExc_settles {e : Exc} (he : e.code ≠ 8) (hx : (s.cpu p).st.exc = false) (hstep : (s.cpu p).stepping = false) :
    (s.raiseExc p e).settleStep p = s.enterExc p e false (s.cpu p).pc := by
  rw [raiseExc_first s p e hx, if_neg he, settleStep_eq]
  exact (enterExc_stepping s p e false _).trans hstep

/-- SCONST that runs writes the code of its sa, which is 0 or 1 (04 R118). -/
theorem exec_sconst (hrun : s.runs p mS) (hb : f.sb = 0) (hc : f.sc = 0) {v : BitVec 2} (ha : f.sa.toNat < 2) (hv : sbOf (f.sa == 1) = v) :
    exec (.sconst p f) s = s.endsIn p (s.setSbr f.sd v) 1 := by
  have hlegal : (decide (f.sa.toNat < 2) && f.sb == 0 && f.sc == 0) = true := by simp [ha, hb, hc]
  show execSconst p f s = _
  unfold execSconst
  rw [hlegal, instr_seq (t := s.setSbr f.sd v) _ 1 _ hrun (by rw [hv]) ((setSbr_stepping s p _ _).trans (stepping_of_runs hrun))]
  rfl

/-- SBTOG of a valid operand writes its truth value to the general register that sd names (04 R118). -/
theorem exec_sbtog_valid (hrun : s.runs p mS) (hb : f.sb = 0) (hc : f.sc = 0) (hd : f.sd.toNat < 16)
    (ha : s.sbr f.sa = 1 ∨ s.sbr f.sa = 2) :
    exec (.sbtog p f) s = s.endsIn p (s.setGr p (f.sd.setWidth 4) (if s.sbr f.sa = 2 then 1 else 0)) 1 := by
  have hlegal : (decide (f.sd.toNat < 16) && f.sb == 0 && f.sc == 0) = true := by simp [hd, hb, hc]
  have hreg : s.setGr p (f.sd.setWidth 4) (if s.sbr f.sa = 2 then 1 else 0)
      = s.setCpu p ((s.cpu p).w f.sd.toNat (if decide (s.sbr f.sa = 2) then 1 else 0)) := by
    unfold setGr
    rw [BitVec.toNat_setWidth, Nat.mod_eq_of_lt hd]
    simp only [decide_eq_true_eq]
  have hstep : ((s.setGr p (f.sd.setWidth 4) (if s.sbr f.sa = 2 then 1 else 0)).cpu p).stepping = false := by
    unfold setGr Cpu.w
    rw [cpu_setCpu]
    split <;> exact stepping_of_runs hrun
  show execSbtog p f s = _
  unfold execSbtog
  rw [hlegal, instr_seq _ 1 _ hrun (by rw [sbVal_valid ha, hreg]) hstep]
  rfl

/-- SBTOG of an invalid operand raises SBX (04 R118, R126). -/
theorem exec_sbtog_invalid (hrun : s.runs p mS) (hb : f.sb = 0) (hc : f.sc = 0) (hd : f.sd.toNat < 16)
    (ha : ¬ (s.sbr f.sa = 1 ∨ s.sbr f.sa = 2)) (hx : (s.cpu p).st.exc = false) :
    exec (.sbtog p f) s = .next (s.enterExc p { code := 0xB, detail := f.sa.toNat } false (s.cpu p).pc) := by
  have hlegal : (decide (f.sd.toNat < 16) && f.sb == 0 && f.sc == 0) = true := by simp [hd, hb, hc]
  show execSbtog p f s = _
  unfold execSbtog
  rw [hlegal, instr_runs _ 1 _ hrun, sbVal_invalid ha]
  exact congrArg _ (raiseExc_settles (show 0xB ≠ 8 by decide) hx (stepping_of_runs hrun))

end State

/-- Settles O9: each function by the truth values of the operands that it reads. -/
theorem safeBooleans : Obligations.SafeBooleans := by
  unfold Obligations.SafeBooleans
  intro s p f hrun ok a b c fin
  refine ⟨fun hb hc => ⟨?_, ?_, ?_, fun ha => ?_, fun ha => ?_, fun hd ha => ?_, fun hd ha hx => ?_⟩, fun hc => ⟨?_, ?_, ?_⟩, ?_, ?_, ?_⟩
  · exact State.sbop_ends hrun (.inr hb) (.inr hc) (sbRes_sbVal a)
  · exact State.sbop_ends hrun (.inr hb) (.inr hc) (sbRes_not a)
  · exact State.sbop_ends hrun (.inr hb) (.inr hc) (sbOf_isSome a)
  · exact State.exec_sconst hrun hb hc (by simp [ha]) (by simp [ha, sbOf])
  · exact State.exec_sconst hrun hb hc (by simp [ha]) (by simp [ha, sbOf])
  · exact State.exec_sbtog_valid hrun hb hc hd ha
  · exact State.exec_sbtog_invalid hrun hb hc hd ha hx
  · exact State.sbop_ends hrun (.inl rfl) (.inr hc) (sb2_eq fun _ _ => by simp [sbOf, a, b])
  · exact State.sbop_ends hrun (.inl rfl) (.inr hc) (sb2_eq fun _ _ => by simp [sbOf, a, b])
  · exact State.sbop_ends hrun (.inl rfl) (.inr hc) (sb2_eq sbOf_xor)
  · exact State.sbop_ends hrun (.inl rfl) (.inl rfl) (sb3_eq fun _ _ => by simp [sbOf, and_assoc, a, b, c])
  · exact State.sbop_ends hrun (.inl rfl) (.inl rfl) (sb3_eq fun _ _ => by simp [sbOf, or_assoc, a, b, c])
  · exact State.sbop_ends hrun (.inl rfl) (.inl rfl) (sb3_eq sbOf_select)

end Sys2Proof.Machine
end

section
/-! SUPPORT. The runtime's writes to its mailbox (05 R146, R153-R157, R164-R166): the write that each word takes, the records that the
epilogue and the handler publish, and the end of the restore engine. -/
namespace Sys2Proof.Machine

/-! ### Multiples of a cycle length (05 R157) -/

/-- The first multiple of len that is not below m. -/
theorem roundUp_spec (m : Nat) {len : Nat} (h : 0 < len) :
    (m + len - 1) / len * len % len = 0 ∧ m ≤ (m + len - 1) / len * len ∧ (m + len - 1) / len * len < m + len := by
  have hle := Nat.div_mul_le_self (m + len - 1) len
  have hlt := Nat.lt_div_mul_add (a := m + len - 1) h
  refine ⟨Nat.mul_mod_left _ _, ?_, ?_⟩ <;> omega

namespace State
variable {s t : State} {a : Nat} {v : Word}

/-! ### A write of a mailbox word (05 R153, R154) -/

theorem runtimeWrites_taken (hrun : s.sp.run = .running) (h : s.ioWrite a v = some t) : s.runtimeWrites a v = t := by
  unfold runtimeWrites
  rw [if_neg (not_not_intro hrun), h]

/-- The exception of a refused access outside a handler (04 R126, R127). -/
theorem raiseAccess_first (hx : s.sp.st.exc = false) (w : Word) :
    s.raiseExc .safety { code := 4, eval := w } = s.enterExc .safety { code := 4, eval := w } false s.sp.pc :=
  raiseExc_first s .safety _ hx

theorem runtimeWrites_refused (hrun : s.sp.run = .running) (hx : s.sp.st.exc = false) (h : s.ioWrite a v = none) :
    s.runtimeWrites a v = s.enterExc .safety { code := 4, eval := w32 a } false s.sp.pc := by
  unfold runtimeWrites
  rw [if_neg (not_not_intro hrun), h]
  exact raiseAccess_first hx _

theorem ioWrite_cycset (s : State) (v : Word) :
    s.ioWrite 0x300038 v = if s.chA.cycsetLock ∨ 4 < v.toNat then none else some (s.setCycle v.toNat) := rfl

theorem ioWrite_flta (s : State) (v : Word) : s.ioWrite 0x300040 v = some (s.setFlta (v.setWidth 6)) := rfl

theorem ioWrite_restore (s : State) (v : Word) : s.ioWrite 0x300044 v = if s.chA.entryNow then some s.startRestore else none := rfl

/-! ### CYCSET (05 R157) -/

theorem setCycle_wc (s : State) (code : Nat) : (s.setCycle code).wc 0
    = { nextV := (s.now + 25000 * 2 ^ code + 25000 * 2 ^ code - 1) / (25000 * 2 ^ code) * (25000 * 2 ^ code), armed := true } :=
  look_put _ _ _ _

/-! ### FLTA (05 R164) -/

theorem setFlta_chA (s : State) (v : BitVec 6) : (s.setFlta v).chA = { s.chA with flta := v } :=
  onlyLog_chA (onlyLog_foldl (fun (s : State) i => s.driveIf (bit v i) (fltaSrc i) 0) (fun t _ => driveIf_only t _ _ _) (upFrom 6 0)
    { s with chA := { s.chA with flta := v } })

theorem driveIf_keeps_fault (s : State) (c : Bool) (n k : Nat) (d : BitVec 16) (h : (s.src k).rail ≠ .ok) :
    ((s.driveIf c n d).src k).rail ≠ .ok := by
  unfold driveIf
  split
  · exact drive_keeps_fault s n k d h
  · exact h

/-- A pass over a list drives the source of every item whose condition holds. -/
theorem foldl_driveIf_fault {c : Nat → Bool} {n : Nat → Nat} {d : BitVec 16} {i : Nat} (hc : c i = true)
    (hn : (srcDefault (n i)).isSome = true) (l : List Nat) : ∀ s : State, i ∈ l ∨ (s.src (n i)).rail ≠ .ok →
      ((l.foldl (fun (s : State) j => s.driveIf (c j) (n j) d) s).src (n i)).rail ≠ .ok := by
  induction l with
  | nil => intro s h; exact h.resolve_left List.not_mem_nil
  | cons j l ih =>
    intro s h
    refine ih _ ?_
    rcases h with h | h
    · rcases List.mem_cons.1 h with rfl | h
      · right
        show (State.src (if c i then s.drive (n i) d else s) (n i)).rail ≠ .ok
        rw [if_pos hc]
        exact drive_rail s _ d hn
      · exact .inl h
    · exact .inr (driveIf_keeps_fault s _ _ _ d h)

/-- A bit of FLTA drives its source. -/
theorem setFlta_drives (s : State) {v : BitVec 6} {i : Nat} (hi : i < 6) (hv : v.getLsbD i = true) :
    ((s.setFlta v).src (fltaSrc i)).rail ≠ .ok := by
  have hsrc : ∀ j < 6, (srcDefault (fltaSrc j)).isSome = true := by decide
  refine foldl_driveIf_fault (c := bit v) (n := fltaSrc) hv (hsrc i hi) (upFrom 6 0) _ (.inl ?_)
  rw [upFrom_eq_range', List.mem_range'_1]
  omega

/-! ### The records of the epilogue and the handler (05 R154, R162, R166) -/

theorem endEpilogue_chA (s : State) : s.endEpilogue.chA
    = { s.chA with flta := s.chA.dueFlt, dueFlt := 0, phase := .done, published := true } := by
  unfold endEpilogue publish
  dsimp only
  rw [setFlta_chA]

theorem writeRecord_new {build : State → State} (h : s.chA.published = false) : s.writeRecord build = (build s).endEpilogue := by
  unfold writeRecord
  rw [if_neg (by simp [h])]

theorem writeRecord_again {build : State → State} (h : s.chA.published = true) (hx : s.sp.st.exc = false) :
    s.writeRecord build = s.enterExc .safety { code := 4, eval := 0x300000 } false s.sp.pc := by
  unfold writeRecord
  rw [if_pos h, raiseAccess_first hx]

theorem epilogue_allOff (h : s.chA.phase = .allOff) : s.epilogue = s.writeRecord (fun s => s.putRecord 0 0) := by
  unfold epilogue
  rw [h]

theorem epilogue_program (h : s.chA.phase = .program) (hr : s.sp.rets = []) : s.epilogue = s.writeRecord programRecord := by
  unfold epilogue
  rw [h]
  exact if_pos (List.isEmpty_iff.2 hr)

/-- At the end of its phase an epilogue writes a record, or raises ACCESS where one is published. -/
theorem epilogue_writes (h : s.chA.phase = .allOff ∨ (s.chA.phase = .program ∧ s.sp.rets = [])) :
    ∃ build, s.epilogue = s.writeRecord build := by
  rcases h with h | ⟨h, hr⟩
  · exact ⟨_, epilogue_allOff h⟩
  · exact ⟨_, epilogue_program h hr⟩

/-- The handler leaves a published record, which shows all zones and demands off if it is the handler's own (05 R166). -/
theorem handler_publishes (s : State) : s.handler.chA.published = true ∧ s.handler.chA.suspended = true ∧ s.handler.sp.sb = []
    ∧ (s.chA.published = false → s.handler.chA.recDmd = 0 ∧ s.handler.chA.recZone = 0) := by
  have hpub : (s.setFlta (putBit s.chA.dueFlt s.excBit true)).chA.published = s.chA.published := by rw [setFlta_chA]
  unfold handler
  dsimp only
  rw [hpub]
  cases h : s.chA.published with
  | true => exact ⟨hpub.trans h, rfl, rfl, fun h => absurd h (by decide)⟩
  | false => exact ⟨rfl, rfl, rfl, fun _ => ⟨rfl, rfl⟩⟩

/-! ### The end of the restore engine (05 R146, R155) -/

theorem settleStep_chA (s : State) (p : Proc) : (s.settleStep p).chA = s.chA := by
  unfold settleStep
  dsimp only
  split
  · rfl
  · split <;> simp

/-- An IOLD that completes counts its slots and changes nothing else of channel A. -/
theorem wakeRead_chA (s : State) : ∃ k, s.wakeRead.chA = { s.chA with slots := k } := by
  unfold wakeRead
  split
  · split
    · exact ⟨_, settleStep_chA _ _⟩
    · exact ⟨_, rfl⟩
  · exact ⟨_, rfl⟩

end State

/-! ### The commands -/
section
variable {s : State}

theorem exec_recDone (hrun : s.sp.run = .running) : exec .recDone s = .next (if s.sp.st.exc then s.handler else s.epilogue) :=
  congrArg _ (if_neg (not_not_intro hrun))

theorem exec_recDone_epilogue (hrun : s.sp.run = .running) (hx : s.sp.st.exc = false) : exec .recDone s = .next s.epilogue := by
  rw [exec_recDone hrun, if_neg (by simp [hx])]

theorem exec_cycset_other {code : BitVec 32} (h : code.toNat ≤ 4) (hne : code.toNat ≠ s.cycCode) : exec (.cycset code) s = .next s :=
  congrArg _ (if_pos ⟨h, hne⟩)

theorem exec_cycset_writes {code : BitVec 32} (h : code.toNat = s.cycCode ∨ 4 < code.toNat) :
    exec (.cycset code) s = .next (s.runtimeWrites 0x300038 code) :=
  congrArg _ (if_neg (by omega))

theorem exec_restore (s : State) : exec .restore s = .next (s.runtimeWrites 0x300044 1) := rfl

theorem exec_flta (hrun : s.sp.run = .running) (v : BitVec 6) : exec (.flta v) s = .next (s.setFlta v) := by
  show (.next (s.runtimeWrites 0x300040 (v.setWidth 32)) : Out) = _
  rw [State.runtimeWrites_taken hrun (State.ioWrite_flta s _), BitVec.setWidth_setWidth_of_le v (by decide), BitVec.setWidth_eq]

/-- The restore engine ends, and the processor's read of its word completes after it (05 R146, R155). -/
theorem exec_restoreComplete (h : s.chA.restoring = true) : ∃ u : State, exec .restoreComplete s = .next u.wakeRead
    ∧ u.chA.restoring = false ∧ u.chA.restoreDone = true ∧ u.chA.restored = true :=
  ⟨_, congrArg Host.Outcome.next (if_neg (by simp [h])), rfl, rfl, rfl⟩
end

/-- Settles O38: the handler, the epilogue by its phase, and each mailbox word by the guard of its write. -/
theorem runtimeWrites : Obligations.RuntimeWrites := by
  unfold Obligations.RuntimeWrites
  intro s
  refine ⟨fun hrun => ⟨fun hx => ?_, fun hx hph hpub => ?_, fun hx hph hr hpub => ?_, fun hx hph hpub => ?_, fun code h hne => ?_,
    fun code hlock h heq => ?_, fun code h hx => ?_, fun he => ?_, fun he hx => ?_, fun v => ?_⟩, fun hr => ?_⟩
  · exact ⟨s.handler, by rw [exec_recDone hrun, if_pos hx], s.handler_publishes⟩
  · refine ⟨_, by rw [exec_recDone_epilogue hrun hx, State.epilogue_allOff hph, State.writeRecord_new hpub], ?_⟩
    rw [State.endEpilogue_chA]
    exact ⟨rfl, rfl, rfl, rfl⟩
  · refine ⟨_, by rw [exec_recDone_epilogue hrun hx, State.epilogue_program hph hr, State.writeRecord_new hpub], ?_⟩
    rw [State.endEpilogue_chA]
    exact ⟨rfl, rfl⟩
  · obtain ⟨build, hw⟩ := State.epilogue_writes hph
    rw [exec_recDone_epilogue hrun hx, hw, State.writeRecord_again hpub hx]
  · exact exec_cycset_other h hne
  · have htaken : s.ioWrite 0x300038 code = some (s.setCycle code.toNat) := by
      rw [State.ioWrite_cycset, if_neg (by simp [hlock]; omega)]
    obtain ⟨hmod, hlow, hhigh⟩ := roundUp_spec (s.now + 25000 * 2 ^ code.toNat) (len := 25000 * 2 ^ code.toNat) (Nat.mul_pos (by decide) (Nat.two_pow_pos _))
    refine ⟨_, by rw [exec_cycset_writes (.inl heq), State.runtimeWrites_taken hrun htaken], rfl, rfl, ?_⟩
    rw [State.setCycle_wc]
    exact ⟨rfl, hmod, hlow, Nat.lt_of_lt_of_eq hhigh (by omega)⟩
  · have hrefused : s.ioWrite 0x300038 code = none := by
      rw [State.ioWrite_cycset]
      exact if_pos (h.imp And.left id)
    rw [exec_cycset_writes (h.imp_left And.right), State.runtimeWrites_refused hrun hx hrefused]
    rfl
  · exact ⟨s.startRestore, by rw [exec_restore, State.runtimeWrites_taken hrun ((State.ioWrite_restore s 1).trans (if_pos he))], rfl, rfl⟩
  · have hrefused : s.ioWrite 0x300044 1 = none := (State.ioWrite_restore s 1).trans (if_neg (by simp [he]))
    rw [exec_restore, State.runtimeWrites_refused hrun hx hrefused]
    rfl
  · refine ⟨_, exec_flta hrun v, congrArg ChanA.flta (State.setFlta_chA s v), fun i hi => ?_, State.setFlta_drives s (by decide)⟩
    have hsrc : ∀ i : Fin 5, 16 + i.val = State.fltaSrc i := by decide
    rw [hsrc]
    exact State.setFlta_drives s (by omega) hi
  · obtain ⟨u, hu, hoff, hdone, hrestored⟩ := exec_restoreComplete hr
    obtain ⟨k, hk⟩ := State.wakeRead_chA u
    refine ⟨_, hu, ?_⟩
    rw [hk]
    exact ⟨hoff, hdone, hrestored⟩

end Sys2Proof.Machine
end

section
/-! SUPPORT. What the operations of the field units leave alone (07, 08, 11, 13-15, 21): for every unit the state besides what its
commands may change, which each of its operations keeps (`operation_besides`). -/
namespace Sys2Proof.Machine
namespace State

/-! ### The state besides what a unit may change -/

/-- Besides the collector. -/
def besidesFlt (s : State) : State := { s with flt := {} }

/-- Besides what time moves: the timer island, registers and the snapshot's own state (03 R87). -/
def besidesTime (s : State) : State := { s with tmr := {}, conv := { s.conv with snapBusy := false, snapSeq := 0 }, regs := [] }

/-- Besides the inputs and the test pulses. -/
def besidesInputs (s : State) : State := { s with inputs := {}, flt := {} }

/-- Besides the loops. -/
def besidesLoops (s : State) : State := { s with loop := {}, regs := [], flt := {}, resp := {} }

/-- Besides the general I/O bank, and what time moves. -/
def besidesGio (s : State) : State := { s.besidesTime with gio := {}, flt := {}, resp := {} }

/-- Besides the timers, what time moves, and the opening of the link with lock. -/
def besidesTimers (s : State) : State := { s.besidesTime with lnk := { s.lnk with opened := false }, flt := {}, resp := {} }

/-- Besides the rings. -/
def besidesRings (s : State) : State := { s with net := {}, regs := [], flt := {}, resp := {} }

/-- Besides the ridge link, which steps the time base. -/
def besidesLink (s : State) : State := { s with lnk := {}, tmr := {}, regs := [], flt := {}, fresh := 0 }

/-- What keeps a part of the state keeps what depends on that part alone. -/
theorem keeps_of_finer {β : Type} {g : State → β} {h : State → State} {s t : State} (e : h t = h s) (hg : ∀ u, g (h u) = g u) :
    g t = g s := by
  rw [← hg t, e, hg]

theorem keeps_ite {β : Type} (g : State → β) {s t u : State} {c : Prop} [Decidable c] (ht : g t = g s) (hu : g u = g s) :
    g (if c then t else u) = g s := by
  split
  · exact ht
  · exact hu

/-- Driving a source changes the collector at most. -/
theorem drive_besidesFlt (s : State) (n : Nat) (d : BitVec 16) : (s.drive n d).besidesFlt = s.besidesFlt := by
  unfold drive
  exact keeps_ite besidesFlt rfl (keeps_ite besidesFlt rfl rfl)

theorem drive_keeps {β : Type} (g : State → β) (s : State) (n : Nat) (d : BitVec 16)
    (hg : ∀ u, g u.besidesFlt = g u := by exact fun _ => rfl) : g (s.drive n d) = g s :=
  keeps_of_finer (drive_besidesFlt s n d) hg

theorem driveIf_keeps {β : Type} (g : State → β) (s : State) (c : Bool) (n : Nat) (d : BitVec 16)
    (hg : ∀ u, g u.besidesFlt = g u := by exact fun _ => rfl) : g (s.driveIf c n d) = g s :=
  keeps_ite g (drive_keeps g s n d hg) rfl

/-! ### Inputs and test pulses (07 R221, R228-R234) -/

theorem setInChan_besides (s : State) (chB : Bool) (n : Nat) (c : InChan) : (s.setInChan chB n c).besidesInputs = s.besidesInputs := rfl

theorem feedInput_besides (s : State) (chB : Bool) (n : Nat) (xs : InSamples) :
    (s.feedInput chB n xs).besidesInputs = s.besidesInputs := by
  unfold feedInput
  refine keeps_ite besidesInputs rfl ?_
  extract_lets run here t
  have ht : t.besidesInputs = s.besidesInputs := keeps_ite besidesInputs rfl rfl
  exact keeps_ite besidesInputs ht ht

theorem maskInputs_besides (s : State) (chB : Bool) (k : Nat) (b : Bool) : (s.maskInputs chB k b).besidesInputs = s.besidesInputs := by
  unfold maskInputs
  refine foldl_keeps besidesInputs _ (fun t n => ?_) _ s
  exact keeps_ite besidesInputs (setInChan_besides t _ n _) rfl

theorem pulseStart_besides (s : State) (k : Nat) : (s.pulseStart k).besidesInputs = s.besidesInputs := by
  unfold pulseStart
  extract_lets u a b v s1 s2
  have h2 : s2.besidesInputs = s.besidesInputs := keeps_ite besidesInputs (maskInputs_besides s1 _ _ _) rfl
  exact keeps_ite besidesInputs rfl (keeps_ite besidesInputs ((maskInputs_besides s2 _ _ _).trans h2) h2)

theorem judgeInput_besides (s : State) (chB : Bool) (k : Nat) (seen foreign : BitVec 32) (n : Nat) :
    (s.judgeInput chB k seen foreign n).besidesInputs = s.besidesInputs := by
  unfold judgeInput
  dsimp only
  split
  · rfl
  · exact keeps_ite besidesInputs rfl (keeps_ite besidesInputs rfl rfl)

theorem wireFaults_besides (s : State) : s.wireFaults.besidesFlt = s.besidesFlt :=
  foldl_keeps besidesFlt _ (fun _ _ => driveIf_keeps besidesFlt _ _ _ _) _ s

theorem pulseEnd_besides (s : State) (k : Nat) (seenA seenB forA forB : BitVec 32) (tpA tpB : Bool) :
    (s.pulseEnd k seenA seenB forA forB tpA tpB).besidesInputs = s.besidesInputs := by
  unfold pulseEnd
  extract_lets v missed s1 s2 s3 high low s4
  have h1 : s1.besidesInputs = s.besidesInputs := by
    refine foldl_keeps besidesInputs _ (fun t n => ?_) _ s
    exact keeps_ite besidesInputs rfl rfl
  have h2 : s2.besidesInputs = s.besidesInputs :=
    keeps_ite besidesInputs ((foldl_keeps besidesInputs _ (fun t n => judgeInput_besides t _ _ _ _ n) _ s1).trans h1) h1
  have h3 : s3.besidesInputs = s.besidesInputs :=
    keeps_ite besidesInputs ((foldl_keeps besidesInputs _ (fun t n => judgeInput_besides t _ _ _ _ n) _ s2).trans h2) h2
  refine keeps_ite besidesInputs rfl ?_
  exact (keeps_of_finer (wireFaults_besides _) fun _ => rfl).trans ((driveIf_keeps besidesInputs s4 high 40 (det k)).trans h3)

/-! ### Outputs (08 R248-R259) -/

theorem setOut_only (s : State) (k : Nat) (o : OutSt) : s.onlyOutputs (s.setOut k o) := rfl

theorem onlyOutputs_foldl {α : Type} (f : State → α → State) (hf : ∀ (t : State) (a : α), t.onlyOutputs (f t a)) (l : List α)
    (s : State) :
    s.onlyOutputs (l.foldl f s) :=
  List.foldlRecOn (motive := s.onlyOutputs) l f rfl fun _ ht a _ => onlyOutputs_trans ht (hf _ a)

/-- A flag of an output with its source changes the outputs and the collector at most. -/
theorem outFlag_only (s : State) (k f : Nat) : s.onlyOutputs (s.outFlag k f) := by
  unfold outFlag
  extract_lets o _ t
  refine onlyOutputs_trans (setOut_only s k _) (t := t) ?_
  exact onlyOutputs_ite (drive_onlyOutputs _ _ _)
    (onlyOutputs_ite (drive_onlyOutputs _ _ _) (onlyOutputs_ite (drive_onlyOutputs _ _ _) (drive_onlyOutputs _ _ _)))

theorem tieAll_only (s : State) (k : Nat) (moved : BitVec 12) (on : Bool) : s.onlyOutputs (s.tieAll k moved on) := by
  have tie (t : State) (i j : Nat) : t.onlyOutputs (t.tie1 i j) := onlyOutputs_trans (setOut_only t i _) (outFlag_only _ _ _)
  exact onlyOutputs_foldl _ (fun t j => onlyOutputs_trans (tie t k j) (tie _ j k)) _ s

theorem offPass_only (s : State) (k : Nat) (chB : Bool) : s.onlyOutputs (s.offPass k chB) :=
  onlyOutputs_trans (setOut_only s k _) (setOut_only _ k _)

theorem offFail_only (s : State) (k : Nat) (chB midOn : Bool) : s.onlyOutputs (s.offFail k chB midOn) := by
  unfold offFail
  extract_lets _ t u
  have h : s.onlyOutputs u := onlyOutputs_trans (setOut_only s k _) (outFlag_only t k fOTF)
  exact onlyOutputs_ite (onlyOutputs_trans h (outFlag_only u _ _)) h

theorem outTrip_only (s : State) (k : Nat) (temp : Bool) : s.onlyOutputs (s.outTrip k temp) := by
  unfold outTrip
  extract_lets o o' t
  have h : s.onlyOutputs t := onlyOutputs_trans (setOut_only s k o') (outFlag_only _ k fOVLD)
  exact onlyOutputs_ite (onlyOutputs_trans h (outFlag_only t _ _)) h

theorem groupTrip_only (s : State) (g : Bool) : s.onlyOutputs (s.groupTrip g) := by
  unfold groupTrip
  extract_lets s1 s2
  have h1 : s.onlyOutputs s1 := onlyOutputs_foldl _ (fun t k => setOut_only t k _) _ s
  exact onlyOutputs_trans h1 (onlyOutputs_trans (onlyOutputs_ite (by rfl) (by rfl)) (drive_onlyOutputs _ _ _))

/-! ### Loops (14 R389-R403) -/

theorem loopUpdate_besides (s : State) (n : Nat) (x : LoopSample) : (s.loopUpdate n x).besidesLoops = s.besidesLoops :=
  driveIf_keeps besidesLoops _ _ _ _

theorem dacUpdate_besides (s : State) (s0 s1 s2 s3 : LoopSample) (vlLow : Bool) :
    (s.dacUpdate s0 s1 s2 s3 vlLow).besidesLoops = s.besidesLoops := by
  have upd (t : State) (n : Nat) (x : LoopSample) :
      (if t.waitsApply 1 (lpA n 0) (lpA (n + 1) 0) then t else t.loopUpdate n x).besidesLoops = t.besidesLoops :=
    keeps_ite besidesLoops rfl (loopUpdate_besides t n x)
  exact (upd _ 3 s3).trans ((upd _ 2 s2).trans ((upd _ 1 s1).trans (upd { s with loop := { s.loop with vlLow := vlLow } } 0 s0)))

theorem reach_idle {s : State} {g : Nat} (h : (s.conv.cstate != 1 || !s.conv.cmask.testBit g) = true) : s.reach g = s := by
  unfold reach
  refine if_neg fun ⟨hstate, hmask⟩ => ?_
  rw [hstate, hmask] at h
  exact absurd h (by decide)

theorem loopTxd_besides (s : State) (n : Nat) (v : Word) : (s.loopTxd n v).1.besidesLoops = s.besidesLoops := by
  unfold loopTxd
  dsimp only
  split <;> rfl

theorem loopTxcmd_besides (s : State) (n : Nat) (v : Word) : (s.loopTxcmd n v).1.besidesLoops = s.besidesLoops := by
  unfold loopTxcmd
  dsimp only
  split
  · rfl
  · split <;> rfl

theorem loopRxd_besides (s : State) (n : Nat) : (s.loopRxd n).1.besidesLoops = s.besidesLoops := by
  unfold loopRxd
  dsimp only
  split <;> rfl

/-! ### Time passes (13 R361-R376) -/

theorem tcActs_besides (s : State) (n : Nat) (wrap m0 m1 : Bool) : (s.tcActs n wrap m0 m1).besidesTime = s.besidesTime := by
  unfold tcActs
  exact keeps_ite besidesTime rfl rfl

theorem tcCount_besides (s : State) (n : Nat) (down : Bool) (off : Nat → Bool) :
    (s.tcCount n down off).besidesTime = s.besidesTime := rfl

theorem tcStep_besides (s : State) (n : Nat) (down : Bool) : (s.tcStep n down).besidesTime = s.besidesTime :=
  (tcActs_besides _ n _ _ _).trans (tcCount_besides s n down _)

theorem tcPresc_besides (s : State) (n : Nat) : (s.tcPresc n).besidesTime = s.besidesTime := by
  unfold tcPresc
  exact keeps_ite besidesTime rfl rfl

theorem tcTick_besides (s : State) (n : Nat) : (s.tcTick n).besidesTime = s.besidesTime := by
  unfold tcTick
  exact keeps_ite besidesTime ((tcStep_besides _ n _).trans (tcPresc_besides s n)) (tcPresc_besides s n)

theorem tcApplyTick_besides (s : State) (n : Nat) (wrote : Nat → Bool) : (s.tcApplyTick n wrote).besidesTime = s.besidesTime := by
  unfold tcApplyTick
  exact keeps_ite besidesTime ((tcCount_besides _ n _ _).trans (tcPresc_besides s n)) (tcPresc_besides s n)

theorem tickWith_besides (s : State) (wrote : Nat → Nat → Bool) : (s.tickWith wrote).besidesTime = s.besidesTime := by
  unfold tickWith
  refine keeps_ite besidesTime rfl ?_
  refine (foldl_keeps besidesTime _ (fun t n => ?_) _ _).trans rfl
  exact keeps_ite besidesTime (tcApplyTick_besides t n _) (tcTick_besides t n)

theorem snapUnits_besides (s : State) : s.snapUnits.besidesTime = s.besidesTime := by
  have store (l : List Nat) (f : Nat → Nat) (v : State → Nat → Word) (t : State) :
      (l.foldl (fun (t : State) n => t.setReg (f n) (v t n)) t).besidesTime = t.besidesTime :=
    foldl_keeps besidesTime (fun (t : State) n => t.setReg (f n) (v t n)) (fun _ _ => rfl) l t
  exact (store _ _ _ _).trans ((store _ _ _ _).trans (store _ _ _ s))

theorem snapNow_besides (s : State) : s.snapNow.besidesTime = s.besidesTime := by
  by_cases h : (!s.conv.snapBusy || !s.tmr.lock) = true
  · rw [snapNow, if_pos h]
  · obtain ⟨hb, hl⟩ : s.conv.snapBusy = true ∧ s.tmr.lock = true := by simpa using h
    have hu := snapUnits_besides s
    rw [snapNow_eq hb hl]
    generalize s.snapUnits = u at hu ⊢
    exact hu

theorem tick_besides (s : State) : s.tick.besidesTime = s.besidesTime := (snapNow_besides _).trans (tickWith_besides s _)

theorem ticks_besides (k : Nat) : ∀ s : State, (ticks k s).besidesTime = s.besidesTime := by
  induction k with
  | zero => intro s; rfl
  | succ k ih => intro s; exact (ih s.tick).trans (tick_besides s)

theorem advanceTo_besides (s : State) (t : Nat) : (s.advanceTo t).besidesTime = s.besidesTime := by
  unfold advanceTo
  exact keeps_ite besidesTime rfl (keeps_ite besidesTime (ticks_besides _ s) (snapNow_besides (s.skipTicks 1)))

theorem wcFire_besides (s : State) (w : Nat) : (s.wcFire w).besidesTime = s.besidesTime := by
  unfold wcFire
  exact keeps_ite besidesTime rfl rfl

theorem capPop_besides (s : State) (n : Nat) : (s.capPop n).1.besidesTime = s.besidesTime := by
  unfold capPop
  dsimp only
  split
  · rfl
  · split <;> rfl

theorem besidesTimers_of_time {s t : State} (h : t.besidesTime = s.besidesTime) : t.besidesTimers = s.besidesTimers :=
  keeps_of_finer h fun _ => rfl

theorem ticks_besidesTimers (k : Nat) (s : State) : (ticks k s).tick.besidesTimers = s.besidesTimers :=
  besidesTimers_of_time ((tick_besides _).trans (ticks_besides k s))

theorem answer_besidesTimers (s : State) (st : Nat) (d : List Word) : (s.answer st d).besidesTimers = s.besidesTimers := rfl

/-! ### General I/O (15 R405-R410) -/

theorem gioNote_besides (s : State) : s.gioNote.besidesGio = s.besidesGio := by
  unfold gioNote
  exact keeps_ite besidesGio (drive_keeps besidesGio _ _ _) rfl

theorem besidesGio_of_time {s t : State} (h : t.besidesTime = s.besidesTime) : t.besidesGio = s.besidesGio :=
  keeps_of_finer h fun _ => rfl

theorem setGio_besides (s : State) (g : GioSt) : ({ s with gio := g } : State).besidesGio = s.besidesGio := rfl

theorem gioKick_besides (s : State) (v : Word) : (s.gioKick v).1.besidesGio = s.besidesGio := by
  unfold gioKick
  split
  · rfl
  · split
    · rfl
    · split
      · split <;> rfl
      · rfl

theorem gioClearWd_besides (s : State) : s.gioClearWd.besidesGio = s.besidesGio := by
  unfold gioClearWd
  exact keeps_ite besidesGio rfl (gioNote_besides _)

/-! ### Rings (11 R311-R331) -/

theorem setRing_besides (s : State) (r2 : Bool) (r : RingSt) : (s.setRing r2 r).besidesRings = s.besidesRings := by
  unfold setRing
  exact keeps_ite besidesRings rfl rfl

theorem setPort_besides (s : State) (r2 pB : Bool) (p : PortSt) : (s.setPort r2 pB p).besidesRings = s.besidesRings :=
  setRing_besides s r2 _

theorem egress_besides (s : State) (r2 pB : Bool) (f : OutFrame) : (s.egress r2 pB f).besidesRings = s.besidesRings := by
  unfold egress
  exact keeps_ite besidesRings (setPort_besides s r2 pB _) rfl

theorem originate_besides (s : State) (r2 toA toB : Bool) (prio qno : Nat) (dest : List Byte) (cls : Nat) (body : List Byte)
    (ts : Option Byte) : (s.originate r2 toA toB prio qno dest cls body ts).besidesRings = s.besidesRings := by
  unfold originate
  extract_lets f _ s1 s2
  have h1 : s1.besidesRings = s.besidesRings := setRing_besides s r2 _
  have h2 : s2.besidesRings = s.besidesRings := keeps_ite besidesRings ((egress_besides s1 _ _ _).trans h1) h1
  exact keeps_ite besidesRings ((egress_besides s2 _ _ _).trans h2) h2

theorem wholeFalls_besides (s : State) (r2 : Bool) : (s.wholeFalls r2).besidesRings = s.besidesRings := by
  unfold wholeFalls
  exact keeps_ite besidesRings rfl ((drive_keeps besidesRings _ _ _).trans (setRing_besides s r2 _))

theorem checkWindow_besides (s : State) (r2 : Bool) : (s.checkWindow r2).besidesRings = s.besidesRings := by
  unfold checkWindow
  extract_lets r one _ a _ b s1
  have h1 : s1.besidesRings = s.besidesRings := setRing_besides s r2 _
  refine keeps_ite besidesRings rfl (keeps_ite besidesRings ((wholeFalls_besides s1 r2).trans h1) ?_)
  exact keeps_ite besidesRings ((setRing_besides s1 r2 _).trans h1) h1

theorem lineWhole_besides (s : State) (r2 : Bool) : (s.lineWhole r2).besidesRings = s.besidesRings := by
  unfold lineWhole
  exact keeps_ite besidesRings rfl (keeps_ite besidesRings (setRing_besides s r2 _) (wholeFalls_besides s r2))

theorem phyBad_besides (s : State) (phy : Nat) : (s.phyBad phy).besidesRings = s.besidesRings := by
  unfold phyBad
  exact keeps_ite besidesRings rfl rfl

theorem linkChange_besides (s : State) (r2 pB up : Bool) : (s.linkChange r2 pB up).besidesRings = s.besidesRings := by
  unfold linkChange
  refine keeps_ite besidesRings rfl (keeps_ite besidesRings ((lineWhole_besides _ r2).trans (setPort_besides s r2 pB _)) ?_)
  extract_lets ls s1 s2
  have h1 : s1.besidesRings = s.besidesRings := setPort_besides s r2 pB _
  have h2 : s2.besidesRings = s.besidesRings :=
    keeps_ite besidesRings ((lineWhole_besides s1 r2).trans h1) ((wholeFalls_besides s1 r2).trans h1)
  exact keeps_ite besidesRings ((drive_keeps besidesRings _ _ _).trans ((phyBad_besides s2 _).trans h2)) h2

theorem tsinfo_besides (s : State) : s.tsinfo.1.besidesRings = s.besidesRings := by
  unfold tsinfo
  dsimp only
  split <;> rfl

/-! ### The ridge link (21 R540-R547) -/

theorem setSide_besides (s : State) (ld : Bool) (v : SideSt) : (s.setSide ld v).besidesLink = s.besidesLink := rfl

theorem noteRemote_besides (s : State) : s.noteRemote.besidesLink = s.besidesLink := driveIf_keeps besidesLink s _ _ _

theorem linkFault_besides (s : State) (detail : Nat) : (s.linkFault detail).besidesLink = s.besidesLink := drive_keeps besidesLink _ _ _

theorem linkError_besides (s : State) (ld : Bool) (e : LinkErr) : (s.linkError ld e).besidesLink = s.besidesLink := by
  unfold linkError
  exact keeps_ite besidesLink (linkFault_besides _ 0) rfl

theorem linkTake_besides (s : State) (ld : Bool) (e : LinkErr) (orig : Nat) : (s.linkTake ld e orig).1.besidesLink = s.besidesLink := by
  unfold linkTake
  split
  · rfl
  · split
    · exact linkError_besides s ld e
    · rfl

theorem stopArrives_besides (s : State) (ld : Bool) (orig : Nat) (lines : BitVec 16) (refresh : Byte) :
    (s.stopArrives ld orig lines refresh).besidesLink = s.besidesLink := by
  unfold stopArrives
  exact noteRemote_besides _

theorem stopFrame_besides (s : State) (ld : Bool) (e : LinkErr) (orig : Nat) (lines : BitVec 16) (refresh : Byte) :
    (s.stopFrame ld e orig lines refresh).besidesLink = s.besidesLink := by
  have htake := linkTake_besides s ld e orig
  unfold stopFrame
  exact keeps_ite besidesLink ((stopArrives_besides _ ld orig lines refresh).trans htake)
    (keeps_ite besidesLink ((linkFault_besides _ 1).trans htake) htake)

theorem alignLost_besides (s : State) : s.alignLost.besidesLink = s.besidesLink := drive_keeps besidesLink _ _ _

theorem exchange_besides (s : State) (h : Int) : (s.exchange h).besidesLink = s.besidesLink := by
  unfold exchange
  extract_lets ns k good bad step up s1 _ _ s2
  have h2 : s2.besidesLink = s.besidesLink := keeps_ite besidesLink rfl rfl
  exact keeps_ite besidesLink ((alignLost_besides s2).trans h2) h2

theorem timeFrame_besides (s : State) (ld : Bool) (e : LinkErr) (orig : Nat) (t1 t2 t3 t4 : Stamp) :
    (s.timeFrame ld e orig t1 t2 t3 t4).besidesLink = s.besidesLink := by
  have htake := linkTake_besides s ld e orig
  unfold timeFrame
  exact keeps_ite besidesLink ((exchange_besides _ _).trans htake) htake

theorem originGone_besides (s : State) (d : Nat) : (s.originGone d).besidesLink = s.besidesLink := by
  have takes (t : State) : t.takesOver.besidesLink = t.besidesLink := keeps_ite besidesLink rfl rfl
  exact (takes _).trans ((noteRemote_besides _).trans rfl)

theorem alignTimeout_besides (s : State) (missed : Bool) : (s.alignTimeout missed).besidesLink = s.besidesLink := by
  unfold alignTimeout
  exact keeps_ite besidesLink rfl (keeps_ite besidesLink (alignLost_besides s) (keeps_ite besidesLink rfl rfl))

end State

/-! ### The commands of each unit -/

/-- The commands of the inputs and the test pulses (07). -/
def inputCommand : Instr → Bool
  | .inputFilterChange _ _ _ | .testPulseStart _ | .testPulseEnd _ _ _ _ _ _ _ | .testPulseMaskClose _ | .tpOverloadTrip _
  | .tpOverloadRetry _ | .tpOverloadClear _ => true
  | _ => false

/-- The commands of the outputs (08). -/
def outputCommand : Instr → Bool
  | .offTestStart _ | .offTestPass _ | .offTestTimeout _ _ | .onTestStart _ | .onTestPass _ | .onTestTimeout _
  | .outputOverloadTrip _ _ | .outputOverloadClear _ | .groupCurrentTrip _ | .groupCurrentClear _ | .groupSupplyChange _ _ => true
  | _ => false

/-- The commands of the loops (14) other than the DAC update, which may be a commit's safe point. -/
def loopCommand : Instr → Bool
  | .loopBackfeed _ | .loopBackfeedClear _ | .loopModeSwitchEnd _ | .transmitData _ _ _ | .fskTxStart _ _ _
  | .fskAbort _ _ _ | .fskTxBegin _ | .fskTxByte _ | .fskTxEnd _ | .fskCarrierDetect _ _ | .fskRxByte _ _ _ _ | .rxdPop _ _ => true
  | _ => false

/-- A DAC update that is no commit's safe point (03 R77, R78; 14 R389). -/
def dacCommand (s : State) : Instr → Bool
  | .loopDacUpdate _ _ _ _ _ => s.conv.cstate != 1 || !s.conv.cmask.testBit 1
  | _ => false

/-- The commands of the general I/O bank (15). -/
def gioCommand : Instr → Bool
  | .gioInputChange _ _ | .gioCurrentLimitTrip _ _ | .gioDriverRestore _ _ | .gioReadbackMismatch _ _ | .gioOvertemp _ _ | .vgLow _
  | .wdkick _ _ | .gioWatchdogExpire | .gioWatchdogClear _ => true
  | _ => false

/-- The commands of the timers (13) that neither spill captures nor strobe a channel. -/
def timerCommand : Instr → Bool
  | .tcCountEdge _ _ _ | .tcCompareMatch _ _ | .tcWrap _ | .tcCapture _ _ _ | .capturePop _ _ | .wcFire _ | .pllLockLost
  | .pllLockRestored | .tioDriverOvertemp _ _ => true
  | _ => false

/-- The commands of the rings (11) that no queue and no session takes part in. -/
def ringCommand : Instr → Bool
  | .ringCheckSend _ | .ringCheckWindow _ | .portLinkChange _ _ _ | .tsinfoPop _ => true
  | _ => false

/-- The commands of the ridge link (21) for stop frames and time. -/
def linkCommand : Instr → Bool
  | .ridgeStop _ _ _ _ _ | .ridgeStopSend | .ridgeOriginTimeout _ | .ridgeSideDown _ | .ridgeTime _ _ _ _ _ _ _
  | .ridgeAlignmentTimeout _ => true
  | _ => false

theorem keeps_of_exec {β : Type} {g : State → β} {i : Instr} {s t u : State} (h : exec i s = .next t) (he : exec i s = .next u)
    (hu : g u = g s) : g t = g s := by
  rw [Host.Outcome.next.inj (h.symm.trans he), hu]

theorem onlyOutputs_of_exec {i : Instr} {s t u : State} (h : exec i s = .next t) (he : exec i s = .next u) (hu : s.onlyOutputs u) :
    s.onlyOutputs t := by
  rwa [Host.Outcome.next.inj (h.symm.trans he)]

theorem exec_inputFilterChange_silent {s : State} (hm : s.md.mode = .off ∨ s.md.mode = .reset) (n : Fin 32) (chB : Bool)
    (xs : InSamples) :
    exec (.inputFilterChange n chB xs) s = .next s := by
  show execInputFilterChange n chB xs s = _
  unfold execInputFilterChange
  rcases hm with hm | hm <;> rw [hm]

theorem exec_inputFilterChange {s : State} (hoff : s.md.mode ≠ .off) (hreset : s.md.mode ≠ .reset) (n : Fin 32) (chB : Bool)
    (xs : InSamples) : exec (.inputFilterChange n chB xs) s = .next (s.feedInput chB n xs) := by
  show execInputFilterChange n chB xs s = _
  unfold execInputFilterChange
  split
  · contradiction
  · contradiction
  · rfl

section
open State

theorem execTcCountEdge_besides {s t : State} {n : Fin 16} {a b : HeldLevel} (h : execTcCountEdge n a b s = .next t) :
    t.besidesTime = s.besidesTime := by
  unfold execTcCountEdge at h
  extract_lets c late none a' b' u inv back qx at h
  rw [← Host.Outcome.next.inj h]
  have hu : u.besidesTime = s.besidesTime := rfl
  have step (down : Bool) : (u.tcStep n down).besidesTime = s.besidesTime := (tcStep_besides u n down).trans hu
  refine keeps_ite besidesTime rfl (keeps_ite besidesTime hu ?_)
  split
  · exact keeps_ite besidesTime (step _) hu
  · exact keeps_ite besidesTime hu (keeps_ite besidesTime (step _) hu)
  · exact keeps_ite besidesTime (step _) hu
  · exact hu

variable {s t : State} {i : Instr} (h : exec i s = .next t)
include h

theorem exec_inputCommand (hi : inputCommand i = true) : t.besidesInputs = s.besidesInputs := by
  cases i with
  | inputFilterChange n chB xs =>
    by_cases hm : s.md.mode = .off ∨ s.md.mode = .reset
    · exact keeps_of_exec h (exec_inputFilterChange_silent hm n chB xs) rfl
    · obtain ⟨hoff, hreset⟩ := not_or.1 hm
      exact keeps_of_exec h (exec_inputFilterChange hoff hreset n chB xs) (feedInput_besides s chB n xs)
  | testPulseStart k => exact keeps_of_exec h rfl (pulseStart_besides s k)
  | testPulseEnd k seenA seenB forA forB tpA tpB => exact keeps_of_exec h rfl (pulseEnd_besides s k seenA seenB forA forB tpA tpB)
  | testPulseMaskClose k =>
    exact keeps_of_exec h rfl (keeps_ite besidesInputs rfl ((maskInputs_besides _ true k false).trans (maskInputs_besides s false k false)))
  | tpOverloadTrip k => exact keeps_of_exec h rfl (keeps_ite besidesInputs rfl (drive_keeps besidesInputs _ _ _))
  | tpOverloadRetry k => exact keeps_of_exec h rfl (keeps_ite besidesInputs rfl rfl)
  | tpOverloadClear k => exact keeps_of_exec h rfl (keeps_ite besidesInputs rfl rfl)
  | _ => exact absurd hi Bool.false_ne_true

theorem exec_outputCommand (hi : outputCommand i = true) : s.onlyOutputs t := by
  cases i with
  | offTestStart k => exact onlyOutputs_of_exec h rfl (onlyOutputs_ite (setOut_only s k _) rfl)
  | offTestPass fell =>
    refine onlyOutputs_of_exec h rfl ?_
    split
    · rfl
    · exact onlyOutputs_trans (tieAll_only s _ fell true) (offPass_only _ _ _)
  | offTestTimeout fell midOn =>
    refine onlyOutputs_of_exec h rfl ?_
    split
    · rfl
    · exact onlyOutputs_trans (tieAll_only s _ fell true) (offFail_only _ _ _ midOn)
  | onTestStart k => exact onlyOutputs_of_exec h rfl (onlyOutputs_ite (setOut_only s k _) rfl)
  | onTestPass rose =>
    refine onlyOutputs_of_exec h rfl ?_
    split
    · rfl
    · exact onlyOutputs_trans (tieAll_only s _ rose false) (setOut_only _ _ _)
  | onTestTimeout rose =>
    refine onlyOutputs_of_exec h rfl ?_
    split
    · rfl
    · exact onlyOutputs_trans (tieAll_only s _ rose false) (onlyOutputs_trans (setOut_only _ _ _) (outFlag_only _ _ _))
  | outputOverloadTrip k temp => exact onlyOutputs_of_exec h rfl (outTrip_only s k temp)
  | outputOverloadClear k => exact onlyOutputs_of_exec h rfl (onlyOutputs_ite rfl (setOut_only s k _))
  | groupCurrentTrip g => exact onlyOutputs_of_exec h rfl (groupTrip_only s g)
  | groupCurrentClear g => exact onlyOutputs_of_exec h rfl (onlyOutputs_ite (by rfl) (onlyOutputs_ite (by rfl) (by rfl)))
  | groupSupplyChange g low => exact onlyOutputs_of_exec h rfl (onlyOutputs_trans (by rfl) (noteSupply_only _ g))
  | _ => exact absurd hi Bool.false_ne_true

theorem exec_loopCommand (hi : loopCommand i = true) : t.besidesLoops = s.besidesLoops := by
  cases i with
  | loopBackfeed n => exact keeps_of_exec h rfl (drive_keeps besidesLoops _ _ _)
  | loopBackfeedClear n => exact keeps_of_exec h rfl rfl
  | loopModeSwitchEnd n => exact keeps_of_exec h rfl rfl
  | transmitData m n v => exact keeps_of_exec h rfl (keeps_ite besidesLoops rfl (loopTxd_besides s n v))
  | fskTxStart m n v => exact keeps_of_exec h rfl (keeps_ite besidesLoops rfl (loopTxcmd_besides s n (v ||| 1)))
  | fskAbort m n v => exact keeps_of_exec h rfl (keeps_ite besidesLoops rfl (loopTxcmd_besides s n (v ||| 2)))
  | fskTxBegin n =>
    refine keeps_of_exec h rfl ?_
    split
    · exact keeps_ite besidesLoops rfl rfl
    · rfl
  | fskTxByte n =>
    refine keeps_of_exec h rfl (keeps_ite besidesLoops rfl ?_)
    split
    · split <;> rfl
    · rfl
  | fskTxEnd n =>
    refine keeps_of_exec h rfl (keeps_ite besidesLoops rfl ?_)
    split <;> rfl
  | fskCarrierDetect n up => exact keeps_of_exec h rfl (keeps_ite besidesLoops rfl rfl)
  | fskRxByte n data parity stop =>
    refine keeps_of_exec h rfl (keeps_ite besidesLoops rfl ?_)
    split <;> rfl
  | rxdPop m n => exact keeps_of_exec h rfl (keeps_ite besidesLoops rfl (loopRxd_besides s n))
  | _ => exact absurd hi Bool.false_ne_true

theorem exec_dacCommand (hi : dacCommand s i = true) : t.besidesLoops = s.besidesLoops := by
  cases i with
  | loopDacUpdate s0 s1 s2 s3 vlLow =>
    refine keeps_of_exec h rfl ?_
    rw [reach_idle hi]
    exact dacUpdate_besides s s0 s1 s2 s3 vlLow
  | _ => exact absurd hi Bool.false_ne_true

theorem exec_gioCommand (hi : gioCommand i = true) : t.besidesGio = s.besidesGio := by
  cases i with
  | gioInputChange n x =>
    exact keeps_of_exec h rfl (keeps_ite besidesGio rfl (keeps_ite besidesGio (gioNote_besides _) (gioNote_besides _)))
  | gioCurrentLimitTrip tp n =>
    refine keeps_of_exec h rfl (keeps_ite besidesGio ?_ ?_)
    · exact keeps_ite besidesGio (gioNote_besides _) rfl
    · exact keeps_ite besidesGio (gioNote_besides _) rfl
  | gioDriverRestore tp n =>
    refine keeps_of_exec h rfl (keeps_ite besidesGio rfl ((gioNote_besides _).trans ?_))
    have ht := besidesGio_of_time (advanceTo_besides s (look 0 s.gio.tripAt (if tp then 16 + n.val else n.val) + 20000000))
    exact keeps_ite besidesGio ht ht
  | gioReadbackMismatch n bad => exact keeps_of_exec h rfl (gioNote_besides _)
  | gioOvertemp n hot => exact keeps_of_exec h rfl (keeps_ite besidesGio (gioNote_besides _) rfl)
  | vgLow low => exact keeps_of_exec h rfl (gioNote_besides _)
  | wdkick m v => exact keeps_of_exec h rfl (keeps_ite besidesGio rfl (gioKick_besides s v))
  | gioWatchdogExpire =>
    refine keeps_of_exec h rfl ?_
    split
    · rfl
    · refine keeps_ite besidesGio rfl ((gioNote_besides _).trans ((drive_keeps besidesGio _ _ _).trans ?_))
      exact (setGio_besides _ _).trans (besidesGio_of_time (advanceTo_besides s _))
  | gioWatchdogClear m => exact keeps_of_exec h rfl (keeps_ite besidesGio rfl (gioClearWd_besides s))
  | _ => exact absurd hi Bool.false_ne_true

theorem exec_timerCommand (hi : timerCommand i = true) : t.besidesTimers = s.besidesTimers := by
  cases i with
  | tcCountEdge n a b => exact besidesTimers_of_time (execTcCountEdge_besides h)
  | tcCompareMatch n k1 => exact keeps_of_exec h rfl (keeps_ite besidesTimers (ticks_besidesTimers _ s) rfl)
  | tcWrap n => exact keeps_of_exec h rfl (keeps_ite besidesTimers (ticks_besidesTimers _ s) rfl)
  | tcCapture n rise held =>
    exact keeps_of_exec h rfl (keeps_ite besidesTimers rfl (keeps_ite besidesTimers (drive_keeps besidesTimers _ _ _) rfl))
  | capturePop m n =>
    have hpop := besidesTimers_of_time (capPop_besides s n)
    exact keeps_of_exec h rfl (keeps_ite besidesTimers rfl ((answer_besidesTimers _ _ _).trans hpop))
  | wcFire w =>
    exact keeps_of_exec h rfl (besidesTimers_of_time (keeps_ite besidesTime rfl ((wcFire_besides _ w).trans (advanceTo_besides s _))))
  | pllLockLost => exact keeps_of_exec h rfl (keeps_ite besidesTimers rfl (drive_keeps besidesTimers _ _ _))
  | pllLockRestored =>
    refine keeps_of_exec h rfl ?_
    split <;> rfl
  | tioDriverOvertemp n hot => exact keeps_of_exec h rfl rfl
  | _ => exact absurd hi Bool.false_ne_true

theorem exec_ringCommand (hi : ringCommand i = true) : t.besidesRings = s.besidesRings := by
  cases i with
  | ringCheckSend r2 => exact keeps_of_exec h rfl (keeps_ite besidesRings (originate_besides s r2 true true 2 0 broadcast 3 _ none) rfl)
  | ringCheckWindow r2 => exact keeps_of_exec h rfl (checkWindow_besides s r2)
  | portLinkChange r2 pB up => exact keeps_of_exec h rfl (linkChange_besides s r2 pB up)
  | tsinfoPop m => exact keeps_of_exec h rfl (keeps_ite besidesRings rfl (tsinfo_besides s))
  | _ => exact absurd hi Bool.false_ne_true

theorem exec_linkCommand (hi : linkCommand i = true) : t.besidesLink = s.besidesLink := by
  cases i with
  | ridgeStop ld e orig lines refresh => exact keeps_of_exec h rfl (stopFrame_besides s ld e orig lines refresh)
  | ridgeStopSend => exact keeps_of_exec h rfl (keeps_ite besidesLink rfl rfl)
  | ridgeOriginTimeout orig => exact keeps_of_exec h rfl (originGone_besides s orig)
  | ridgeSideDown ld => exact keeps_of_exec h rfl (setSide_besides s ld _)
  | ridgeTime ld e orig t1 t2 t3 t4 => exact keeps_of_exec h rfl (timeFrame_besides s ld e orig t1 t2 t3 t4)
  | ridgeAlignmentTimeout missed => exact keeps_of_exec h rfl (alignTimeout_besides s missed)
  | _ => exact absurd hi Bool.false_ne_true

end

/-- Settles O55: each family's commands keep the state besides what the unit may change. -/
theorem fieldCommandFrames : Obligations.FieldCommandFrames := by
  unfold Obligations.FieldCommandFrames
  intro s t i h inputs outputs loops gio timers rings ridge dac conv
  refine ⟨fun hi => ?_, fun hi => ?_, fun hi => ?_, fun hi => ?_, fun hi => ?_, fun hi => ?_, fun hi => ?_⟩
  · exact congrArg (fun u : State => { u with inputs := t.inputs, flt := t.flt }) (exec_inputCommand h hi)
  · exact exec_outputCommand h hi
  · have hloops : t.besidesLoops = s.besidesLoops := (Bool.or_eq_true_iff.1 hi).elim (exec_loopCommand h) (exec_dacCommand h)
    exact congrArg (fun u : State => { u with loop := t.loop, regs := t.regs, flt := t.flt, resp := t.resp }) hloops
  · exact congrArg (fun u : State => { u with
        gio := t.gio, tmr := t.tmr, conv := { u.conv with snapBusy := t.conv.snapBusy, snapSeq := t.conv.snapSeq }
        regs := t.regs, flt := t.flt, resp := t.resp })
      (exec_gioCommand h hi)
  · exact congrArg (fun u : State => { u with
        tmr := t.tmr, conv := { u.conv with snapBusy := t.conv.snapBusy, snapSeq := t.conv.snapSeq }
        lnk := { u.lnk with opened := t.lnk.opened }, regs := t.regs, flt := t.flt, resp := t.resp })
      (exec_timerCommand h hi)
  · exact congrArg (fun u : State => { u with net := t.net, regs := t.regs, flt := t.flt, resp := t.resp }) (exec_ringCommand h hi)
  · exact congrArg (fun u : State => { u with lnk := t.lnk, tmr := t.tmr, regs := t.regs, flt := t.flt, fresh := t.fresh })
      (exec_linkCommand h hi)

end Sys2Proof.Machine
end

section
/-! SUPPORT. The filters of the inputs and the slot of a test pulse (07 R221, R228-R234): what a run of samples makes of a filter, and
what a pulse's start, its end and the closing of its masks leave of each input and source. -/
namespace Sys2Proof.Machine

/-! ### Filters (07 R221) -/

/-- Fewer samples than the filter time turn no filter on. -/
theorem foldl_filtStep_short {f : Nat} : ∀ (xs : List Bool) (c : Filt), c.out = false → c.run + xs.length < f →
    (xs.foldl (State.filtStep f) c).out = false := by
  intro xs
  induction xs with
  | nil => intro c hout _; exact hout
  | cons x xs ih =>
    intro c hout hlen
    rw [List.length_cons] at hlen
    have hstep : State.filtStep f c x = { c with run := if x then c.run + 1 else 0 } := by
      unfold State.filtStep
      cases x <;> simp [hout]
      omega
    rw [List.foldl_cons, hstep]
    refine ih _ hout ?_
    cases x <;> simp <;> omega

/-- The sample that completes the filter time turns the filter on. -/
theorem foldl_filtStep_full {f : Nat} : ∀ (k : Nat) (c : Filt), c.out = false → c.run + (k + 1) = f →
    ((List.replicate (k + 1) true).foldl (State.filtStep f) c).out = true := by
  intro k
  induction k with
  | zero =>
    intro c hout hrun
    simp [State.filtStep, hout, hrun]
  | succ k ih =>
    intro c hout hrun
    have hstep : State.filtStep f c true = { c with run := c.run + 1 } := by
      have hlt : ¬ f ≤ c.run + 1 := by omega
      simp [State.filtStep, hout, hlt]
    rw [List.replicate_succ, List.foldl_cons, hstep]
    exact ih _ hout (by simp only; omega)

namespace State

/-! ### Inputs and sources read after a write -/

theorem inp_setInp (s : State) (n j : Nat) (v : InSt) : (s.setInp n v).inp j = if j = n then v else s.inp j := look_put_eq _ _ _ _ _

theorem tp_setTp (s : State) (k : Nat) (v : TpSt) : (s.setTp k v).tp k = v := look_put _ _ _ _

theorem inChan_congr {s t : State} {n : Nat} (h : t.inp n = s.inp n) (chB : Bool) : t.inChan chB n = s.inChan chB n := by
  unfold inChan
  rw [h]

theorem setInChan_inp_ne (s : State) (chB : Bool) {n j : Nat} (h : j ≠ n) (c : InChan) : (s.setInChan chB n c).inp j = s.inp j :=
  (inp_setInp s n j _).trans (if_neg h)

theorem inChan_setInChan (s : State) (chB : Bool) (n : Nat) (c : InChan) : (s.setInChan chB n c).inChan chB n = c := by
  unfold setInChan inChan
  rw [inp_setInp, if_pos rfl]
  cases chB <;> rfl

/-- What one channel knows of an input is not the other's. -/
theorem inChan_setInChan_other (s : State) (chB : Bool) (n j : Nat) (c : InChan) :
    (s.setInChan chB n c).inChan (!chB) j = s.inChan (!chB) j := by
  by_cases h : j = n
  · subst h
    unfold setInChan inChan
    rw [inp_setInp, if_pos rfl]
    cases chB <;> rfl
  · exact inChan_congr (setInChan_inp_ne s chB h c) _

/-- The configuration of an input is not part of the inputs' state (07 R224). -/
theorem inSrc_of_besides {s t : State} (h : t.besidesInputs = s.besidesInputs) (chB : Bool) (n : Nat) : t.inSrc chB n = s.inSrc chB n :=
  keeps_of_finer (g := fun u => u.inSrc chB n) h fun _ => rfl

/-! ### Samples of an input (07 R215, R221) -/

theorem feedInput_masked {s : State} {chB : Bool} {n : Nat} (h : (s.inChan chB n).mask = true) (xs : InSamples) :
    s.feedInput chB n xs = s := if_pos h

/-- Samples reach the filter of an input that is not masked, unless its comparator is under test; the spare's filter is no input's. -/
theorem feedInput_inp {s : State} {chB : Bool} {n : Nat} (h : (s.inChan chB n).mask = false) (xs : InSamples) (j : Nat) :
    (s.feedInput chB n xs).inp j = (if (s.spareAt chB n && s.cmpOff) = true then s else s.setInChan chB n
      { s.inChan chB n with filt := xs.own.foldl (filtStep (s.inFilt chB n - 2)) (s.inChan chB n).filt }).inp j := by
  unfold feedInput
  rw [if_neg (by simp [h])]
  exact keeps_ite (fun t => t.inp j) rfl rfl

/-! ### A pass over the inputs -/

section
variable {f : State → Nat → State} (hlocal : ∀ t j n, n ≠ j → (f t j).inp n = t.inp n)
include hlocal

theorem foldl_inp_of_notMem {n : Nat} : ∀ (l : List Nat) (s : State), n ∉ l → (l.foldl f s).inp n = s.inp n := by
  intro l
  induction l with
  | nil => intro s _; rfl
  | cons j l ih =>
    intro s hn
    obtain ⟨hj, hl⟩ := not_or.1 (mt List.mem_cons.2 hn)
    exact (ih (f s j) hl).trans (hlocal s j n hj)

/-- A pass that treats each input by itself leaves an input as its own step does, from what the pass found of it. -/
theorem foldl_inp (hbesides : ∀ t j, (f t j).besidesInputs = t.besidesInputs) {n : Nat} :
    ∀ (l : List Nat) (s : State), l.Nodup → n ∈ l →
      ∃ u : State, u.besidesInputs = s.besidesInputs ∧ u.inp n = s.inp n ∧ (l.foldl f s).inp n = (f u n).inp n := by
  intro l
  induction l with
  | nil => intro s _ hn; exact absurd hn List.not_mem_nil
  | cons j l ih =>
    intro s hnodup hn
    obtain ⟨hj, hl⟩ := List.nodup_cons.1 hnodup
    by_cases hnj : n = j
    · subst hnj
      exact ⟨s, rfl, rfl, foldl_inp_of_notMem hlocal l _ hj⟩
    · obtain ⟨u, hu, hinp, hfold⟩ := ih (f s j) hl ((List.mem_cons.1 hn).resolve_left hnj)
      exact ⟨u, hu.trans (hbesides s j), hinp.trans (hlocal s j n hnj), hfold⟩

/-- The pass over all inputs. -/
theorem foldl_inp_all (hbesides : ∀ t j, (f t j).besidesInputs = t.besidesInputs) (s : State) (n : Fin 32) :
    ∃ u : State, u.besidesInputs = s.besidesInputs ∧ u.inp n = s.inp n ∧ ((upFrom 32 0).foldl f s).inp n = (f u n).inp n := by
  refine foldl_inp hlocal hbesides _ s ?_ ?_
  · rw [upFrom_eq_range']
    exact List.nodup_range'
  · rw [upFrom_eq_range', List.mem_range'_1]
    omega

end

/-! ### Masks (07 R230, R232) -/

theorem maskInputs_mask {s : State} {chB : Bool} {k : Nat} {n : Fin 32} (h : s.inSrc chB n = some k) (b : Bool) :
    ((s.maskInputs chB k b).inChan chB n).mask = b := by
  obtain ⟨u, hu, -, hinp⟩ := foldl_inp_all
    (f := fun (s : State) n => if s.inSrc chB n = some k then s.setInChan chB n { s.inChan chB n with mask := b } else s)
    (fun t j n hn => keeps_ite (fun t => t.inp n) (setInChan_inp_ne t chB hn _) rfl)
    (fun t j => keeps_ite besidesInputs (setInChan_besides t chB j _) rfl) s n
  rw [if_pos ((inSrc_of_besides hu chB n).trans h)] at hinp
  rw [show (s.maskInputs chB k b).inChan chB n = _ from inChan_congr hinp chB, inChan_setInChan]

theorem maskInputs_other (s : State) (chB : Bool) (k : Nat) (b : Bool) (n : Nat) :
    (s.maskInputs chB k b).inChan (!chB) n = s.inChan (!chB) n := by
  unfold maskInputs
  refine foldl_keeps (fun t => t.inChan (!chB) n) _ (fun t j => ?_) _ s
  exact keeps_ite (fun t => t.inChan (!chB) n) (inChan_setInChan_other t chB j n _) rfl

theorem maskInputs_tps (s : State) (chB : Bool) (k : Nat) (b : Bool) : (s.maskInputs chB k b).inputs.tps = s.inputs.tps := by
  unfold maskInputs
  refine foldl_keeps (fun t => t.inputs.tps) _ (fun t j => ?_) _ s
  exact keeps_ite (fun t => t.inputs.tps) rfl rfl

/-! ### The start of a slot (07 R228, R230) -/

theorem tp_congr {s t : State} (h : t.inputs.tps = s.inputs.tps) (k : Nat) : t.tp k = s.tp k := by
  unfold tp
  rw [h]

/-- In the cycle of a schedule the slot opens, with the masks of each channel whose own schedule fires the source. -/
theorem pulseStart_fires {s : State} {k : Nat} (hmode : s.tpModes = true)
    (hslot : ((s.tp k).pulsing || (s.tp k).winA || (s.tp k).winB) = false)
    (hfires : (s.unitFires k || s.tpFires false k || s.tpFires true k) = true) :
    (s.pulseStart k).tp k = { s.tp k with pulsing := s.unitFires k, winA := s.tpFires false k, winB := s.tpFires true k }
      ∧ ∀ (chB : Bool) (n : Fin 32), s.tpFires chB k = true → s.inSrc chB n = some k →
          ((s.pulseStart k).inChan chB n).mask = true := by
  unfold pulseStart
  extract_lets u a b v s1 s2
  rw [if_neg (by simp [hmode, hslot, hfires, u, a, b, v])]
  have htps2 : s2.inputs.tps = s1.inputs.tps := keeps_ite (fun t => t.inputs.tps) (maskInputs_tps s1 false k true) rfl

  refine ⟨?_, fun chB n hf hn => ?_⟩
  · refine (tp_congr (s := s1) ?_ k).trans (tp_setTp s k _)
    exact keeps_ite (fun t => t.inputs.tps) ((maskInputs_tps s2 true k true).trans htps2) htps2
  · have hsrc2 (c : Bool) : s2.inSrc c n = s.inSrc c n :=
      inSrc_of_besides (keeps_ite besidesInputs (maskInputs_besides s1 false k true) rfl) c n
    cases chB with
    | false =>
      have hmask : (s2.inChan false n).mask = true := by
        rw [show s2 = s1.maskInputs false k true from if_pos hf]
        exact maskInputs_mask (s := s1) hn true
      have hother := keeps_ite (fun t : State => t.inChan false n) (c := b = true) (maskInputs_other s2 true k true n) rfl
      exact (congrArg InChan.mask hother).trans hmask
    | true =>
      rw [if_pos hf]
      exact maskInputs_mask ((hsrc2 true).trans hn) true

/-! ### The end of a slot (07 R230, R231, R234, R238) -/

theorem judgeInput_inp_ne (s : State) (chB : Bool) (k : Nat) (seen foreign : BitVec 32) {n j : Nat} (h : j ≠ n) :
    (s.judgeInput chB k seen foreign n).inp j = s.inp j := by
  unfold judgeInput
  dsimp only
  split
  · rfl
  · exact keeps_ite (fun t => t.inp j) (setInChan_inp_ne s chB h _) (keeps_ite (fun t => t.inp j) (setInChan_inp_ne s chB h _) rfl)

theorem judgeInput_other (s : State) (chB : Bool) (k : Nat) (seen foreign : BitVec 32) (n j : Nat) :
    (s.judgeInput chB k seen foreign n).inChan (!chB) j = s.inChan (!chB) j := by
  unfold judgeInput
  dsimp only
  split
  · rfl
  · exact keeps_ite (fun t => t.inChan (!chB) j) (inChan_setInChan_other s chB n j _)
      (keeps_ite (fun t => t.inChan (!chB) j) (inChan_setInChan_other s chB n j _) rfl)

theorem judgeInput_missed {s : State} {chB : Bool} {k : Nat} {seen : BitVec 32} {n : Nat} (hsrc : s.inSrc chB n = some k)
    (hseen : bit seen n = false) (foreign : BitVec 32) : ((s.judgeInput chB k seen foreign n).inChan chB n).pmiss = true := by
  unfold judgeInput
  simp only [hsrc, hseen, if_true, if_false, Bool.false_eq_true, inChan_setInChan]

/-- A channel's judgement of all inputs at the end of a pulse of source k. -/
def judgeInputs (s : State) (chB : Bool) (k : Nat) (seen foreign : BitVec 32) : State :=
  (upFrom 32 0).foldl (fun (s : State) n => s.judgeInput chB k seen foreign n) s

theorem judgeInputs_besides (s : State) (chB : Bool) (k : Nat) (seen foreign : BitVec 32) :
    (s.judgeInputs chB k seen foreign).besidesInputs = s.besidesInputs :=
  foldl_keeps besidesInputs _ (fun t n => judgeInput_besides t chB k seen foreign n) _ s

theorem judgeInputs_other (s : State) (chB : Bool) (k : Nat) (seen foreign : BitVec 32) (n : Nat) :
    (s.judgeInputs chB k seen foreign).inChan (!chB) n = s.inChan (!chB) n :=
  foldl_keeps (fun t => t.inChan (!chB) n) _ (fun t j => judgeInput_other t chB k seen foreign j n) _ s

/-- Every input of the source that did not show its pulse has PMISS. -/
theorem judgeInputs_missed {s : State} {chB : Bool} {k : Nat} {seen : BitVec 32} {n : Fin 32} (hsrc : s.inSrc chB n = some k)
    (hseen : seen.getLsbD n = false) (foreign : BitVec 32) : ((s.judgeInputs chB k seen foreign).inChan chB n).pmiss = true := by
  obtain ⟨u, hu, -, hinp⟩ := foldl_inp_all (f := fun (s : State) n => s.judgeInput chB k seen foreign n)
    (fun t j _ hn => judgeInput_inp_ne t chB k seen foreign hn) (fun t j => judgeInput_besides t chB k seen foreign j) s n
  rw [show (s.judgeInputs chB k seen foreign).inChan chB n = _ from inChan_congr hinp chB]
  exact judgeInput_missed ((inSrc_of_besides hu chB n).trans hsrc) hseen foreign

theorem wireFaults_inputs (s : State) : s.wireFaults.inputs = s.inputs :=
  keeps_of_finer (g := State.inputs) (wireFaults_besides s) fun _ => rfl

theorem wireFaults_keeps_fault {s : State} {n : Nat} (h : (s.src n).rail ≠ .ok) : (s.wireFaults.src n).rail ≠ .ok := by
  unfold wireFaults
  refine List.foldlRecOn (motive := fun t : State => (t.src n).rail ≠ .ok) _ _ h fun t ht j _ => ?_
  exact driveIf_keeps_fault t _ _ n _ ht

/-- At the end of its slot a source pulses no more, an open window that did not see its pin low has driven F040, and each channel whose
window was open has judged the inputs. -/
theorem pulseEnd_judges {s : State} {k : Nat} (hslot : ((s.tp k).pulsing || (s.tp k).winA || (s.tp k).winB) = true)
    (seenA seenB forA forB : BitVec 32) (tpA tpB : Bool) :
    let v := s.tp k
    let high := (v.winA && !tpA) || (v.winB && !tpB)
    let low := v.winA && v.winB && tpA && tpB
    let t := s.pulseEnd k seenA seenB forA forB tpA tpB
    t.tp k = { v with pulsing := false, winA := false, winB := false, stuck := high || (v.stuck && !low)
                      pulses := if low then v.pulses + 1 else v.pulses }
      ∧ (high = true → (t.src 40).rail ≠ .ok)
      ∧ (v.winA = true → ∀ n : Fin 32, s.inSrc false n = some k → seenA.getLsbD n = false → (t.inChan false n).pmiss = true)
      ∧ (v.winB = true → ∀ n : Fin 32, s.inSrc true n = some k → seenB.getLsbD n = false → (t.inChan true n).pmiss = true) := by
  unfold pulseEnd
  extract_lets v high low missed s1 s2 s3 s4 t
  have ht : t = (s4.driveIf high 40 (det k)).wireFaults := if_neg (by simp [v, hslot])
  have hinputs : t.inputs = s4.inputs := by rw [ht, wireFaults_inputs, driveIf_keeps State.inputs]
  have hchan (chB : Bool) (n : Nat) : t.inChan chB n = s3.inChan chB n := by
    have hinp : t.inp n = s3.inp n := by
      rw [inp, hinputs]
      rfl
    exact inChan_congr hinp chB
  have h1 : s1.besidesInputs = s.besidesInputs := by
    refine foldl_keeps besidesInputs _ (fun t n => ?_) _ s
    exact keeps_ite besidesInputs rfl rfl
  have h2 : s2.besidesInputs = s.besidesInputs := keeps_ite besidesInputs ((judgeInputs_besides s1 false k seenA forA).trans h1) h1
  refine ⟨(tp_congr (congrArg InputsSt.tps hinputs) k).trans (tp_setTp s3 k _), fun hhigh => ?_, fun hwin n hsrc hseen => ?_,
    fun hwin n hsrc hseen => ?_⟩
  · rw [ht, driveIf, if_pos hhigh]
    exact wireFaults_keeps_fault (drive_rail s4 40 (det k) rfl)
  · have hjudged : (s2.inChan false n).pmiss = true := by
      rw [show s2 = s1.judgeInputs false k seenA forA from if_pos hwin]
      exact judgeInputs_missed ((inSrc_of_besides h1 false n).trans hsrc) hseen forA
    have hother : s3.inChan false n = s2.inChan false n :=
      keeps_ite (fun t : State => t.inChan false n) (judgeInputs_other s2 true k seenB forB n) rfl
    rw [hchan, hother, hjudged]
  · rw [hchan, show s3 = s2.judgeInputs true k seenB forB from if_pos hwin]
    exact judgeInputs_missed ((inSrc_of_besides h2 true n).trans hsrc) hseen forB

/-! ### Overloads of a source (07 R234) -/

theorem tpHigh_of_retryLow {s : State} {k : Nat} (h : (s.tp k).retryLow = true) : s.tpHigh k = false := by
  simp [tpHigh, h]

end State

/-! ### The commands -/

section
variable {s : State} {n : Fin 32} {chB : Bool} (hoff : s.md.mode ≠ .off) (hreset : s.md.mode ≠ .reset)
include hoff hreset

/-- A comparator under test feeds no filter. -/
theorem exec_inputFilterChange_underTest (hmask : (s.inChan chB n).mask = false) (htest : (s.spareAt chB n && s.cmpOff) = true)
    (xs : InSamples) : ∃ t, exec (.inputFilterChange n chB xs) s = .next t ∧ ∀ j, t.inp j = s.inp j := by
  refine ⟨_, exec_inputFilterChange hoff hreset n chB xs, fun j => ?_⟩
  rw [State.feedInput_inp hmask, if_pos htest]

/-- Samples run through the input's own filter and touch no other. -/
theorem exec_inputFilterChange_runs (hmask : (s.inChan chB n).mask = false) (htest : (s.spareAt chB n && s.cmpOff) = false)
    (xs : InSamples) : ∃ t, exec (.inputFilterChange n chB xs) s = .next t
      ∧ (t.inChan chB n).filt = xs.own.foldl (State.filtStep (s.inFilt chB n - 2)) (s.inChan chB n).filt
      ∧ t.inChan (!chB) n = s.inChan (!chB) n ∧ ∀ j, j ≠ n.val → t.inp j = s.inp j := by
  have hinp := State.feedInput_inp hmask xs
  rw [if_neg (by simp [htest])] at hinp
  refine ⟨_, exec_inputFilterChange hoff hreset n chB xs, ?_, ?_, fun j hj => (hinp j).trans (State.setInChan_inp_ne s chB hj _)⟩
  · rw [State.inChan_congr (hinp n), State.inChan_setInChan]
  · rw [State.inChan_congr (hinp n), State.inChan_setInChan_other]

end

section
variable {s : State} {k : Fin 8}

theorem exec_testPulseStart_idle
    (h : s.tpModes = false ∨ ((s.tp k).pulsing || (s.tp k).winA || (s.tp k).winB) = true
      ∨ (s.unitFires k || s.tpFires false k || s.tpFires true k) = false) : exec (.testPulseStart k) s = .next s := by
  show Host.Outcome.next (s.pulseStart k) = _
  unfold State.pulseStart
  extract_lets u a b v
  rw [if_pos]
  simp only [u, a, b, v, Bool.or_eq_true, Bool.or_eq_false_iff, Bool.not_eq_true'] at h ⊢
  rcases h with hmode | ((hpulse | hwinA) | hwinB) | hidle
  · exact .inl (.inl (.inl (.inl hmode)))
  · exact .inl (.inl (.inl (.inr hpulse)))
  · exact .inl (.inl (.inr hwinA))
  · exact .inl (.inr hwinB)
  · exact .inr hidle

theorem exec_testPulseMaskClose_open (h : ((s.tp k).pulsing || (s.tp k).winA || (s.tp k).winB) = true) :
    exec (.testPulseMaskClose k) s = .next s := congrArg _ (if_pos h)

theorem exec_testPulseMaskClose (h : ((s.tp k).pulsing || (s.tp k).winA || (s.tp k).winB) = false) :
    exec (.testPulseMaskClose k) s = .next ((s.maskInputs false k false).maskInputs true k false) :=
  congrArg _ (if_neg (by simp only [h, Bool.false_eq_true, not_false_eq_true]))

theorem exec_testPulseEnd_idle (h : ((s.tp k).pulsing || (s.tp k).winA || (s.tp k).winB) = false)
    (seenA seenB forA forB : BitVec 32) (tpA tpB : Bool) :
    exec (.testPulseEnd k seenA seenB forA forB tpA tpB) s = .next s :=
  congrArg _ (if_pos (by rw [h]; rfl))

end

/-- Settles O45: filters count samples in a row, every pass over the inputs treats each by itself, and a driven source stays at Fault. -/
theorem safetyInputs : Obligations.SafetyInputs := by
  unfold Obligations.SafetyInputs
  intro s k v slot
  refine ⟨fun n chB xs hoff hreset => ⟨fun hmask => ?_, fun hmask htest => ?_, fun hmask htest hout hrun hf => ?_⟩,
    fun n chB xs hm => exec_inputFilterChange_silent hm n chB xs, fun hmode hslot hfires => ?_, fun h => exec_testPulseStart_idle h,
    fun seenA seenB forA forB tpA tpB => ⟨fun hslot => ?_, fun hslot => exec_testPulseEnd_idle hslot seenA seenB forA forB tpA tpB⟩,
    fun hslot => ?_, fun hslot => exec_testPulseMaskClose_open hslot, fun hhigh => ?_, fun hlow => ?_,
    fun hovl => ⟨?_, fun hretry => ?_, fun hretry => ?_⟩, fun hovl => ⟨?_, ?_⟩⟩
  · rw [exec_inputFilterChange hoff hreset, State.feedInput_masked hmask]
  · exact exec_inputFilterChange_underTest hoff hreset hmask htest xs
  · obtain ⟨t, ht, hfilt, hother, hothers⟩ := exec_inputFilterChange_runs hoff hreset hmask htest xs
    refine ⟨t, ht, fun hshort => ?_, fun hfull => ?_, hother, hothers⟩
    · rw [hfilt]
      exact foldl_filtStep_short xs.own _ hout (by omega)
    · obtain ⟨f, hf⟩ := Nat.exists_eq_add_of_le' hf
      rw [hfilt, hfull, hf]
      exact foldl_filtStep_full f _ hout (by omega)
  · obtain ⟨htp, hmask⟩ := State.pulseStart_fires hmode hslot hfires
    exact ⟨_, rfl, by rw [htp], by rw [htp], by rw [htp], hmask⟩
  · obtain ⟨htp, hrail, hmissA, hmissB⟩ := State.pulseEnd_judges hslot seenA seenB forA forB tpA tpB
    refine ⟨_, rfl, by rw [htp], by rw [htp], by rw [htp], fun hstuck => ?_, fun hwinA hwinB hA hB => ?_, hmissA, hmissB⟩
    · have hhigh : (v.winA && !tpA || v.winB && !tpB) = true := by simpa using hstuck
      exact ⟨by rw [htp]; exact Bool.or_eq_true_iff.2 (.inl hhigh), hrail hhigh⟩
    · rw [htp]
      simp [v, hwinA, hwinB, hA, hB]
  · refine ⟨_, exec_testPulseMaskClose hslot, fun chB n hsrc => ?_⟩
    cases chB with
    | false =>
      rw [show State.inChan _ false n = _ from State.maskInputs_other (s.maskInputs false k false) true k false n]
      exact State.maskInputs_mask hsrc false
    | true => exact State.maskInputs_mask ((State.inSrc_of_besides (State.maskInputs_besides s false k false) true n).trans hsrc) false
  · have hexec : exec (.tpOverloadTrip k) s = .next ((s.setTp k { v with ovl := true, retryLow := true }).drive 40 (det k)) :=
      congrArg _ (if_neg (by rw [hhigh]; simp))
    have htp : ((s.setTp k { v with ovl := true, retryLow := true }).drive 40 (det k)).tp k = { v with ovl := true, retryLow := true } :=
      (State.drive_keeps (fun t => t.tp k) _ _ _).trans (State.tp_setTp s k _)
    exact ⟨_, hexec, by rw [htp], State.tpHigh_of_retryLow (by rw [htp]), State.drive_rail _ _ _ rfl⟩
  · exact congrArg _ (if_pos (by rw [hlow]; rfl))
  · exact congrArg _ (if_pos hovl)
  · exact congrArg _ (if_pos (by rw [hovl, hretry]; rfl))
  · exact congrArg _ (if_neg (by rw [hretry]; simp))
  · exact congrArg _ (if_neg (by rw [hovl]; simp))
  · exact congrArg _ (if_neg (by rw [hovl]; simp))

end Sys2Proof.Machine
end

section
/-! SUPPORT. The tests and trips of the safety outputs (08 R248-R259): bits and counters of a word after a write, what each
operation makes of every output, and the fault source of each flag of OUTDIAG. -/
namespace Sys2Proof.Machine

/-! ### Bits and fields of a word after a write -/

theorem getLsbD_putFld {n : Nat} (w : BitVec n) (lo len v i : Nat) :
    (putFld w lo len v).getLsbD i = if lo ≤ i ∧ i < lo + len then decide (i < n) && v.testBit (i - lo) else w.getLsbD i := by
  by_cases hn : i < n
  · have hrange : lo ≤ i ∧ i < lo + len ↔ lo ≤ i ∧ i - lo < len := by omega
    simp only [putFld, maskOf, hrange, BitVec.getLsbD_or, BitVec.getLsbD_and, BitVec.getLsbD_not, BitVec.getLsbD_ofNat,
      Nat.testBit_shiftLeft, Nat.testBit_mod_two_pow, Nat.testBit_two_pow_sub_one]
    by_cases hlo : lo ≤ i <;> by_cases hin : i - lo < len <;> simp [hlo, hin, hn]
  · rw [BitVec.getLsbD_of_ge _ _ (by omega), BitVec.getLsbD_of_ge w _ (by omega)]
    simp [hn]

theorem getLsbD_putBit {n : Nat} (w : BitVec n) (i : Nat) (b : Bool) (j : Nat) :
    (putBit w i b).getLsbD j = if j = i then decide (j < n) && b else w.getLsbD j := by
  rw [putBit, getLsbD_putFld]
  by_cases h : j = i
  · subst h
    cases b <;> simp
  · rw [if_neg (by omega), if_neg h]

/-- A counter in a field of a word counts up, and wraps at the field's width. -/
theorem extractLsb'_putFld_succ {n lo len : Nat} (h : lo + len ≤ n) (w : BitVec n) :
    (putFld w lo len (fld w lo len + 1)).extractLsb' lo len = w.extractLsb' lo len + 1 := by
  have hfld : w.extractLsb' lo len + 1 = BitVec.ofNat len (fld w lo len + 1) := by
    apply BitVec.eq_of_toNat_eq
    simp [fld]
  rw [hfld]
  refine BitVec.eq_of_getLsbD_eq fun i hi => ?_
  rw [BitVec.getLsbD_extractLsb', getLsbD_putFld, if_pos (by omega), BitVec.getLsbD_ofNat, Nat.add_sub_cancel_left]
  simp [hi, show lo + i < n by omega]

/-! ### One output after an operation -/

namespace OutSt

/-- Both switches open, and no test runs (08 R255, R259). -/
def opened (o : OutSt) (now : Nat) : OutSt :=
  { o with swA := false, swB := false, test := .none, chg := if o.swA || o.swB then now else o.chg }

theorem opened_opened (o : OutSt) (now : Nat) : (o.opened now).opened now = o.opened now := rfl

@[simp] theorem setSw_test (o : OutSt) (chB on : Bool) (now : Nat) : (o.setSw chB on now).test = o.test := by
  unfold setSw
  split
  · rfl
  · cases chB <;> rfl

@[simp] theorem setSw_diag (o : OutSt) (chB on : Bool) (now : Nat) : (o.setSw chB on now).diag = o.diag := by
  unfold setSw
  split
  · rfl
  · cases chB <;> rfl

theorem has_set (o : OutSt) {f : Nat} (hf : f < 32) (i : Nat) : (o.set f).has i = (decide (i = f) || o.has i) := by
  refine (getLsbD_putBit o.diag f true i).trans ?_
  by_cases h : i = f
  · simp [h, hf]
  · simp only [h, if_false, decide_false, Bool.false_or]
    rfl

theorem has_clear (o : OutSt) (f i : Nat) : (o.clear f).has i = (!decide (i = f) && o.has i) := by
  refine (getLsbD_putBit o.diag f false i).trans ?_
  by_cases h : i = f
  · simp [h]
  · simp only [h, if_false, decide_false, Bool.not_false, Bool.true_and]
    rfl

/-- The end of a passed off-test, before the tested switch closes again (08 R249, R260). -/
def offPassed (o : OutSt) (now : Nat) : OutSt :=
  { o with
    test := .none
    onfailAt := if o.has fONFAIL then now else o.onfailAt
    diag := putFld o.diag 16 8 (fld o.diag 16 8 + 1) }

theorem has_offPassed (o : OutSt) (now : Nat) {i : Nat} (hi : i < 16) : (o.offPassed now).has i = o.has i :=
  (getLsbD_putFld o.diag 16 8 _ i).trans (if_neg (by omega))

/-! Finding an output tied to another changes TIED and TIEWITH of OUTDIAG alone (08 R258, R264). -/

/-- TIED and TIEWITH with the output number j. -/
def tiedWith (o : OutSt) (j : Nat) : OutSt := { o with diag := putFld o.diag 12 4 j }.set fTIED

/-- The bits of OUTDIAG other than TIED and TIEWITH. -/
def untied : Word := 0xFFFF0FBF

/-- Besides TIED and TIEWITH. -/
def besidesTies (o : OutSt) : OutSt := { o with diag := o.diag &&& untied }

theorem tiedWith_has (o : OutSt) (j : Nat) : (o.tiedWith j).has fTIED = true := by
  rw [tiedWith, has_set _ (by decide)]
  rfl

theorem tiedWith_besidesTies (o : OutSt) (j : Nat) : (o.tiedWith j).besidesTies = o.besidesTies := by
  have hdiag : putBit (putFld o.diag 12 4 j) fTIED true &&& untied = o.diag &&& untied := by
    refine BitVec.eq_of_getLsbD_eq fun i hi => ?_
    rw [BitVec.getLsbD_and, BitVec.getLsbD_and, getLsbD_putBit, getLsbD_putFld]
    by_cases hbit : i = 6 ∨ 12 ≤ i ∧ i < 16
    · have hoff : untied.getLsbD i = false := by
        have : ∀ i : Fin 32, i.val = 6 ∨ 12 ≤ i.val ∧ i.val < 16 → untied.getLsbD i = false := by decide
        exact this ⟨i, hi⟩ hbit
      simp [hoff]
    · obtain ⟨htied, htiewith⟩ := not_or.1 hbit
      rw [if_neg htied, if_neg htiewith]
  exact congrArg (fun d => { o with diag := d }) hdiag

section
variable {o p : OutSt} (h : o.besidesTies = p.besidesTies)
include h

theorem has_of_besidesTies {i : Nat} (hi : untied.getLsbD i = true) : o.has i = p.has i := by
  have hdiag : (o.diag &&& untied).getLsbD i = (p.diag &&& untied).getLsbD i := congrArg (fun q => q.diag.getLsbD i) h
  rw [BitVec.getLsbD_and, BitVec.getLsbD_and, hi, Bool.and_true, Bool.and_true] at hdiag
  exact hdiag

/-- The counters of tests in OUTDIAG. -/
theorem counter_of_besidesTies {lo : Nat} (hlo : untied.extractLsb' lo 8 = BitVec.allOnes 8) :
    o.diag.extractLsb' lo 8 = p.diag.extractLsb' lo 8 := by
  have hdiag : (o.diag &&& untied).extractLsb' lo 8 = (p.diag &&& untied).extractLsb' lo 8 :=
    congrArg (fun q => q.diag.extractLsb' lo 8) h
  rwa [BitVec.extractLsb'_and, BitVec.extractLsb'_and, hlo, BitVec.and_allOnes, BitVec.and_allOnes] at hdiag

theorem sw_of_besidesTies (b : Bool) : o.sw b = p.sw b := congrArg (fun q => q.sw b) h
theorem dmd_of_besidesTies (b : Bool) : o.dmd b = p.dmd b := congrArg (fun q => q.dmd b) h
theorem hold_of_besidesTies (b : Bool) : o.hold b = p.hold b := congrArg (fun q => q.hold b) h
theorem stayOff_of_besidesTies : o.stayOff = p.stayOff := congrArg (fun q => q.stayOff) h

end

end OutSt

namespace State

/-! ### A flag of an output with its source (08 R262) -/

/-- The source of a flag of OUTDIAG. -/
def flagSrc (k f : Nat) : Nat :=
  if f = fSTKH ∨ f = fOTF ∨ f = fTIED then stuckSrc k
  else if f = fMIDF ∨ f = fBDF ∨ f = fONTF then switchSrc k
  else if f = fONFAIL then onfailSrc (outGrpB k)
  else overSrc (outGrpB k)

/-- An output's flag other than ONFAIL is set and its source driven. -/
theorem outFlag_eq (s : State) (k : Nat) {f : Nat} (hf : f ≠ fONFAIL) :
    s.outFlag k f = (s.setOut k ((s.out k).set f)).drive (flagSrc k f) (det k) := by
  have hset : ¬ (f = fONFAIL ∧ !(s.out k).has f) := fun h => hf h.1
  unfold outFlag flagSrc
  simp only [if_neg hset]
  rw [if_neg hf, if_neg hf]
  split
  · rfl
  · split <;> rfl

theorem outFlag_out (s : State) (k : Nat) {f : Nat} (hf : f ≠ fONFAIL) (j : Nat) :
    (s.outFlag k f).out j = if j = k then (s.out k).set f else s.out j := by
  rw [outFlag_eq s k hf]
  exact (drive_keeps (fun t => t.out j) _ _ _).trans (out_setOut s k j _)

theorem flagSrc_known {k f : Nat} (hk : k < 12) (hf : f < 12) : (srcDefault (flagSrc k f)).isSome = true := by
  have known : ∀ (k f : Fin 12), (srcDefault (flagSrc k f)).isSome = true := by decide
  exact known ⟨k, hk⟩ ⟨f, hf⟩

theorem outFlag_rail (s : State) {k f : Nat} (hk : k < 12) (hf : f < 12) (hne : f ≠ fONFAIL) :
    ((s.outFlag k f).src (flagSrc k f)).rail ≠ .ok := by
  rw [outFlag_eq s k hne]
  exact drive_rail _ _ _ (flagSrc_known hk hf)

theorem outFlag_keeps_fault {s : State} {n : Nat} (h : (s.src n).rail ≠ .ok) (k : Nat) {f : Nat} (hf : f ≠ fONFAIL) :
    ((s.outFlag k f).src n).rail ≠ .ok := by
  rw [outFlag_eq s k hf]
  exact drive_keeps_fault _ _ _ _ h

/-! ### The state besides each single output -/

/-- Besides what each output is by itself, and the collector. -/
def besidesOuts (s : State) : State := { s with outputs := { s.outputs with outs := [] }, flt := {} }

theorem outFlag_besidesOuts (s : State) (k : Nat) {f : Nat} (hf : f ≠ fONFAIL) : (s.outFlag k f).besidesOuts = s.besidesOuts := by
  rw [outFlag_eq s k hf]
  exact drive_keeps besidesOuts _ _ _

/-! ### Ties (08 R258) -/

theorem tie1_out (s : State) (k j i : Nat) : (s.tie1 k j).out i = if i = k then (s.out k).tiedWith j else s.out i := by
  unfold tie1
  rw [outFlag_out _ k (by decide), out_setOut, out_setOut, if_pos rfl]
  by_cases h : i = k
  · rw [if_pos h, if_pos h]
    rfl
  · rw [if_neg h, if_neg h, if_neg h]

theorem tie1_besidesTies (s : State) (k j i : Nat) : ((s.tie1 k j).out i).besidesTies = (s.out i).besidesTies := by
  rw [tie1_out]
  split
  case isTrue h => rw [OutSt.tiedWith_besidesTies, h]
  case isFalse => rfl

theorem tie1_besidesOuts (s : State) (k j : Nat) : (s.tie1 k j).besidesOuts = s.besidesOuts :=
  (outFlag_besidesOuts _ k (by decide)).trans rfl

theorem tieAll_besidesTies (s : State) (k : Nat) (moved : BitVec 12) (on : Bool) (i : Nat) :
    ((s.tieAll k moved on).out i).besidesTies = (s.out i).besidesTies :=
  foldl_keeps (fun t => (t.out i).besidesTies) _
    (fun t j => (tie1_besidesTies (t.tie1 k j) j k i).trans (tie1_besidesTies t k j i)) _ s

theorem tieAll_besidesOuts (s : State) (k : Nat) (moved : BitVec 12) (on : Bool) : (s.tieAll k moved on).besidesOuts = s.besidesOuts :=
  foldl_keeps besidesOuts _ (fun t j => (tie1_besidesOuts (t.tie1 k j) j k).trans (tie1_besidesOuts t k j)) _ s

theorem tie1_keeps_tied {s : State} {i : Nat} (h : (s.out i).has fTIED = true) (k j : Nat) :
    ((s.tie1 k j).out i).has fTIED = true := by
  rw [tie1_out]
  split
  · exact OutSt.tiedWith_has _ j
  · exact h

theorem tie1_ties (s : State) (k j : Nat) : ((s.tie1 k j).out k).has fTIED = true := by
  rw [tie1_out, if_pos rfl]
  exact OutSt.tiedWith_has _ j

/-- What one item's pass establishes and every pass keeps holds after the loop. -/
theorem foldl_establishes {α : Type} {P : State → Prop} {f : State → α → State} {a : α} (hset : ∀ t, P (f t a))
    (hkeep : ∀ t b, P t → P (f t b)) {l : List α} (ha : a ∈ l) (s : State) : P (l.foldl f s) := by
  obtain ⟨before, after, rfl⟩ := List.append_of_mem ha
  rw [List.foldl_append, List.foldl_cons]
  exact List.foldlRecOn (motive := P) after f (hset _) fun t ht b _ => hkeep t b ht

/-- An output whose readback moved with the tested one, and the tested one, have TIED. -/
theorem tieAll_tied {s : State} {k j : Nat} {moved : BitVec 12} {on : Bool} (h : j ∈ s.tied k moved on) :
    ((s.tieAll k moved on).out j).has fTIED = true ∧ ((s.tieAll k moved on).out k).has fTIED = true := by
  have pass {a : Nat} (hset : ∀ t : State, (((t.tie1 k j).tie1 j k).out a).has fTIED = true) :
      ((s.tieAll k moved on).out a).has fTIED = true :=
    foldl_establishes (P := fun t => (t.out a).has fTIED = true) (f := fun t i => (t.tie1 k i).tie1 i k) hset
      (fun t i ha => tie1_keeps_tied (s := t.tie1 k i) (tie1_keeps_tied ha k i) i k) h s
  exact ⟨pass fun t => tie1_ties (t.tie1 k j) j k, pass fun t => tie1_keeps_tied (tie1_ties t k j) j k⟩

theorem mem_tied {s : State} {k : Nat} {j : Fin 12} {moved : BitVec 12} {on : Bool} :
    j.val ∈ s.tied k moved on ↔ j.val ≠ k ∧ moved.getLsbD j = true ∧ (s.out j).swA = on ∧ (s.out j).swB = on := by
  have hmem : j.val ∈ upFrom 12 0 := by rw [upFrom_eq_range', List.mem_range'_1]; omega
  have hbit : bit moved j = moved.getLsbD j := rfl
  simp only [tied, List.mem_filter, hmem, hbit, true_and, Bool.and_eq_true, bne_iff_ne, beq_iff_eq, and_assoc]

/-! ### The tested output (08 R248, R251) -/

theorem testedOut_lt {s : State} {off : Bool} {k : Nat} {b : Bool} (h : s.testedOut off = some (k, b)) : k < 12 := by
  obtain ⟨i, hi, hfound⟩ := List.exists_of_findSome?_eq_some h
  have hik : i = k := by
    split at hfound
    · split at hfound
      · exact congrArg Prod.fst (Option.some.inj hfound)
      · exact absurd hfound (Option.some_ne_none _).symm
    · split at hfound
      · exact absurd hfound (Option.some_ne_none _).symm
      · exact congrArg Prod.fst (Option.some.inj hfound)
    · exact absurd hfound (Option.some_ne_none _).symm
  rw [upFrom_eq_range', List.mem_range'_1] at hi
  omega

/-! ### The end of an off-test (08 R249, R250) -/

/-- A channel may close the switch that its off-test held open. -/
def mayCloseAgain (s : State) (chB : Bool) (k : Nat) : Bool :=
  s.outModes && !s.railOut chB && !(if chB then s.md.badModeB else s.md.badModeA) && !s.outTripped k && !(s.out k).hold chB

/-- The end of the test itself trips nothing. -/
theorem mayClose_offPassed (s : State) (chB : Bool) (k now : Nat) :
    (s.setOut k ((s.out k).offPassed now)).mayClose chB k = s.mayCloseAgain chB k := by
  have hout : (s.setOut k ((s.out k).offPassed now)).out k = (s.out k).offPassed now := (out_setOut s k k _).trans (if_pos rfl)
  have htripped : (s.setOut k ((s.out k).offPassed now)).outTripped k = s.outTripped k := by
    unfold outTripped
    rw [hout, OutSt.has_offPassed _ _ (by decide), OutSt.has_offPassed _ _ (by decide)]
    rfl
  unfold mayClose mayCloseAgain
  rw [htripped, hout]
  exact Bool.and_true _

theorem offPass_out (s : State) (k : Nat) (chB : Bool) (j : Nat) :
    (s.offPass k chB).out j = if j = k then
      { (s.out k).offPassed s.now with stayOff := false }.setSw chB
        ((s.out k).dmd chB && !(s.out k).stayOff && s.mayCloseAgain chB k) s.now
    else s.out j := by
  rw [← mayClose_offPassed s chB k s.now]
  unfold offPass
  extract_lets o o1 o2 s1
  rw [out_setOut]
  by_cases h : j = k
  · rw [if_pos h, if_pos h]
    rfl
  · rw [if_neg h, if_neg h]
    exact (out_setOut s k j _).trans (if_neg h)

/-- The end of an off-test that passed, after the ties found: the test is over and counted, and the switch closes again exactly if
its channel demanded on throughout and may close it (08 R249, R250). -/
theorem tieAll_offPass (s : State) (k : Nat) (b : Bool) (fell : BitVec 12) :
    let t := (s.tieAll k fell true).offPass k b
    (t.out k).test = .none
      ∧ (t.out k).diag.extractLsb' 16 8 = (s.out k).diag.extractLsb' 16 8 + 1
      ∧ (t.out k).sw b = ((s.out k).dmd b && !(s.out k).stayOff && s.mayCloseAgain b k)
      ∧ (∀ j, j ≠ k → t.out j = (s.tieAll k fell true).out j)
      ∧ (t.out k).has fTIED = ((s.tieAll k fell true).out k).has fTIED := by
  intro t
  have hties := s.tieAll_besidesTies k fell true k
  have hagain : (s.tieAll k fell true).mayCloseAgain b k = s.mayCloseAgain b k := by
    have hrest := s.tieAll_besidesOuts k fell true
    have hmodes : (s.tieAll k fell true).outModes = s.outModes := keeps_of_finer (g := outModes) hrest fun _ => rfl
    have hrail : (s.tieAll k fell true).railOut b = s.railOut b := keeps_of_finer (g := fun u => u.railOut b) hrest fun _ => rfl
    have hmd : (s.tieAll k fell true).md = s.md := keeps_of_finer (g := md) hrest fun _ => rfl
    have hgovc : (s.tieAll k fell true).govc (outGrpB k) = s.govc (outGrpB k) :=
      keeps_of_finer (g := fun u => u.govc (outGrpB k)) hrest fun _ => rfl
    unfold mayCloseAgain outTripped
    rw [hmodes, hrail, hmd, hgovc, OutSt.hold_of_besidesTies hties, OutSt.has_of_besidesTies hties (by decide),
      OutSt.has_of_besidesTies hties (by decide)]
  have hout : t.out k = _ := (offPass_out (s.tieAll k fell true) k b k).trans (if_pos rfl)
  refine ⟨?_, ?_, ?_, fun j hj => (offPass_out (s.tieAll k fell true) k b j).trans (if_neg hj), ?_⟩
  · rw [hout, OutSt.setSw_test]
    rfl
  · rw [hout, OutSt.setSw_diag, ← OutSt.counter_of_besidesTies hties (by decide)]
    exact extractLsb'_putFld_succ (by decide) _
  · rw [hout, sw_setSw, if_pos rfl, hagain, OutSt.dmd_of_besidesTies hties, OutSt.stayOff_of_besidesTies hties]
  · rw [hout, OutSt.has, OutSt.setSw_diag]
    exact OutSt.has_offPassed _ (s.tieAll k fell true).now (by decide)

/-- The switch of a failed off-test stays as the test left it, held open, with OTF and the stuck-high source. -/
theorem offFail_holds (s : State) {k : Nat} (hk : k < 12) (b midOn : Bool) :
    let t := s.offFail k b midOn
    (t.out k).test = .none ∧ (t.out k).hold b = true ∧ (t.out k).sw b = (s.out k).sw b ∧ (t.out k).has fOTF = true
      ∧ (t.src (stuckSrc k)).rail ≠ .ok := by
  unfold offFail
  extract_lets o s1 s2 t
  have hout : s2.out k = ({ (s.out k).setHold b with test := .none, stayOff := false } : OutSt).set fOTF := by
    rw [show s2 = s1.outFlag k fOTF from rfl, outFlag_out _ _ (by decide), if_pos rfl, out_setOut, if_pos rfl]
  have hotf : (s2.out k).has fOTF = true := by
    rw [hout, OutSt.has_set _ (by decide)]
    rfl
  have hheld : (s2.out k).test = .none ∧ (s2.out k).hold b = true ∧ (s2.out k).sw b = (s.out k).sw b := by
    rw [hout]
    cases b <;> exact ⟨rfl, rfl, rfl⟩
  have hrail : (s2.src (stuckSrc k)).rail ≠ .ok := outFlag_rail s1 (f := fOTF) hk (by decide) (by decide)
  obtain ⟨htest, hhold, hsw⟩ := hheld
  by_cases hmid : (midOn && !(s2.out k).swA) = true
  · rw [show t = s2.outFlag k fMIDF from if_pos hmid, outFlag_out s2 k (by decide), if_pos rfl]
    refine ⟨htest, hhold, hsw, ?_, outFlag_keeps_fault hrail k (by decide)⟩
    rw [OutSt.has_set _ (by decide), hotf, Bool.or_true]
  · rw [show t = s2 from if_neg hmid]
    exact ⟨htest, hhold, hsw, hotf, hrail⟩

/-! ### Trips (08 R255, R259) -/

theorem outTrip_out (s : State) (k : Nat) (temp : Bool) (j : Nat) :
    (s.outTrip k temp).out j = if j = k then
      let o := ((s.out k).opened s.now).set fOVLD
      if temp then o.set fOTEMP else o
    else s.out j := by
  unfold outTrip
  extract_lets o o1 s1
  have hout (i : Nat) : s1.out i = if i = k then ((s.out k).opened s.now).set fOVLD else s.out i := by
    rw [show s1 = (s.setOut k o1).outFlag k fOVLD from rfl, outFlag_out _ _ (by decide), out_setOut, out_setOut, if_pos rfl]
    by_cases h : i = k
    · rw [if_pos h, if_pos h]
      rfl
    · rw [if_neg h, if_neg h, if_neg h]
  cases temp with
  | false => exact hout j
  | true =>
    rw [if_pos rfl, outFlag_out _ _ (by decide), hout, hout, if_pos rfl]
    by_cases h : j = k
    · rw [if_pos h, if_pos h]
      rfl
    · rw [if_neg h, if_neg h, if_neg h]

theorem outTrip_rail (s : State) {k : Nat} (hk : k < 12) (temp : Bool) : ((s.outTrip k temp).src (overSrc (outGrpB k))).rail ≠ .ok := by
  unfold outTrip
  extract_lets o o1 s1
  have hrail : (s1.src (overSrc (outGrpB k))).rail ≠ .ok := outFlag_rail (s.setOut k o1) (f := fOVLD) hk (by decide) (by decide)
  split
  · exact outFlag_keeps_fault hrail k (by decide)
  · exact hrail

/-- The outputs of a group. -/
theorem mem_group (k : Fin 12) (g : Bool) : k.val ∈ upFrom 6 (if g then 6 else 0) ↔ decide (6 ≤ k.val) = g := by
  rw [upFrom_eq_range', List.mem_range'_1]
  cases g <;> simp

/-- A pass that opens the outputs of a list opens each of them and leaves the others. -/
theorem foldl_opened_out (n : Nat) (l : List Nat) : ∀ s : State,
    (l.foldl (fun (s : State) k => s.setOut k ((s.out k).opened s.now)) s).out n =
      if n ∈ l then (s.out n).opened s.now else s.out n := by
  induction l with
  | nil => intro s; simp
  | cons j l ih =>
    intro s
    have hnow : (s.setOut j ((s.out j).opened s.now)).now = s.now := rfl
    rw [List.foldl_cons, ih, out_setOut, hnow]
    by_cases hj : n = j
    · subst hj
      simp only [if_pos, List.mem_cons_self, OutSt.opened_opened, ite_self]
    · simp only [List.mem_cons, hj, false_or, if_false]

theorem groupTrip_out (s : State) (g : Bool) (k : Fin 12) :
    (s.groupTrip g).out k = if decide (6 ≤ k.val) = g then (s.out k).opened s.now else s.out k := by
  unfold groupTrip
  extract_lets s1 s2
  have h1 : s1.out k = if decide (6 ≤ k.val) = g then (s.out k).opened s.now else s.out k := by
    rw [show s1.out k = _ from foldl_opened_out k _ s]
    simp only [mem_group]
  rw [← h1]
  exact (drive_keeps (fun t => t.out k) _ _ _).trans (keeps_ite (fun t => t.out k) rfl rfl)

theorem groupTrip_govc (s : State) (g : Bool) : (s.groupTrip g).govc g = true := by
  unfold groupTrip
  extract_lets s1 s2
  refine (drive_keeps (fun t => t.govc g) _ _ _).trans ?_
  cases g <;> rfl

theorem groupTrip_rail (s : State) (g : Bool) : ((s.groupTrip g).src (overSrc g)).rail ≠ .ok := by
  refine drive_rail _ _ _ ?_
  cases g <;> rfl

/-! ### Group supplies (08 R259) -/

theorem noteSupply_supLow (s : State) (g : Bool) : (s.noteSupply g).supLow g = s.supLow g := by
  unfold noteSupply
  refine keeps_ite (fun t => t.supLow g) ((drive_keeps (fun t => t.supLow g) _ _ _).trans ?_) rfl
  exact keeps_ite (fun t => t.supLow g) rfl rfl

theorem noteSupply_idle {s : State} {g : Bool} (h : s.supLow g = false) : s.noteSupply g = s := if_neg (by simp [h])

/-- A low supply with an output of the group demanded on sets VFLOW. -/
theorem noteSupply_vfLow {s : State} {k : Fin 12} {g : Bool} (hlow : s.supLow g = true) (hk : decide (6 ≤ k.val) = g)
    (hdmd : (s.out k).dmdA = true ∨ (s.out k).dmdB = true) : (s.noteSupply g).vfLow g = true := by
  have hany : (upFrom 6 (if g then 6 else 0)).any (fun k => (s.out k).dmdA || (s.out k).dmdB) = true :=
    List.any_eq_true.2 ⟨k, (mem_group k g).2 hk, Bool.or_eq_true_iff.2 hdmd⟩
  unfold noteSupply
  by_cases hvf : s.vfLow g = true
  · rw [if_neg (by simp [hvf])]
    exact hvf
  · rw [if_pos (by simp [hlow, hvf, hany])]
    refine (drive_keeps (fun t => t.vfLow g) _ _ _).trans ?_
    cases g <;> rfl

end State

/-! ### The commands of the tests -/

section
variable {s : State} {k : Nat} {b : Bool}

theorem exec_offTestPass (h : s.testedOut true = some (k, b)) (fell : BitVec 12) :
    exec (.offTestPass fell) s = .next ((s.tieAll k fell true).offPass k b) := by
  show execOffTestPass fell s = _
  unfold execOffTestPass
  rw [h]

theorem exec_offTestTimeout (h : s.testedOut true = some (k, b)) (fell : BitVec 12) (midOn : Bool) :
    exec (.offTestTimeout fell midOn) s = .next ((s.tieAll k fell true).offFail k b midOn) := by
  show execOffTestTimeout fell midOn s = _
  unfold execOffTestTimeout
  rw [h]

theorem exec_offTest_idle (h : s.testedOut true = none) (fell : BitVec 12) (midOn : Bool) :
    exec (.offTestPass fell) s = .next s ∧ exec (.offTestTimeout fell midOn) s = .next s := by
  constructor
  · show execOffTestPass fell s = _
    unfold execOffTestPass
    rw [h]
  · show execOffTestTimeout fell midOn s = _
    unfold execOffTestTimeout
    rw [h]

theorem exec_onTest_idle (h : s.testedOut false = none) (rose : BitVec 12) :
    exec (.onTestPass rose) s = .next s ∧ exec (.onTestTimeout rose) s = .next s := by
  constructor
  · show execOnTestPass rose s = _
    unfold execOnTestPass
    rw [h]
  · show execOnTestTimeout rose s = _
    unfold execOnTestTimeout
    rw [h]

/-- The end of an on-test that passed (08 R252). -/
theorem exec_onTestPass (h : s.testedOut false = some (k, b)) (rose : BitVec 12) :
    ∃ t, exec (.onTestPass rose) s = .next t ∧ (t.out k).test = .none
      ∧ (t.out k).diag.extractLsb' 24 8 = (s.out k).diag.extractLsb' 24 8 + 1 := by
  show ∃ t, execOnTestPass rose s = .next t ∧ _
  unfold execOnTestPass
  rw [h]
  refine ⟨_, rfl, ?_⟩
  rw [State.out_setOut, if_pos rfl, ← OutSt.counter_of_besidesTies (s.tieAll_besidesTies k rose false k) (by decide)]
  exact ⟨rfl, extractLsb'_putFld_succ (by decide) _⟩

/-- The end of an on-test at its limit (08 R252). -/
theorem exec_onTestTimeout (h : s.testedOut false = some (k, b)) (rose : BitVec 12) :
    ∃ t, exec (.onTestTimeout rose) s = .next t ∧ (t.out k).test = .none ∧ (t.out k).has fONTF = true
      ∧ (t.src (switchSrc k)).rail ≠ .ok := by
  show ∃ t, execOnTestTimeout rose s = .next t ∧ _
  unfold execOnTestTimeout
  rw [h]
  refine ⟨_, rfl, ?_⟩
  rw [State.outFlag_out _ _ (by decide), if_pos rfl, State.out_setOut, if_pos rfl, OutSt.has_set _ (by decide)]
  exact ⟨rfl, rfl, State.outFlag_rail _ (f := fONTF) (State.testedOut_lt h) (by decide) (by decide)⟩

end

section
variable {s : State} {k : Fin 12}

/-! ### The commands that start a test, and the trips -/

theorem exec_offTestStart (h : s.offDue k = true) :
    ∃ t, exec (.offTestStart k) s = .next t ∧ (t.out k).test = .off s.testRound ∧ (t.out k).sw s.testRound = false
      ∧ (t.out k).sw (!s.testRound) = (s.out k).sw (!s.testRound) ∧ (∀ j, j ≠ k.val → t.out j = s.out j) := by
  refine ⟨_, congrArg Host.Outcome.next (if_pos h), ?_⟩
  rw [State.out_setOut, if_pos rfl]
  refine ⟨rfl, ?_, ?_, fun j hj => (State.out_setOut s k j _).trans (if_neg hj)⟩
  · exact (State.sw_setSw (s.out k) s.testRound s.testRound false s.now).trans (if_pos rfl)
  · exact (State.sw_setSw (s.out k) s.testRound (!s.testRound) false s.now).trans (if_neg (by simp))

theorem exec_outputOverloadTrip (temp : Bool) :
    ∃ t, exec (.outputOverloadTrip k temp) s = .next t ∧ (t.out k).swA = false ∧ (t.out k).swB = false
      ∧ (t.out k).test = .none ∧ (t.out k).has fOVLD = true ∧ (temp = true → (t.out k).has fOTEMP = true)
      ∧ (t.src (overSrc (outGrpB k))).rail ≠ .ok ∧ (∀ j, j ≠ k.val → t.out j = s.out j) := by
  have hrail := s.outTrip_rail k.isLt temp
  refine ⟨s.outTrip k temp, rfl, ?_⟩
  have hothers (j : Nat) (hj : j ≠ k.val) : (s.outTrip k temp).out j = s.out j := (s.outTrip_out k temp j).trans (if_neg hj)
  rw [State.outTrip_out, if_pos rfl]
  cases temp with
  | false =>
    refine ⟨rfl, rfl, rfl, ?_, fun h => absurd h Bool.false_ne_true, hrail, hothers⟩
    exact (OutSt.has_set _ (by decide) _).trans rfl
  | true =>
    refine ⟨rfl, rfl, rfl, ?_, fun _ => ?_, hrail, hothers⟩
    · rw [if_pos rfl, OutSt.has_set _ (by decide), OutSt.has_set _ (by decide)]
      rfl
    · exact (OutSt.has_set _ (by decide) _).trans rfl

/-- The trip flags of an output that is off are cleared (08 R255). -/
theorem exec_outputOverloadClear (hA : (s.out k).swA = false) (hB : (s.out k).swB = false) :
    ∃ t, exec (.outputOverloadClear k) s = .next t ∧ (t.out k).has fOVLD = false ∧ (t.out k).has fOTEMP = false := by
  refine ⟨_, congrArg Host.Outcome.next (if_neg (by simp [hA, hB])), ?_⟩
  rw [State.out_setOut, if_pos rfl]
  simp only [OutSt.has_clear]
  exact ⟨rfl, rfl⟩

theorem exec_outputOverloadClear_on (h : (s.out k).swA = true ∨ (s.out k).swB = true) :
    exec (.outputOverloadClear k) s = .next s := congrArg _ (if_pos (Bool.or_eq_true_iff.2 h))

end

section
variable {s : State} {g : Bool}

theorem exec_groupCurrentTrip :
    ∃ t, exec (.groupCurrentTrip g) s = .next t ∧ t.govc g = true ∧ (t.src (overSrc g)).rail ≠ .ok
      ∧ (∀ k : Fin 12, decide (6 ≤ k.val) = g → (t.out k).swA = false ∧ (t.out k).swB = false)
      ∧ (∀ k : Fin 12, decide (6 ≤ k.val) ≠ g → t.out k = s.out k) := by
  refine ⟨s.groupTrip g, rfl, s.groupTrip_govc g, s.groupTrip_rail g, fun k hk => ?_, fun k hk => ?_⟩
  · rw [State.groupTrip_out, if_pos hk]
    exact ⟨rfl, rfl⟩
  · rw [State.groupTrip_out, if_neg hk]

theorem exec_groupCurrentClear (h : s.groupOff g = true) :
    ∃ t, exec (.groupCurrentClear g) s = .next t ∧ t.govc g = false ∧ t.govc (!g) = s.govc (!g) := by
  refine ⟨_, congrArg Host.Outcome.next (if_neg (by simp [h])), ?_⟩
  cases g <;> exact ⟨rfl, rfl⟩

theorem exec_groupCurrentClear_on (h : s.groupOff g = false) : exec (.groupCurrentClear g) s = .next s :=
  congrArg _ (if_pos (by simp [h]))

/-- A group supply that goes low is noted with VFLOW while an output of the group is demanded on, and one that has recovered ends
it (08 R259). -/
theorem exec_groupSupplyChange (low : Bool) :
    ∃ t, exec (.groupSupplyChange g low) s = .next t ∧ t.supLow g = low ∧ (low = false → t.vfLow g = false)
      ∧ (∀ k : Fin 12, low = true → decide (6 ≤ k.val) = g → ((s.out k).dmdA = true ∨ (s.out k).dmdB = true) → t.vfLow g = true) := by
  have hexec : ∃ u : State, exec (.groupSupplyChange g low) s = .next (u.noteSupply g) ∧ u.supLow g = low
      ∧ u.vfLow g = (s.vfLow g && low) ∧ ∀ k, u.out k = s.out k := by
    cases g <;> exact ⟨_, rfl, rfl, rfl, fun _ => rfl⟩
  obtain ⟨u, hu, hsup, hvf, hout⟩ := hexec
  refine ⟨_, hu, (u.noteSupply_supLow g).trans hsup, fun hlow => ?_, fun k hlow hk hdmd => ?_⟩
  · rw [State.noteSupply_idle (hsup.trans hlow), hvf, hlow, Bool.and_false]
  · exact State.noteSupply_vfLow (hsup.trans hlow) hk (by rwa [hout])

end

/-- Settles O46: what each test and trip makes of every output, the ties of a test kept by its end, and a driven source at Fault. -/
theorem safetyOutputs : Obligations.SafetyOutputs := by
  unfold Obligations.SafetyOutputs
  intro s
  refine ⟨fun k h => exec_offTestStart h, fun k h => congrArg _ (if_neg (by simp [h])), fun k b fell htested => ?_,
    fun fell midOn h => exec_offTest_idle h fell midOn,
    fun k => ⟨fun h => congrArg _ (if_pos h), fun h => congrArg _ (if_neg (by simp [h]))⟩,
    fun k b rose htested => ⟨exec_onTestPass htested rose, exec_onTestTimeout htested rose⟩,
    fun rose h => exec_onTest_idle h rose,
    fun k temp => ⟨?_, fun hA hB => exec_outputOverloadClear hA hB, fun h => exec_outputOverloadClear_on h⟩,
    fun g => ⟨exec_groupCurrentTrip, fun h => exec_groupCurrentClear h, fun h => exec_groupCurrentClear_on h,
      fun low => exec_groupSupplyChange low⟩⟩
  · constructor
    · obtain ⟨htest, hcount, hsw, hothers, htied⟩ := s.tieAll_offPass k b fell
      refine ⟨_, exec_offTestPass htested fell, htest, hcount, fun hdmd hstay hmodes hrail hbad htrip hhold => ?_, fun h => ?_,
        fun j hj hfell hA hB => ?_⟩
      · rw [hsw]
        simp [State.mayCloseAgain, hdmd, hstay, hmodes, hrail, hbad, htrip, hhold]
      · rw [hsw]
        rcases h with h | h <;> simp [h]
      · obtain ⟨hother, htested⟩ := State.tieAll_tied (State.mem_tied.2 ⟨hj, hfell, hA, hB⟩)
        rw [hothers j hj]
        exact ⟨hother, htied.trans htested⟩
    · intro midOn
      obtain ⟨htest, hhold, hsw, hotf, hrail⟩ := (s.tieAll k fell true).offFail_holds (State.testedOut_lt htested) b midOn
      have hties := OutSt.sw_of_besidesTies (s.tieAll_besidesTies k fell true k) b
      exact ⟨_, exec_offTestTimeout htested fell midOn, htest, hhold, hsw.trans hties, hotf, hrail⟩
  · obtain ⟨t, ht, hA, hB, htest, hovld, hotemp, hrail, hothers⟩ := exec_outputOverloadTrip (s := s) (k := k) temp
    have hsrc : overSrc (outGrpB k) = if 6 ≤ k.val then 73 else 72 := by simp [overSrc, outGrpB]
    exact ⟨t, ht, hA, hB, htest, hovld, hotemp, hsrc ▸ hrail, hothers⟩

end Sys2Proof.Machine
end

section
/-! SUPPORT. USRRAISE and the aliases of REVOKE (10 R301, R304): what driving a source and withdrawing its code leave of every pair, and
the ports closed after the operations that a revocation runs. -/
namespace Sys2Proof.Machine

/-! ### Bits of a word -/

theorem getLsbD_bitAt (n i j : Nat) : (bitAt n i).getLsbD j = (decide (j < n) && decide (j = i)) := by
  rw [bitAt, BitVec.getLsbD_ofNat, Nat.one_shiftLeft, Nat.testBit_two_pow]
  simp only [eq_comm (a := i)]

theorem bit_lowHalf (v : Word) {u : Nat} (hu : u < 16) : bit (v &&& 0xFFFF) u = v.getLsbD u := by
  have hmask : ∀ i < 16, (0xFFFF : Word).getLsbD i = true := by decide
  show (v &&& 0xFFFF).getLsbD u = _
  rw [BitVec.getLsbD_and, hmask u hu, Bool.and_true]

theorem testBit_fld (v : Word) {len k : Nat} (h : k < len) : (fld v 0 len).testBit k = v.getLsbD k := by
  rw [fld, Nat.testBit_mod_two_pow, Nat.shiftRight_zero, decide_eq_true h]
  rfl

namespace State

theorem mem_upFrom_zero {k n : Nat} (h : n < k) : n ∈ upFrom k 0 := by
  rw [upFrom_eq_range', List.mem_range'_1]
  omega

/-! ### The pair of a source driven or returned to OK (10 R288, R297) -/

theorem drive_cases (s : State) (n : Nat) (d : BitVec 16) : s.drive n d = s
    ∨ s.drive n d = { s with flt := { (s.setSrc n { s.src n with rail := .fault }).flt with
        raised := s.flt.raised ++ [{ src := n, detail := d, time := s.now }] } } := by
  unfold drive
  split
  · exact .inl rfl
  · split
    · exact .inl rfl
    · exact .inr rfl

theorem drive_src_ne (s : State) {n k : Nat} (d : BitVec 16) (h : k ≠ n) : (s.drive n d).src k = s.src k := by
  rcases s.drive_cases n d with e | e <;> rw [e]
  exact (src_setSrc s n k _).trans (if_neg h)

theorem drive_st (s : State) (n k : Nat) (d : BitVec 16) : ((s.drive n d).src k).st = (s.src k).st := by
  by_cases h : k = n
  · subst h
    rcases s.drive_cases k d with e | e <;> rw [e]
    refine (congrArg Src.st (src_setSrc s k k _)).trans ?_
    rw [if_pos rfl]
  · rw [drive_src_ne s d h]

theorem mem_raised_drive {s : State} {n : Nat} {d : BitVec 16} {r : Raised} (h : r ∈ (s.drive n d).flt.raised) :
    r ∈ s.flt.raised ∨ r.src = n := by
  rcases s.drive_cases n d with e | e <;> rw [e] at h
  · exact .inl h
  · rcases List.mem_append.1 h with h | h
    · exact .inl h
    · exact .inr (congrArg Raised.src (List.mem_singleton.1 h))

theorem withdraw_raised (s : State) (n : Nat) : (s.withdraw n).flt.raised = s.flt.raised.filter (fun e => e.src != n) := by
  unfold withdraw
  dsimp only
  split <;> rfl

theorem withdraw_src (s : State) (n k : Nat) :
    (s.withdraw n).src k = if k = n then { s.src n with rail := .ok } else s.src k := by
  have hflt : (s.withdraw n).src k = (if (s.src n).rail = .ok then s else s.setSrc n { s.src n with rail := .ok }).src k := rfl
  rw [hflt]
  split
  · next hok =>
    split
    · next h => rw [h, ← hok]
    · rfl
  · exact src_setSrc s n k _

theorem withdraw_besidesFlt (s : State) (n : Nat) : (s.withdraw n).besidesFlt = s.besidesFlt :=
  keeps_ite besidesFlt (s := s) (t := s) (u := s.setSrc n { s.src n with rail := .ok }) rfl rfl

/-- The pair of source n reads OK, and no fault of it waits for its receipt. -/
def unraised (s : State) (n : Nat) : Prop := (s.src n).rail = .ok ∧ ∀ r ∈ s.flt.raised, r.src ≠ n

theorem drive_unraised {s : State} {n k : Nat} (d : BitVec 16) (hk : k ≠ n) (h : s.unraised k) : (s.drive n d).unraised k := by
  obtain ⟨hok, hnone⟩ := h
  refine ⟨by rwa [drive_src_ne s d hk], fun r hr => ?_⟩
  rcases mem_raised_drive hr with hr | rfl
  · exact hnone r hr
  · exact hk.symm

theorem withdraw_unraised (s : State) (n : Nat) : (s.withdraw n).unraised n := by
  refine ⟨by rw [withdraw_src, if_pos rfl], fun r hr => ?_⟩
  rw [withdraw_raised] at hr
  simpa using (List.mem_filter.1 hr).2

theorem withdraw_keeps_unraised {s : State} {k : Nat} (n : Nat) (h : s.unraised k) : (s.withdraw n).unraised k := by
  obtain ⟨hok, hnone⟩ := h
  refine ⟨?_, fun r hr => hnone r ?_⟩
  · rw [withdraw_src]
    split
    · rfl
    · exact hok
  · rw [withdraw_raised] at hr
    exact (List.mem_filter.1 hr).1

/-! ### A write of USRRAISE (10 R304) -/

/-- What a written value of USRRAISE makes of the pair of user fault u. -/
def userPass (v : Word) (s : State) (u : Nat) : State :=
  if bit v u then s.drive (224 + u) (det u) else if s.readsOk (224 + u) then s.withdraw (224 + u) else s

theorem setUser_eq (s : State) (v : Word) :
    s.setUser v = (upFrom 16 0).foldl (userPass (v &&& 0xFFFF)) (s.setReg (fltB + 0xC4) (v &&& 0xFFFF)) := rfl

theorem userPass_drives {v : Word} {u : Nat} (h : bit v u = true) (s : State) : userPass v s u = s.drive (224 + u) (det u) := if_pos h

theorem userPass_besidesFlt (v : Word) (s : State) (u : Nat) : (userPass v s u).besidesFlt = s.besidesFlt :=
  keeps_ite besidesFlt (drive_besidesFlt _ _ _) (keeps_ite besidesFlt (withdraw_besidesFlt _ _) rfl)

theorem setUser_besidesFlt (s : State) (v : Word) :
    (s.setUser v).besidesFlt = (s.setReg (fltB + 0xC4) (v &&& 0xFFFF)).besidesFlt :=
  foldl_keeps besidesFlt _ (userPass_besidesFlt _) _ _

theorem setUser_reg (s : State) (v : Word) : (s.setUser v).reg (fltB + 0xC4) = v &&& 0xFFFF :=
  (congrArg (fun t => t.reg (fltB + 0xC4)) (setUser_besidesFlt s v)).trans (reg_setReg s _ _)

theorem setUser_md (s : State) (v : Word) : (s.setUser v).md = s.md :=
  (congrArg md (setUser_besidesFlt s v) :)

theorem userPass_readsOk (v : Word) (s : State) (u n : Nat) : (userPass v s u).readsOk n = s.readsOk n := by
  have hst : ((userPass v s u).src n).st = (s.src n).st := by
    have hwithdraw : ((s.withdraw (224 + u)).src n).st = (s.src n).st := by
      rw [withdraw_src]
      split
      · next h => rw [h]
      · rfl
    exact keeps_ite (fun t => (t.src n).st) (drive_st s _ n _) (keeps_ite (fun t => (t.src n).st) hwithdraw rfl)
  unfold readsOk
  rw [hst]

/-- No bit's pass clears a source whose own bit is 1. -/
theorem userPass_keeps_fault {v : Word} {k : Nat} (hk : bit v k = true) {s : State} (u : Nat) (h : (s.src (224 + k)).rail ≠ .ok) :
    ((userPass v s u).src (224 + k)).rail ≠ .ok := by
  by_cases hu : bit v u = true
  · rw [userPass_drives hu]
    exact drive_keeps_fault s _ _ _ h
  · have hne : 224 + k ≠ 224 + u := fun e => hu (by rwa [← Nat.add_left_cancel e])
    unfold userPass
    rw [if_neg hu]
    split
    · rwa [withdraw_src, if_neg hne]
    · exact h

theorem userPass_keeps_unraised {v : Word} {k : Nat} (hk : bit v k = false) {s : State} (u : Nat) (h : s.unraised (224 + k)) :
    (userPass v s u).unraised (224 + k) := by
  by_cases hu : bit v u = true
  · have hne : 224 + k ≠ 224 + u := fun e => by simp [← Nat.add_left_cancel e, hk] at hu
    rw [userPass_drives hu]
    exact drive_unraised _ hne h
  · unfold userPass
    rw [if_neg hu]
    split
    · exact withdraw_keeps_unraised _ h
    · exact h

theorem setUser_drives (s : State) {v : Word} {u : Nat} (hu : u < 16) (hv : v.getLsbD u = true) :
    ((s.setUser v).src (224 + u)).rail ≠ .ok := by
  have hbit : bit (v &&& 0xFFFF) u = true := (bit_lowHalf v hu).trans hv
  have hknown : ∀ i < 16, (srcDefault (224 + i)).isSome = true := by decide
  refine foldl_establishes (P := fun t => (t.src (224 + u)).rail ≠ .ok) (fun t => ?_)
    (fun t j => userPass_keeps_fault hbit j) (mem_upFrom_zero hu) _
  rw [userPass_drives hbit]
  exact drive_rail t _ _ (hknown u hu)

/-- A bit that is 0 returns its pair to OK where no fault of the source has been received. -/
theorem setUser_withdraws {s : State} {v : Word} {u : Nat} (hu : u < 16) (hv : v.getLsbD u = false) (h : s.readsOk (224 + u) = true) :
    (s.setUser v).unraised (224 + u) := by
  have hbit : bit (v &&& 0xFFFF) u = false := (bit_lowHalf v hu).trans hv
  have hreads : (s.setUser v).readsOk (224 + u) = true :=
    (foldl_keeps (fun t => t.readsOk (224 + u)) _ (fun t j => userPass_readsOk _ t j _) _ _).trans h
  refine foldl_establishes (P := fun t => t.readsOk (224 + u) = true → t.unraised (224 + u))
    (f := userPass (v &&& 0xFFFF)) (fun t ht => ?_)
    (fun t j ih ht => ?_) (mem_upFrom_zero hu) (s.setReg (fltB + 0xC4) (v &&& 0xFFFF)) hreads
  · rw [userPass_readsOk] at ht
    unfold userPass
    rw [if_neg (Bool.eq_false_iff.1 hbit), if_pos ht]
    exact withdraw_unraised t _
  · rw [userPass_readsOk] at ht
    exact userPass_keeps_unraised hbit j (ih ht)

/-! ### What closing a port keeps (10 R301, R302; 16 R422, R426-R434) -/

/-- The revoked ports and the mode controller. -/
def ports (s : State) : BitVec 10 × ModeSt := (s.flt.revoked, s.md)

theorem eq_of_ports {s : State} {r : BitVec 10} {d : ModeSt} (h : s.ports = (r, d)) : s.flt.revoked = r ∧ s.md = d := Prod.mk.inj h

theorem drive_ports (s : State) (n : Nat) (d : BitVec 16) : (s.drive n d).ports = s.ports := by
  rcases s.drive_cases n d with e | e <;> rw [e]
  rfl

theorem setBytes_ports : ∀ (bs : List Byte) (s : State) (a : Nat), (s.setBytes a bs).ports = s.ports
  | [], _, _ => rfl
  | b :: bs, s, a => setBytes_ports bs (s.setByte a b) (a + 1)

theorem nvWrite_ports (s : State) (a : Nat) (bs : List Byte) : (s.nvWrite a bs).1.ports = s.ports := by
  unfold nvWrite
  dsimp only
  split
  · exact drive_ports _ _ _
  · exact setBytes_ports bs s a

theorem eccRead_ports (s : State) (a m : Nat) : (s.eccRead a m).1.ports = s.ports := by
  have fst_ports {c : Prop} [Decidable c] {t u : State × Bool} (ht : t.1.ports = s.ports) (hu : u.1.ports = s.ports) :
      (if c then t else u).1.ports = s.ports := by
    split
    · exact ht
    · exact hu
  unfold eccRead
  dsimp only
  split
  · exact fst_ports (drive_ports _ _ _) (fst_ports (drive_ports _ _ _) rfl)
  · exact fst_ports rfl (fst_ports rfl rfl)
  · exact fst_ports (drive_ports _ _ _) (fst_ports rfl rfl)
  · rfl

theorem eccWrite_ports (s : State) (a k m : Nat) : (s.eccWrite a k m).1.ports = s.ports := by
  unfold eccWrite
  split
  · rfl
  · exact eccRead_ports s a m

theorem nvBlock_ports : ∀ (k : Nat) (s : State) (a : Nat) (bs : List Byte), (s.nvBlock a k bs).1.ports = s.ports
  | 0, _, _, _ => rfl
  | k + 1, s, a, bs => by
    have hcode := eccWrite_ports s a (bs.take 8).length 9
    have hword := (nvWrite_ports (s.eccWrite a (bs.take 8).length 9).1 a (bs.take 8)).trans hcode
    unfold nvBlock
    dsimp only
    split
    · rfl
    · split
      · exact (nvBlock_ports k _ _ _).trans hword
      · exact keeps_ite ports hword hcode

theorem recWrite_ports (s : State) (e : Staged) : (s.recWrite e).ports = s.ports := by
  have hsave (t : State) : t.recSave.ports = t.ports := keeps_ite ports rfl rfl
  unfold recWrite
  extract_lets pos seq stored counted
  have h : counted.ports = s.ports := (hsave _).trans (nvBlock_ports _ s _ _)
  clear_value counted
  exact keeps_ite (s := s) ports h h

theorem stageAdd_ports (s : State) (e : Staged) : (s.stageAdd e).ports = s.ports := by
  have hdrain (f : Staged → Bool) : (s.recDrain f).ports = s.ports := foldl_keeps ports recWrite recWrite_ports _ s
  exact keeps_ite ports (hdrain _) rfl

theorem logCopy_ports (s : State) (q : Nat) (bs : List Byte) : (s.logCopy q bs).ports = s.ports := by
  have hpush : (s.qPush q bs).1.ports = s.ports := by
    unfold qPush
    dsimp only
    split
    · exact keeps_ite ports (drive_ports _ _ _) rfl
    · exact setBytes_ports _ s _
  unfold logCopy
  dsimp only
  split <;> exact hpush

theorem log_ports (s : State) (src cls : Nat) (wire : Bool) (kind wcnt : Nat) (d : BitVec 16) :
    (s.log src cls wire kind wcnt d).ports = s.ports := by
  unfold log
  extract_lets bs staged copied
  have h : copied.ports = s.ports := (logCopy_ports _ _ _).trans (stageAdd_ports s _)
  exact keeps_ite ports ((logCopy_ports _ _ _).trans h) h

theorem setCpu_ports (s : State) (p : Proc) (c : Cpu) : (s.setCpu p c).ports = s.ports := by
  unfold setCpu
  split <;> rfl

theorem onCore_ports (s : State) (k : Nat) (f : Cpu → Cpu) : (s.onCore k f).ports = s.ports := by
  unfold onCore
  split <;> rfl

theorem raiseExc_ports (s : State) (p : Proc) (e : Exc) : (s.raiseExc p e).ports = s.ports := by
  unfold raiseExc
  dsimp only
  refine keeps_ite ports ?_ ?_
  · split
    · exact setCpu_ports _ _ _
    · exact (drive_ports _ _ _).trans (setCpu_ports _ _ _)
  · unfold enterExc
    dsimp only
    split <;> exact setCpu_ports _ _ _

theorem settleStep_ports (s : State) (p : Proc) : (s.settleStep p).ports = s.ports := by
  unfold settleStep
  dsimp only
  refine keeps_ite ports rfl ?_
  split
  · rfl
  · rfl
  · rfl
  · exact setCpu_ports _ _ _
  · exact setCpu_ports _ _ _

theorem endPortTags_ports (s : State) (m : Nat) : (s.endPortTags m).ports = s.ports := by
  have hfail (t : State) (st : Nat) (a : Word) : (t.hostFail st a).ports = t.ports := keeps_ite ports rfl rfl
  unfold endPortTags
  extract_lets mine lnk ended write failed host dropped fetched dbg wrote
  have hfailed : failed.ports = s.ports := by
    unfold failed
    generalize write = asked
    cases asked with
    | none => rfl
    | some r => exact hfail _ _ _
  have hwrote : wrote.ports = s.ports := keeps_ite (s := s) ports rfl rfl
  refine keeps_ite ports ?_ (keeps_ite ports (keeps_ite (s := s) ports hwrote hwrote) rfl)
  split <;> exact hfailed

theorem endTags_ports (s : State) (m : Nat) : (s.endTags m).ports = s.ports := by
  unfold endTags
  split
  · extract_lets mine stores lnk ended answered
    have h : answered.ports = s.ports := onCore_ports _ _ _
    split
    · exact ((settleStep_ports _ _).trans (raiseExc_ports _ _ _)).trans h
    · exact h
  · exact endPortTags_ports s m

theorem setQueue_ports (s : State) (q : Nat) (v : Queue) : (s.setQueue q v).ports = s.ports := rfl

theorem qRevoke_ports (s : State) (m : Nat) : (s.qRevoke m).ports = s.ports := by
  unfold qRevoke
  exact foldl_keeps ports _ (fun _ _ => setQueue_ports _ _ _) _ s

theorem qReopen_ports (s : State) (m : Nat) : (s.qReopen m).ports = s.ports := by
  unfold qReopen
  exact foldl_keeps ports _ (fun _ _ => keeps_ite ports (setQueue_ports _ _ _) rfl) _ s

theorem revoke_ports (s : State) (m src cls : Nat) :
    (s.revoke m src cls).ports = (s.flt.revoked ||| bitAt 10 m, s.md) := by
  unfold revoke
  dsimp only
  rw [log_ports, qRevoke_ports, endTags_ports]
  rfl

theorem reopen_ports (s : State) (m : Nat) : (s.reopen m).ports = (putBit s.flt.revoked m false, s.md) := by
  unfold reopen
  rw [qReopen_ports]
  rfl

/-! ### The aliases of REVOKE (10 R301) -/

theorem revoke_md (s : State) (m src cls : Nat) : (s.revoke m src cls).md = s.md := (eq_of_ports (revoke_ports s m src cls)).2
theorem reopen_md (s : State) (m : Nat) : (s.reopen m).md = s.md := (eq_of_ports (reopen_ports s m)).2

theorem revoked_eq (s : State) (k : Nat) : s.revoked k = s.flt.revoked.getLsbD k := rfl

theorem revoke_revoked (s : State) (m src cls : Nat) (k : Fin 10) :
    (s.revoke m src cls).revoked k = if k = m then true else s.revoked k := by
  obtain ⟨hrevoked, -⟩ := eq_of_ports (revoke_ports s m src cls)
  rw [revoked_eq, hrevoked, BitVec.getLsbD_or, getLsbD_bitAt]
  by_cases hk : k.val = m
  · simp [hk, show m < 10 by omega]
  · simp only [hk, decide_false, Bool.and_false, Bool.or_false, if_false]
    rfl

theorem reopen_revoked (s : State) (m : Nat) (k : Fin 10) :
    (s.reopen m).revoked k = if k = m then false else s.revoked k := by
  obtain ⟨hrevoked, -⟩ := eq_of_ports (reopen_ports s m)
  rw [revoked_eq, hrevoked, getLsbD_putBit, Bool.and_false]
  rfl

/-- A loop whose pass over an item gives the item's port the value b, where p asks for it, gives it to every port of the list. -/
theorem foldl_revoked {f : State → Nat → State} {p : Nat → Bool} {b : Bool} {k : Nat}
    (hf : ∀ t j, (f t j).revoked k = if k = j ∧ p j = true then b else t.revoked k) (l : List Nat) :
    ∀ s : State, (l.foldl f s).revoked k = if k ∈ l ∧ p k = true then b else s.revoked k := by
  induction l with
  | nil => intro s; simp
  | cons j l ih =>
    intro s
    rw [List.foldl_cons, ih, hf]
    by_cases hj : k = j
    · subst hj
      by_cases hp : p k = true <;> simp [hp]
    · simp [hj]

theorem revokeSet_revoked (s : State) (m : Nat) (v : Word) (k : Fin 10) :
    (s.revokeSet m v).1.revoked k = if v.getLsbD k = true ∧ k ≠ 4 ∧ k.val ≠ m then true else s.revoked k := by
  have hpass (t : State) (j : Nat) : State.revoked (if t.revoked j then t else t.revoke j 0xFF 0) k
      = if k.val = j ∧ true = true then true else t.revoked k := by
    split
    · next h =>
      split
      · next hk => rw [hk.1, h]
      · rfl
    · rw [revoke_revoked]
      simp only [and_true]
  have hk4 : k ≠ 4 ↔ k.val ≠ 4 := not_congr Fin.ext_iff
  refine (foldl_revoked (p := fun _ => true) hpass _ s).trans ?_
  simp only [List.mem_filter, mem_upFrom_zero k.isLt, testBit_fld v k.isLt, hk4, Bool.and_eq_true, bne_iff_ne, true_and, and_true, and_assoc]

theorem revokeSet_md (s : State) (m : Nat) (v : Word) : (s.revokeSet m v).1.md = s.md :=
  foldl_keeps md _ (fun _ _ => keeps_ite md rfl (revoke_md _ _ _ _)) _ s

theorem revokeSet_status (s : State) (m : Fin 10) (v : Word) :
    (s.revokeSet m v).2 = if v.getLsbD 4 = true ∨ v.getLsbD m = true then stIgnored else stOk := by
  unfold revokeSet
  simp only [testBit_fld v m.isLt, testBit_fld v (show 4 < 10 by decide), Bool.or_eq_true]

theorem revokeClr_revoked (s : State) (m : Nat) (v : Word) (k : Fin 10) :
    (s.revokeClr m v).revoked k = if v.getLsbD k = true ∧ k.val ≠ m then false else s.revoked k := by
  have hpass (t : State) (j : Nat) : State.revoked (if bit v j && j != m && t.revoked j then t.reopen j else t) k
      = if k.val = j ∧ (bit v j && j != m) = true then false else t.revoked k := by
    split
    · next h =>
      rw [reopen_revoked, (Bool.and_eq_true_iff.1 h).1]
      simp only [and_true]
    · next h =>
      split
      · next hk =>
        obtain ⟨rfl, hj⟩ := hk
        simpa [hj] using h
      · rfl
  refine (foldl_revoked hpass _ s).trans ?_
  simp only [mem_upFrom_zero k.isLt, Bool.and_eq_true, bne_iff_ne, true_and]
  rfl

theorem revokeClr_md (s : State) (m : Nat) (v : Word) : (s.revokeClr m v).md = s.md :=
  foldl_keeps md _ (fun _ _ => keeps_ite md (reopen_md _ _) rfl) _ s

end State

theorem exec_usrraise {s : State} {m : Fin 10} (h : s.revoked m = false) (kind : WriteKind) (v : Word) :
    exec (.usrraise m kind v) s = .next ((s.setUser (State.aliased kind (s.reg (fltB + 0xC4)) v)).answer stOk []) :=
  congrArg Host.Outcome.next (if_neg (by simp [h]))

theorem exec_revokeSet {s : State} {m : Fin 10} (h : s.revoked m = false) (v : Word) :
    exec (.revokeSet m v) s = .next ((s.revokeSet m v).1.answer (s.revokeSet m v).2 []) :=
  congrArg Host.Outcome.next (if_neg (by simp [h]))

theorem exec_revokeClear {s : State} {m : Fin 10} (h : s.revoked m = false) (v : Word) :
    exec (.revokeClear m v) s = .next ((s.revokeClr m v).answer stOk []) :=
  congrArg Host.Outcome.next (if_neg (by simp [h]))

/-- Settles O35, by what each pass of USRRAISE keeps of the other user faults, and by the one bit that closing or reopening a port
writes. -/
theorem collectorCommands : Obligations.CollectorCommands := by
  unfold Obligations.CollectorCommands
  intro s m hm
  have hreg (kind : WriteKind) (v : Word) : ∃ t, exec (.usrraise m kind v) s = .next t
      ∧ t.reg (fltB + 0xC4) = State.aliased kind (s.reg (fltB + 0xC4)) v &&& 0xFFFF :=
    ⟨_, exec_usrraise hm kind v, s.setUser_reg _⟩
  refine ⟨fun v => ?_, hreg .set, hreg .clr, hreg .tgl, fun v => ?_, fun v => ?_⟩
  · refine ⟨_, exec_usrraise hm .direct v, s.setUser_reg v, rfl, fun u hu => s.setUser_drives u.isLt hu,
      fun u hu hst => State.setUser_withdraws u.isLt hu ?_, s.setUser_md v⟩
    simpa [State.readsOk] using hst
  · exact ⟨_, exec_revokeSet hm v, fun k h4 hk hv => (s.revokeSet_revoked m v k).trans (if_pos ⟨hv, h4, Fin.val_ne_of_ne hk⟩),
      (s.revokeSet_revoked m v m).trans ((if_neg fun ⟨_, _, hother⟩ => hother rfl).trans hm), s.revokeSet_status m v, s.revokeSet_md m v⟩
  · exact ⟨_, exec_revokeClear hm v, fun k hk hv => (s.revokeClr_revoked m v k).trans (if_pos ⟨hv, Fin.val_ne_of_ne hk⟩),
      fun k hv => (s.revokeClr_revoked m v k).trans (if_neg fun h => by simp [hv] at h), s.revokeClr_md m v⟩

end Sys2Proof.Machine
end

section
/-! SUPPORT. The rings (11 R311-R332): what a port and a counter read after an operation, the ways a frame that arrives can go, the frame
that an egress port sends next, the WHOLE status and the time stamps. -/
namespace Sys2Proof.Machine
namespace State

/-! ### Rings, ports and counters read after a write -/

@[simp] theorem ring_setRing (s : State) (r2 : Bool) (r : RingSt) : (s.setRing r2 r).ring r2 = r := by cases r2 <;> rfl

theorem setRing_keeps {β : Type} (g : State → β) (s : State) (r2 : Bool) (r : RingSt)
    (hg : ∀ u n, g { u with net := n } = g u := by exact fun _ _ => rfl) : g (s.setRing r2 r) = g s := by
  cases r2 <;> exact hg _ _

theorem port_setRing (s : State) (r2 : Bool) (r : RingSt) (q : Bool) : (s.setRing r2 r).port r2 q = if q then r.b else r.a := by
  rw [port, ring_setRing]

theorem port_setPort (s : State) (r2 pB : Bool) (p : PortSt) (q : Bool) :
    (s.setPort r2 pB p).port r2 q = if q = pB then p else s.port r2 q := by
  rw [setPort, port_setRing]
  cases pB <;> cases q <;> rfl

theorem port_congr {s t : State} (h : t.net = s.net) (r2 q : Bool) : t.port r2 q = s.port r2 q := by
  unfold port ring
  rw [h]

theorem portUp_congr {s t : State} {r2 q : Bool} (hon : t.ringOn r2 = s.ringOn r2) (hby : t.bypass = s.bypass)
    (hlink : (t.port r2 q).link = (s.port r2 q).link) : t.portUp r2 q = s.portUp r2 q := by
  rw [portUp, portUp, hon, hby, hlink]

theorem ring_congr {s t : State} (h : t.net = s.net) (r2 : Bool) : t.ring r2 = s.ring r2 := by
  unfold ring
  rw [h]

theorem reg_ringCount (s : State) (r2 : Bool) (o a : Nat) :
    (s.ringCount r2 o).reg a = if a = netB + (if r2 then 0x60 else 0x40) + o then s.reg a + 1 else s.reg a := by
  rw [ringCount, countUp, reg_setReg_eq]
  by_cases h : a = netB + (if r2 then 0x60 else 0x40) + o
  · rw [if_pos h, if_pos h, h]
  · rw [if_neg h, if_neg h]

/-! ### What the handling of a frame leaves alone -/

/-- The state t differs from s in the rings and in their counters at most (11 R335). -/
def ringLocal (s t : State) : Prop :=
  t = { s with net := t.net, regs := t.regs } ∧ ∀ a, a < netB + 0x40 ∨ netB + 0x80 ≤ a → t.reg a = s.reg a

theorem ringLocal_refl (s : State) : s.ringLocal s := ⟨rfl, fun _ _ => rfl⟩

theorem ringLocal_trans {s t u : State} (h : s.ringLocal t) (k : t.ringLocal u) : s.ringLocal u :=
  ⟨by rw [k.1, h.1], fun a ha => (k.2 a ha).trans (h.2 a ha)⟩

theorem ringLocal_ite {s t u : State} {c : Prop} [Decidable c] (h : s.ringLocal t) (k : s.ringLocal u) :
    s.ringLocal (if c then t else u) := by
  split
  · exact h
  · exact k

theorem ringCount_local (s : State) (r2 : Bool) {o : Nat} (ho : o < 0x20) : s.ringLocal (s.ringCount r2 o) := by
  refine ⟨rfl, fun a ha => (reg_ringCount s r2 o a).trans (if_neg ?_)⟩
  cases r2 <;> simp only [Bool.false_eq_true, if_true, if_false] <;> omega

theorem setRing_local (s : State) (r2 : Bool) (r : RingSt) : s.ringLocal (s.setRing r2 r) :=
  ⟨by cases r2 <;> rfl, fun a _ => setRing_keeps (fun u => u.reg a) s r2 r⟩

theorem egress_local (s : State) (r2 pB : Bool) (f : OutFrame) : s.ringLocal (s.egress r2 pB f) := by
  unfold egress
  exact ringLocal_ite (setRing_local s r2 _) (ringLocal_refl s)

theorem ringStop_local (s : State) (r2 pB : Bool) (f : RingFrame) : s.ringLocal (s.ringStop r2 pB f) := by
  unfold ringStop
  exact ringLocal_ite (egress_local s r2 _ _) (ringLocal_refl s)

theorem ringForward_local (s : State) (r2 pB : Bool) (f : RingFrame) : s.ringLocal (s.ringForward r2 pB f) := by
  unfold ringForward
  have hstop : s.ringLocal ((s.ringCount r2 0x1C).ringStop r2 pB f) :=
    ringLocal_trans (ringCount_local s r2 (by decide)) (ringStop_local _ r2 pB f)
  have hpass (g : OutFrame) : s.ringLocal ((s.ringCount r2 4).egress r2 (!pB) g) :=
    ringLocal_trans (ringCount_local s r2 (by decide)) (egress_local _ r2 _ g)
  exact ringLocal_ite hstop (ringLocal_ite (ringStop_local s r2 pB f) (ringLocal_ite (ringLocal_refl s) (hpass _)))

section
variable {s t : State} (h : s.ringLocal t)
include h

theorem ringLocal_keeps {β : Type} (g : State → β)
    (hg : ∀ u n r, g { u with net := n, regs := r } = g u := by exact fun _ _ _ => rfl) : g t = g s := by
  rw [h.1]
  exact hg _ _ _

theorem ringLocal_ringCfg (r2 : Bool) (i : Nat) : t.ringCfg r2 i = s.ringCfg r2 i := by
  unfold ringCfg
  rw [h.2]
  cases r2 <;> decide

theorem ringLocal_ringMgr (r2 : Bool) : t.ringMgr r2 = s.ringMgr r2 := by
  unfold ringMgr ringLine
  rw [ringLocal_ringCfg h, ringLocal_ringCfg h]

theorem ringLocal_portUp {r2 q : Bool} (hlink : (t.port r2 q).link = (s.port r2 q).link) : t.portUp r2 q = s.portUp r2 q :=
  portUp_congr (ringLocal_ringCfg h r2 0) (ringLocal_keeps h bypass) hlink

theorem ringLocal_rxQueue (r2 : Bool) (g : Nat) : t.rxQueue r2 g = s.rxQueue r2 g := by
  unfold rxQueue
  rw [h.2]
  cases r2 <;> decide

theorem ringLocal_qCtl (q : Nat) : t.reg (queB + 0x1004 + 16 * q) = s.reg (queB + 0x1004 + 16 * q) :=
  h.2 _ (.inr (Nat.le_trans (show netB + 0x80 ≤ queB + 0x1004 by decide) (Nat.le_add_right _ _)))

theorem ringLocal_qEn (q : Nat) : t.qEn q = s.qEn q := by
  unfold qEn
  rw [ringLocal_qCtl h]

theorem ringLocal_qFull (q : Nat) : t.qFull q = s.qFull q := by
  unfold qFull qDepth queue
  rw [ringLocal_qCtl h, ringLocal_keeps h State.ready, ringLocal_keeps h State.queues]

end

/-! ### Egress (11 R313, R317) -/

theorem egress_port (s : State) (r2 pB : Bool) (f : OutFrame) (q : Bool) : (s.egress r2 pB f).port r2 q
    = if q = pB ∧ s.portUp r2 pB = true then { s.port r2 pB with out := (s.port r2 pB).out ++ [f] } else s.port r2 q := by
  unfold egress
  by_cases hup : s.portUp r2 pB = true
  · simp only [hup, if_true, and_true, port_setPort]
  · simp [hup]

theorem egress_reg (s : State) (r2 pB : Bool) (f : OutFrame) (a : Nat) : (s.egress r2 pB f).reg a = s.reg a := by
  unfold egress
  exact keeps_ite (fun u => u.reg a) (setRing_keeps (fun u => u.reg a) s r2 _) rfl

theorem egress_portUp (s : State) (r2 pB : Bool) (f : OutFrame) (q : Bool) : (s.egress r2 pB f).portUp r2 q = s.portUp r2 q := by
  refine ringLocal_portUp (egress_local s r2 pB f) ?_
  rw [egress_port]
  split
  · next h => rw [h.1]
  · rfl

theorem egress_rseq (s : State) (r2 pB : Bool) (f : OutFrame) : ((s.egress r2 pB f).ring r2).rseq = (s.ring r2).rseq := by
  unfold egress setPort
  split
  · rw [ring_setRing]
    cases pB <;> rfl
  · rfl

/-- A frame for both ports waits at each one in use. -/
theorem egress_both_out (s : State) (r2 : Bool) (f : OutFrame) (q : Bool) : (((s.egress r2 false f).egress r2 true f).port r2 q).out
    = if s.portUp r2 q = true then (s.port r2 q).out ++ [f] else (s.port r2 q).out := by
  rw [egress_port, egress_portUp, egress_port, egress_port]
  cases q with
  | false =>
    simp only [Bool.false_eq_true, false_and, true_and, if_false]
    split <;> rfl
  | true =>
    simp only [Bool.true_eq_false, false_and, true_and, if_false]
    split <;> rfl

theorem firstOut_lowest {fs : List OutFrame} (hne : fs ≠ []) : ∃ pre f post, fs = pre ++ f :: post ∧ firstOut fs = some f
    ∧ (∀ g ∈ pre, OutFrame.rank f < OutFrame.rank g) ∧ (∀ g ∈ post, OutFrame.rank f ≤ OutFrame.rank g) := by
  induction fs with
  | nil => exact absurd rfl hne
  | cons f fs ih =>
    by_cases hfs : fs = []
    · subst hfs
      exact ⟨[], f, [], rfl, rfl, nofun, nofun⟩
    · obtain ⟨pre, g, post, rfl, hfirst, hpre, hpost⟩ := ih hfs
      by_cases hlt : OutFrame.rank g < OutFrame.rank f
      · exact ⟨f :: pre, g, post, rfl, by simp only [firstOut, hfirst, hlt, if_true], by simpa [hlt] using hpre, hpost⟩
      · refine ⟨[], f, pre ++ g :: post, rfl, by simp only [firstOut, hfirst, hlt, if_false], nofun, fun h hh => ?_⟩
        refine Nat.le_trans (Nat.le_of_not_lt hlt) ?_
        rcases List.mem_append.1 hh with hh | hh
        · exact Nat.le_of_lt (hpre h hh)
        · rcases List.mem_cons.1 hh with rfl | hh
          · exact Nat.le_refl _
          · exact hpost h hh

theorem nextOut_lowest {fs : List OutFrame} (hne : fs ≠ []) : ∃ pre f post, fs = pre ++ f :: post ∧ nextOut fs = some (f, pre ++ post)
    ∧ (∀ g ∈ pre, OutFrame.rank f < OutFrame.rank g) ∧ (∀ g ∈ post, OutFrame.rank f ≤ OutFrame.rank g) := by
  obtain ⟨pre, f, post, hfs, hfirst, hpre, hpost⟩ := firstOut_lowest hne
  have hnew : f ∉ pre := fun h => Nat.lt_irrefl _ (hpre f h)
  refine ⟨pre, f, post, hfs, ?_, hpre, hpost⟩
  rw [nextOut, hfirst, Option.map_some, hfs, List.erase_append_right _ hnew, List.erase_cons_head]

/-- A revoked network DMA fetches no entry, and none is there to fetch from queues without a published one (11 R317, R331). -/
theorem pullGranted_idle {s : State} {r2 : Bool} (pB : Bool)
    (h : s.revoked 8 = true ∨ ∀ q, q < 8 → s.qAvail ((if r2 then 40 else 32) + q) = false) : s.pullGranted r2 pB = s := by
  unfold pullGranted
  refine if_neg ?_
  simp only [List.any_eq_true, not_exists, not_and, Bool.not_eq_true]
  intro q hq
  unfold pullable at hq
  rcases h with h | h
  · rw [if_pos h] at hq
    exact absurd hq List.not_mem_nil
  · split at hq
    · exact absurd hq List.not_mem_nil
    · have hmem := (List.mem_filter.1 hq).1
      rw [upFrom_eq_range', List.mem_range'_1] at hmem
      have hav := h (q - if r2 then 40 else 32) (by omega)
      rwa [Nat.add_sub_cancel' hmem.1] at hav

theorem stampTx_port (s : State) (r2 pB : Bool) (tag : Byte) (q : Bool) : (s.stampTx r2 pB tag).port r2 q = s.port r2 q := by
  unfold stampTx
  split <;> rfl

/-- An egress port with nothing to fetch sends the oldest of its waiting frames of the lowest rank, and keeps the others in order. -/
theorem ringSend_lowest {s : State} {r2 pB : Bool} (hup : s.portUp r2 pB = true) (hpull : s.pullGranted r2 pB = s)
    (hne : (s.port r2 pB).out ≠ []) : ∃ pre f post, (s.port r2 pB).out = pre ++ f :: post
      ∧ (∀ g ∈ pre, OutFrame.rank f < OutFrame.rank g) ∧ (∀ g ∈ post, OutFrame.rank f ≤ OutFrame.rank g)
      ∧ ((s.ringSend r2 pB).port r2 pB).out = pre ++ post := by
  obtain ⟨pre, f, post, hout, hnext, hpre, hpost⟩ := nextOut_lowest hne
  refine ⟨pre, f, post, hout, hpre, hpost, ?_⟩
  have hrest : ((s.setPort r2 pB { s.port r2 pB with out := pre ++ post }).port r2 pB).out = pre ++ post := by
    rw [port_setPort, if_pos rfl]
  simp only [ringSend, hup, Bool.not_true, Bool.false_eq_true, if_false, hpull, hnext]
  split
  · rw [stampTx_port]
    exact hrest
  · exact hrest

theorem waitsApply_idle {s : State} {g : Nat} (h : s.conv.cstate ≠ 1 ∨ s.conv.cmask.testBit g = false) (lo hi : Nat) :
    s.waitsApply g lo hi = false := by
  rcases h with h | h <;> simp [waitsApply, h]

/-! ### Forwarding (11 R314-R317) -/

/-- The frame f that arrived at port pB has not been passed on: an idle egress port in use ends it as a fragment (11 R316). -/
def ringEnded (s : State) (r2 pB : Bool) (f : RingFrame) (t : State) : Prop :=
  t.port r2 pB = s.port r2 pB ∧ ((s.port r2 (!pB)).out ≠ [] → t.port r2 (!pB) = s.port r2 (!pB))
    ∧ (s.portUp r2 (!pB) = true → (s.port r2 (!pB)).out = [] →
        (t.port r2 (!pB)).out = [{ prio := 0, bytes := f.bytes.take 14, badFcs := true }])

theorem ringStop_ended {s u : State} (h : s.ringLocal u) (hnet : u.net = s.net) (r2 pB : Bool) (f : RingFrame) :
    s.ringEnded r2 pB f (u.ringStop r2 pB f) := by
  have hport (q : Bool) : u.port r2 q = s.port r2 q := port_congr hnet r2 q
  have hup : u.portUp r2 (!pB) = s.portUp r2 (!pB) := ringLocal_portUp h (by rw [hport])
  unfold ringStop
  rw [hport]
  by_cases hidle : (s.port r2 (!pB)).out = []
  · simp only [hidle, List.isEmpty_nil, if_true]
    refine ⟨?_, fun hne => absurd hidle hne, fun husable _ => ?_⟩
    · rw [egress_port, if_neg (by simp), hport]
    · rw [egress_port, if_pos ⟨rfl, hup.trans husable⟩, hport, hidle, List.nil_append]
  · simp only [List.isEmpty_iff, hidle, if_false]
    exact ⟨hport pB, fun _ => hport _, fun _ hempty => absurd hempty hidle⟩

theorem ringForward_lastHop {s : State} {f : RingFrame} (hops : f.bytes.getD 16 0 = 0) (r2 pB : Bool) :
    s.ringForward r2 pB f = (s.ringCount r2 0x1C).ringStop r2 pB f := if_pos hops

theorem ringForward_manager {s : State} {r2 : Bool} {f : RingFrame} (hops : f.bytes.getD 16 0 ≠ 0) (hm : s.ringMgr r2 = true)
    (hf : (s.ring r2).mgrFwd = false) (pB : Bool) : s.ringForward r2 pB f = s.ringStop r2 pB f :=
  (if_neg hops).trans (if_pos (by simp [hm, hf]))

theorem ringForward_passes {s : State} {r2 pB : Bool} {f : RingFrame} (hops : f.bytes.getD 16 0 ≠ 0)
    (hm : s.ringMgr r2 = false ∨ (s.ring r2).mgrFwd = true) (hdest : f.bytes.take 6 ≠ s.mac) (hup : s.portUp r2 (!pB) = true) :
    s.ringForward r2 pB f = (s.ringCount r2 4).egress r2 (!pB)
      { prio := if 1 ≤ (f.bytes.getD 17 0).toNat ∧ (f.bytes.getD 17 0).toNat ≤ 3 then 1 else 3
        bytes := f.bytes.set 16 (f.bytes.getD 16 0 - 1), badFcs := !f.fcsOk } := by
  have hfwd : ¬((s.ringMgr r2 && !(s.ring r2).mgrFwd) || f.bytes.take 6 == s.mac) = true := by
    rcases hm with hm | hm <;> simp [hm, hdest]
  exact (if_neg hops).trans ((if_neg hfwd).trans (if_neg (by simp [hup])))

theorem ringStop_reg (s : State) (r2 pB : Bool) (f : RingFrame) (a : Nat) : (s.ringStop r2 pB f).reg a = s.reg a := by
  unfold ringStop
  exact keeps_ite (fun u => u.reg a) (egress_reg s r2 _ _ a) rfl

/-! ### Arrival (11 R311-R316) -/

/-- A whole ring frame of the network's EtherType from another station. -/
structure FrameFromOther (s : State) (f : RingFrame) : Prop where
  whole : f.fragment = false
  atLeast : 60 ≤ f.bytes.length
  atMost : f.bytes.length ≤ 1514
  ofRing : natOfBE (sub f.bytes 12 2) = s.etype
  etype_ne : s.etype ≠ 0x88F7
  source_ne : sub f.bytes 6 6 ≠ s.mac

/-- The count of a frame of a reserved class (11 R312). -/
def noteClass (s : State) (r2 : Bool) (f : RingFrame) : State :=
  if reservedClass (f.bytes.getD 17 0).toNat then s.ringCount r2 0xC else s

theorem noteClass_local (s : State) (r2 : Bool) (f : RingFrame) : s.ringLocal (s.noteClass r2 f) :=
  ringLocal_ite (ringCount_local s r2 (by decide)) (ringLocal_refl s)

theorem noteClass_net (s : State) (r2 : Bool) (f : RingFrame) : (s.noteClass r2 f).net = s.net := by
  unfold noteClass
  split <;> rfl

theorem noteClass_reg (s : State) (r2 : Bool) (f : RingFrame) {o : Nat} (ho : o ≠ 0xC) :
    (s.noteClass r2 f).reg (netB + (if r2 then 0x60 else 0x40) + o) = s.reg (netB + (if r2 then 0x60 else 0x40) + o) := by
  unfold noteClass
  split
  · exact (reg_ringCount s r2 0xC _).trans (if_neg (by omega))
  · rfl

theorem ringReceive_down {s : State} {r2 pB : Bool} (hup : s.portUp r2 pB = false) (fail : Bool) (f : RingFrame) :
    s.ringReceive r2 pB fail f = s := if_pos (by simp [hup])

section
variable {s : State} {r2 pB : Bool} {f : RingFrame} (hup : s.portUp r2 pB = true)
include hup

theorem ringReceive_short (h : f.fragment = true ∨ f.bytes.length < 60) (fail : Bool) :
    s.ringReceive r2 pB fail f = s.ringCount r2 0x14 :=
  (if_neg (by simp [hup])).trans (if_pos h)

variable (hf : s.FrameFromOther f) (fail : Bool)
include hf

theorem ringReceive_fromOther : s.ringReceive r2 pB fail f
    = if (f.bytes.take 6 == s.mac || groupAddr f.bytes) = true then ((s.noteClass r2 f).ringForward r2 pB f).ringDeliver r2 pB fail f
      else (s.noteClass r2 f).ringForward r2 pB f := by
  obtain ⟨hwhole, hmin, hmax, het, hne, hsrc⟩ := hf
  unfold ringReceive
  rw [if_neg (by simp [hup]), if_neg (by simp [hwhole, hmin])]
  dsimp only
  rw [if_neg (by rwa [het]), if_neg (by simp [het, hmax]), if_neg (by simpa using hsrc)]
  rfl

theorem ringReceive_toOther (hdest : f.bytes.take 6 ≠ s.mac) (hgroup : (f.bytes.getD 0 0).getLsbD 0 = false) :
    s.ringReceive r2 pB fail f = (s.noteClass r2 f).ringForward r2 pB f := by
  have hg : groupAddr f.bytes = false := hgroup
  rw [ringReceive_fromOther hup hf, if_neg (by simp [hdest, hg])]

theorem ringReceive_toOwn (hdest : f.bytes.take 6 = s.mac) :
    s.ringReceive r2 pB fail f = ((s.noteClass r2 f).ringForward r2 pB f).ringDeliver r2 pB fail f := by
  rw [ringReceive_fromOther hup hf, if_pos (by simp [hdest])]

end

/-! ### Receive queues (11 R327, R328, R331) -/

theorem reservedClass_queued {cls : Nat} (hlo : 16 ≤ cls) (hhi : cls < 128) : reservedClass cls = false := by
  simp only [reservedClass, Bool.or_eq_false_iff, Bool.and_eq_false_iff, beq_eq_false_iff_ne, decide_eq_false_iff_not]
  omega

theorem ringDeliver_toRxQueue {f : RingFrame} (hfcs : f.fcsOk = true) (hlo : 16 ≤ (f.bytes.getD 17 0).toNat)
    (hhi : (f.bytes.getD 17 0).toNat < 128) (s : State) (r2 pB fail : Bool) : s.ringDeliver r2 pB fail f
      = s.toRxQueue r2 pB fail (s.rxQueue r2 ((f.bytes.getD 17 0).toNat / 16)) f.bytes := by
  unfold ringDeliver
  dsimp only
  rw [if_neg (Bool.eq_false_iff.1 (reservedClass_queued hlo hhi)), if_neg (by simp [hfcs]), if_neg (by omega), if_neg (by omega)]

theorem toRxQueue_pushes {s : State} (hrev : s.revoked 8 = false) {q : Nat} (hfull : s.qFull q = false) (hen : s.qEn q = true)
    (r2 pB : Bool) (bs : List Byte) :
    ((s.toRxQueue r2 pB false q bs).queue q).slots = (s.queue q).slots ++ [{ idx := (s.queue q).next, st := .published }] := by
  simp only [toRxQueue, hrev, qPush, hfull, hen, Bool.false_eq_true, Bool.not_true, Bool.or_false, if_false, if_true]
  exact congrArg Queue.slots (look_put _ _ _ _)

/-- An entry that the network DMA cannot write is lost: DMAERR with F101 (11 R331). -/
theorem toRxQueue_fails {s : State} (hrev : s.revoked 8 = false) (r2 pB : Bool) (q : Nat) (bs : List Byte) :
    ((s.toRxQueue r2 pB true q bs).reg (netB + 0x18)).getLsbD 1 = true ∧ ((s.toRxQueue r2 pB true q bs).src 101).rail ≠ .ok
      ∧ (s.toRxQueue r2 pB true q bs).queues = s.queues ∧ (s.toRxQueue r2 pB true q bs).mem = s.mem := by
  have he : s.toRxQueue r2 pB true q bs = ((s.ringCount r2 8).setBits (netB + 0x18) (flag 1 true)).drive 101 0 :=
    (if_neg (by simp [hrev])).trans (if_pos rfl)
  rw [he]
  refine ⟨?_, drive_rail _ 101 0 rfl, drive_keeps State.queues _ _ _, drive_mem _ _ _⟩
  rw [drive_keeps (fun u => u.reg (netB + 0x18)) _ _ _, setBits, reg_setReg, BitVec.getLsbD_or, Bool.or_eq_true]
  exact .inr rfl

/-! ### Check frames (11 R319) -/

theorem originate_both (s : State) (r2 : Bool) (prio qno : Nat) (dest : List Byte) (cls : Nat) (body : List Byte) (ts : Option Byte) :
    ((s.originate r2 true true prio qno dest cls body ts).ring r2).rseq = (s.ring r2).rseq + 1
      ∧ ∀ q, ((s.originate r2 true true prio qno dest cls body ts).port r2 q).out = if s.portUp r2 q = true
          then (s.port r2 q).out ++ [{ prio := prio, qno := qno, bytes := s.ringHead r2 dest cls ++ body, badFcs := false, ts := ts }]
          else (s.port r2 q).out := by
  unfold originate
  extract_lets f _ s1 s2
  have hport (q : Bool) : s1.port r2 q = s.port r2 q := port_setRing s r2 _ q
  have hup (q : Bool) : s1.portUp r2 q = s.portUp r2 q := ringLocal_portUp (setRing_local s r2 _) (by rw [hport])
  refine ⟨?_, fun q => ?_⟩
  · exact (egress_rseq _ _ _ _).trans ((egress_rseq _ _ _ _).trans (congrArg RingSt.rseq (ring_setRing s r2 _)))
  · exact (egress_both_out s1 r2 f q).trans (by rw [hport, hup])

/-! ### WHOLE (11 R319, R320) -/

theorem wholeFalls_whole (s : State) (r2 : Bool) : ((s.wholeFalls r2).ring r2).whole = false := by
  unfold wholeFalls
  dsimp only
  split
  · next h => simpa using h
  · rw [drive_keeps (fun u => u.ring r2), ring_setRing]

theorem wholeFalls_port (s : State) (r2 q : Bool) : (s.wholeFalls r2).port r2 q = s.port r2 q := by
  unfold wholeFalls
  refine keeps_ite (fun u => u.port r2 q) rfl ?_
  exact (drive_keeps (fun u => u.port r2 q) _ _ _).trans (port_setRing s r2 _ q)

theorem wholeFalls_rail {s : State} {r2 : Bool} (h : (s.ring r2).whole = true) :
    ((s.wholeFalls r2).src (if r2 then 100 else 99)).rail ≠ .ok := by
  unfold wholeFalls
  dsimp only
  rw [if_neg (by simp [h])]
  exact drive_rail _ _ _ (by cases r2 <;> decide)

theorem lineWhole_port (s : State) (r2 q : Bool) : (s.lineWhole r2).port r2 q = s.port r2 q := by
  unfold lineWhole
  exact keeps_ite (fun u => u.port r2 q) rfl
    (keeps_ite (fun u => u.port r2 q) (port_setRing s r2 _ q) (wholeFalls_port s r2 q))

theorem window_missed {p : PortSt} (hseen : p.seen = false) (h : 2 ≤ p.misses) : 3 ≤ (PortSt.window p).misses := by
  rw [PortSt.window, if_neg (by simp [hseen])]
  exact Nat.succ_le_succ h

theorem window_hit {p : PortSt} (hseen : p.seen = true) (h : 2 ≤ p.hits) :
    (PortSt.window p).misses = 0 ∧ 3 ≤ (PortSt.window p).hits ∧ (PortSt.window p).link = p.link := by
  rw [PortSt.window, if_pos hseen]
  exact ⟨rfl, Nat.succ_le_succ h, rfl⟩

/-- A window ends in which a port goes without its third check frame in a row, or in which two managers show: WHOLE falls. -/
theorem checkWindow_falls {s : State} {r2 pB : Bool} (hline : s.ringLine r2 = false)
    (h : ((s.port r2 pB).seen = false ∧ 2 ≤ (s.port r2 pB).misses) ∨ 2 ≤ (s.ring r2).mgrs.length) :
    ∃ u : State, s.checkWindow r2 = u.wholeFalls r2 ∧ (u.ring r2).whole = (s.ring r2).whole := by
  unfold checkWindow
  extract_lets r one _ a _ b u
  rw [if_neg (by simp [hline])]
  refine ⟨u, if_pos ?_, by rw [show u.ring r2 = _ from ring_setRing s r2 _]⟩
  rcases h with ⟨hseen, hmiss⟩ | hmgrs
  · cases pB with
    | false => exact .inr (.inl (window_missed (by rw [show r.a.seen = false from hseen, Bool.false_and]) hmiss))
    | true => exact .inr (.inr (window_missed (by rw [show r.b.seen = false from hseen, Bool.false_and]) hmiss))
  · have hone : one = false := decide_eq_false (Nat.not_lt.2 hmgrs)
    exact .inl (by rw [hone]; rfl)

/-- The third window in a row ends with check frames of one manager on both ports: WHOLE is set. -/
theorem checkWindow_sets {s : State} {r2 : Bool} (hline : s.ringLine r2 = false)
    (hports : ∀ p : Bool, (s.port r2 p).seen = true ∧ 2 ≤ (s.port r2 p).hits ∧ (s.port r2 p).link = true)
    (hdup : (s.ring r2).mgrDup = false) (hmgrs : (s.ring r2).mgrs.length < 2) : ((s.checkWindow r2).ring r2).whole = true := by
  unfold checkWindow
  extract_lets r one _ a _ b u
  rw [if_neg (by simp [hline])]
  have hone : one = true := decide_eq_true hmgrs
  obtain ⟨hseenA, hhitsA, hlinkA⟩ := hports false
  obtain ⟨hseenB, hhitsB, hlinkB⟩ := hports true
  obtain ⟨hmissA, hrunA, hkeptA⟩ : a.misses = 0 ∧ 3 ≤ a.hits ∧ a.link = r.a.link :=
    window_hit (by rw [show r.a.seen = true from hseenA, hone]; rfl) hhitsA
  obtain ⟨hmissB, hrunB, hkeptB⟩ : b.misses = 0 ∧ 3 ≤ b.hits ∧ b.link = r.b.link :=
    window_hit (by rw [show r.b.seen = true from hseenB, hone]; rfl) hhitsB
  rw [if_neg (by simp [hone, hmissA, hmissB]), if_pos, ring_setRing]
  rw [hkeptA, hkeptB, show r.a.link = true from hlinkA, show r.b.link = true from hlinkB, show r.mgrDup = false from hdup]
  simp [hrunA, hrunB]

/-! ### Links (11 R319, R324, R331) -/

theorem linkChange_same {s : State} {r2 pB up : Bool} (h : (s.port r2 pB).link = up) : s.linkChange r2 pB up = s :=
  if_pos (by simp [h])

theorem linkChange_unpowered {s : State} {r2 : Bool} (h : s.ringOn r2 = false) (pB : Bool) : s.linkChange r2 pB true = s :=
  if_pos (by simp [h])

theorem linkChange_up {s : State} {r2 pB : Bool} (hlink : (s.port r2 pB).link = false) (hon : s.ringOn r2 = true) :
    ((s.linkChange r2 pB true).port r2 pB).link = true := by
  unfold linkChange
  dsimp only
  rw [if_neg (by simp [hlink, hon]), if_pos rfl, lineWhole_port, port_setPort, if_pos rfl]

theorem ring_phyBad (s : State) (r2 pB : Bool) :
    (s.phyBad (2 * r2.toNat + pB.toNat)).ring r2 = { s.ring r2 with phyErr := true } := by
  cases r2 <;> cases pB <;> rfl

/-- The ring after the loss of a link: a state with the port's link gone, whose WHOLE has fallen in ring topology; the eleventh loss
within a second is PHYERR. -/
theorem linkChange_down {s : State} {r2 pB : Bool} (hlink : (s.port r2 pB).link = true) :
    ∃ u : State, (u.port r2 pB).link = false ∧ (s.ringLine r2 = false → (u.ring r2).whole = false)
      ∧ (s.linkChange r2 pB false).ring r2
        = if 10 ≤ (s.recentLosses (s.port r2 pB)).length then { u.ring r2 with phyErr := true } else u.ring r2 := by
  unfold linkChange
  extract_lets p ls s1 s2
  rw [if_neg (by simp [p, hlink]), if_neg (by simp)]
  have hs1 : (s1.port r2 pB).link = false := by rw [port_setPort, if_pos rfl]
  have hline : s1.ringLine r2 = s.ringLine r2 := setRing_keeps (fun u => u.ringLine r2) s r2 _
  refine ⟨s2, ?_, fun h => ?_, ?_⟩
  · have hport : s2.port r2 pB = s1.port r2 pB := keeps_ite (fun u => u.port r2 pB) (lineWhole_port s1 r2 pB) (wholeFalls_port s1 r2 pB)
    rw [hport, hs1]
  · have hs2 : s2 = s1.wholeFalls r2 := if_neg (by simp [hline, h])
    rw [hs2, wholeFalls_whole]
  · have hlen : 10 < ls.length ↔ 10 ≤ (s.recentLosses (s.port r2 pB)).length := Nat.lt_succ_iff
    simp only [hlen]
    split
    · rw [drive_keeps (fun u => u.ring r2), ring_phyBad]
    · rfl

theorem linkChange_lost {s : State} {r2 pB : Bool} (hlink : (s.port r2 pB).link = true) :
    ((s.linkChange r2 pB false).port r2 pB).link = false
      ∧ (s.ringLine r2 = false → ((s.linkChange r2 pB false).ring r2).whole = false)
      ∧ (10 ≤ (s.recentLosses (s.port r2 pB)).length → ((s.linkChange r2 pB false).ring r2).phyErr = true) := by
  obtain ⟨u, hgone, hwhole, hring⟩ := linkChange_down hlink
  unfold port at hgone ⊢
  rw [hring]
  by_cases hten : 10 ≤ (s.recentLosses (s.port r2 pB)).length
  · rw [if_pos hten]
    exact ⟨hgone, hwhole, fun _ => rfl⟩
  · rw [if_neg hten]
    exact ⟨hgone, hwhole, fun h => absurd h hten⟩

/-! ### Time stamps (11 R330, R332) -/

/-- The word of TSINFO for the oldest stamp. -/
def stampWord (e : TsEnt) (lost : Bool) : Word :=
  at_ 0 8 e.tag.toNat ||| flag 8 true ||| flag 9 e.portB ||| flag 10 e.ring2 ||| flag 11 lost

theorem getLsbD_flag (i j : Nat) (b : Bool) : (flag i b).getLsbD j = (b && (decide (j < 32) && decide (j = i))) := by
  cases b with
  | false => exact BitVec.getLsbD_zero
  | true => exact getLsbD_bitAt 32 i j

theorem getLsbD_stampWord (e : TsEnt) (lost : Bool) {j : Nat} (hj : j < 32) : (stampWord e lost).getLsbD j
    = ((decide (j < 8) && e.tag.getLsbD j) || decide (j = 8) || (e.portB && decide (j = 9)) || (e.ring2 && decide (j = 10))
        || (lost && decide (j = 11))) := by
  have htag : (at_ 0 8 e.tag.toNat).getLsbD j = (decide (j < 8) && e.tag.getLsbD j) := by
    rw [at_, BitVec.getLsbD_ofNat, Nat.shiftLeft_zero, Nat.testBit_mod_two_pow, decide_eq_true hj, Bool.true_and]
    rfl
  simp only [stampWord, BitVec.getLsbD_or, getLsbD_flag, htag, decide_eq_true hj, Bool.true_and]

theorem stampWord_tag (e : TsEnt) (lost : Bool) : (stampWord e lost).extractLsb' 0 8 = e.tag := by
  refine BitVec.eq_of_getLsbD_eq fun i hi => ?_
  rw [BitVec.getLsbD_extractLsb', Nat.zero_add, getLsbD_stampWord e lost (by omega)]
  simp [hi, show i ≠ 8 by omega, show i ≠ 9 by omega, show i ≠ 10 by omega, show i ≠ 11 by omega]

theorem stampWord_flags (e : TsEnt) (lost : Bool) : (stampWord e lost).getLsbD 8 = true ∧ (stampWord e lost).getLsbD 9 = e.portB
    ∧ (stampWord e lost).getLsbD 10 = e.ring2 ∧ (stampWord e lost).getLsbD 11 = lost := by
  refine ⟨?_, ?_, ?_, ?_⟩ <;> rw [getLsbD_stampWord e lost (by decide)] <;> simp

theorem tsinfo_cons {s : State} {e : TsEnt} {es : List TsEnt} (h : s.net.ts = e :: es) :
    s.tsinfo = (({ s with net := { s.net with ts := es, tsLost := false } }.setReg (netB + 0x84) (w32 e.stamp)).setReg (netB + 0x88)
      (w32 (e.stamp / 2 ^ 32)), stampWord e s.net.tsLost) := by
  simp only [tsinfo, h]
  rfl

theorem tsinfo_nil {s : State} (h : s.net.ts = []) :
    s.tsinfo = ({ s with net := { s.net with tsLost := false } }, flag 11 s.net.tsLost) := by
  simp only [tsinfo, h]

end State

/-! ### The commands -/

theorem exec_ringTransmit {s : State} (h : s.conv.cstate ≠ 1 ∨ s.conv.cmask.testBit 3 = false) (r2 pB : Bool) :
    exec (.ringTransmit r2 pB) s = .next (s.ringSend r2 pB) :=
  congrArg Host.Outcome.next (if_neg (by simp [State.waitsApply_idle h]))

theorem exec_ringTransmit_down {s : State} {r2 pB : Bool} (h : s.portUp r2 pB = false) :
    exec (.ringTransmit r2 pB) s = .next s := by
  have hsend : s.ringSend r2 pB = s := if_pos (by simp [h])
  exact congrArg Host.Outcome.next ((congrArg (ite _ s) hsend).trans (ite_self s))

theorem exec_ringCheckSend {s : State} {r2 : Bool} (hm : s.ringMgr r2 = true) (hon : s.ringOn r2 = true) (hby : s.bypass = false)
    (hc : s.conv.cstate ≠ 1 ∨ s.conv.cmask.testBit 3 = false) : exec (.ringCheckSend r2) s
      = .next (s.originate r2 true true 2 0 State.broadcast 3 (List.replicate 42 0) none) :=
  congrArg Host.Outcome.next (if_pos (by simp [hm, hon, hby, State.waitsApply_idle hc]))

theorem exec_ringCheckSend_silent {s : State} {r2 : Bool} (h : s.ringMgr r2 = false ∨ s.ringOn r2 = false ∨ s.bypass = true) :
    exec (.ringCheckSend r2) s = .next s :=
  congrArg Host.Outcome.next (if_neg (by rcases h with h | h | h <;> simp [h]))

theorem exec_tsinfoPop {s : State} {m : Fin 10} (h : s.revoked m = false) :
    exec (.tsinfoPop m) s = .next (s.tsinfo.1.answer stOk [s.tsinfo.2]) :=
  congrArg Host.Outcome.next (if_neg (by simp [h]))

/-! ### A frame from another station -/

section
open State
variable {s : State} {r2 pB : Bool} {f : RingFrame} (hup : s.portUp r2 pB = true) (hf : s.FrameFromOther f)
include hup hf

section
variable (hdest : f.bytes.take 6 ≠ s.mac) (hgroup : (f.bytes.getD 0 0).getLsbD 0 = false)
include hdest hgroup

theorem exec_ringFrameReceive_toOther :
    exec (.ringFrameReceive r2 pB f) s = .next ((s.noteClass r2 f).ringForward r2 pB f) :=
  congrArg Host.Outcome.next (ringReceive_toOther hup hf false hdest hgroup)

theorem exec_ringFrameReceive_lastHop (hops : f.bytes.getD 16 0 = 0) : ∃ t, exec (.ringFrameReceive r2 pB f) s = .next t
    ∧ t.reg (netB + (if r2 then 0x60 else 0x40) + 0x1C) = s.reg (netB + (if r2 then 0x60 else 0x40) + 0x1C) + 1
    ∧ s.ringEnded r2 pB f t := by
  refine ⟨_, exec_ringFrameReceive_toOther hup hf hdest hgroup, ?_⟩
  have hlocal := ringLocal_trans (noteClass_local s r2 f) (ringCount_local _ r2 (show 0x1C < 0x20 by decide))
  rw [ringForward_lastHop hops]
  refine ⟨?_, ringStop_ended hlocal (noteClass_net s r2 f) r2 pB f⟩
  rw [ringStop_reg, reg_ringCount, if_pos rfl, noteClass_reg s r2 f (by decide)]

theorem exec_ringFrameReceive_manager (hops : f.bytes.getD 16 0 ≠ 0) (hm : s.ringMgr r2 = true) (hfwd : (s.ring r2).mgrFwd = false) :
    ∃ t, exec (.ringFrameReceive r2 pB f) s = .next t ∧ s.ringEnded r2 pB f t := by
  refine ⟨_, exec_ringFrameReceive_toOther hup hf hdest hgroup, ?_⟩
  have hlocal := noteClass_local s r2 f
  rw [ringForward_manager hops ((ringLocal_ringMgr hlocal r2).trans hm) (by rwa [ring_congr (noteClass_net s r2 f)])]
  exact ringStop_ended hlocal (noteClass_net s r2 f) r2 pB f

theorem exec_ringFrameReceive_passes (hops : f.bytes.getD 16 0 ≠ 0) (hm : s.ringMgr r2 = false ∨ (s.ring r2).mgrFwd = true)
    (hout : s.portUp r2 (!pB) = true) : ∃ t, exec (.ringFrameReceive r2 pB f) s = .next t
      ∧ (t.port r2 (!pB)).out = (s.port r2 (!pB)).out ++ [{
          prio := if 1 ≤ (f.bytes.getD 17 0).toNat ∧ (f.bytes.getD 17 0).toNat ≤ 3 then 1 else 3
          bytes := f.bytes.set 16 (f.bytes.getD 16 0 - 1), badFcs := !f.fcsOk }]
      ∧ (t.port r2 pB).out = (s.port r2 pB).out ∧ t.queues = s.queues
      ∧ t.reg (netB + (if r2 then 0x60 else 0x40) + 4) = s.reg (netB + (if r2 then 0x60 else 0x40) + 4) + 1 := by
  refine ⟨_, exec_ringFrameReceive_toOther hup hf hdest hgroup, ?_⟩
  have hlocal := noteClass_local s r2 f
  have hnet := noteClass_net s r2 f
  have hopen : (s.noteClass r2 f).portUp r2 (!pB) = true := (ringLocal_portUp hlocal (by rw [port_congr hnet])).trans hout
  have hport (q : Bool) : ((s.noteClass r2 f).ringCount r2 4).port r2 q = s.port r2 q := port_congr hnet r2 q
  have hcounted : ((s.noteClass r2 f).ringCount r2 4).portUp r2 (!pB) = true :=
    (ringLocal_portUp (ringCount_local _ r2 (by decide)) rfl).trans hopen
  rw [ringForward_passes hops (by rwa [ringLocal_ringMgr hlocal, ring_congr hnet]) (by rwa [ringLocal_keeps hlocal State.mac]) hopen]
  refine ⟨?_, ?_, ?_, ?_⟩
  · rw [egress_port, if_pos ⟨rfl, hcounted⟩, hport]
  · rw [egress_port, if_neg (by simp), hport]
  · rw [ringLocal_keeps (egress_local _ _ _ _) State.queues]
    exact ringLocal_keeps hlocal State.queues
  · rw [egress_reg, reg_ringCount, if_pos rfl, noteClass_reg s r2 f (by decide)]

end

section
variable (hdest : f.bytes.take 6 = s.mac) (hfcs : f.fcsOk = true) (hlo : 16 ≤ (f.bytes.getD 17 0).toNat)
  (hhi : (f.bytes.getD 17 0).toNat < 128) (hrev : s.revoked 8 = false)
include hdest hfcs hlo hhi hrev

/-- A frame to the device is for the receive queue of its class, in a state that differs in the rings and their counters at most. -/
theorem ringReceive_toRxQueue (fail : Bool) : ∃ u, s.ringLocal u ∧ u.revoked 8 = false ∧ s.ringReceive r2 pB fail f
    = u.toRxQueue r2 pB fail (s.rxQueue r2 ((f.bytes.getD 17 0).toNat / 16)) f.bytes := by
  have hlocal := ringLocal_trans (noteClass_local s r2 f) (ringForward_local _ r2 pB f)
  refine ⟨_, hlocal, (ringLocal_keeps hlocal (fun u => u.revoked 8)).trans hrev, ?_⟩
  rw [ringReceive_toOwn hup hf fail hdest, ringDeliver_toRxQueue hfcs hlo hhi, ringLocal_rxQueue hlocal]

theorem exec_ringFrameReceive_queued {q : Nat} (hq : q = s.rxQueue r2 ((f.bytes.getD 17 0).toNat / 16)) (hfull : s.qFull q = false)
    (hen : s.qEn q = true) : ∃ t, exec (.ringFrameReceive r2 pB f) s = .next t
      ∧ (t.queue q).slots = (s.queue q).slots ++ [{ idx := (s.queue q).next, st := .published }] := by
  obtain ⟨u, hlocal, hopen, he⟩ := ringReceive_toRxQueue hup hf hdest hfcs hlo hhi hrev false
  refine ⟨_, congrArg Host.Outcome.next he, ?_⟩
  rw [← hq, toRxQueue_pushes hopen ((ringLocal_qFull hlocal q).trans hfull) ((ringLocal_qEn hlocal q).trans hen),
    ringLocal_keeps hlocal (fun v => v.queue q)]

theorem exec_netDmaWriteFailure_fails : ∃ t, exec (.netDmaWriteFailure r2 pB f) s = .next t ∧ (t.reg (netB + 0x18)).getLsbD 1 = true
    ∧ (t.src 101).rail ≠ .ok ∧ t.queues = s.queues ∧ t.mem = s.mem := by
  obtain ⟨u, hlocal, hopen, he⟩ := ringReceive_toRxQueue hup hf hdest hfcs hlo hhi hrev true
  obtain ⟨herr, hrail, hqueues, hmem⟩ := toRxQueue_fails hopen r2 pB (s.rxQueue r2 ((f.bytes.getD 17 0).toNat / 16)) f.bytes
  exact ⟨_, congrArg Host.Outcome.next he, herr, hrail, hqueues.trans (ringLocal_keeps hlocal State.queues),
    hmem.trans (ringLocal_keeps hlocal State.mem)⟩

end

end

/-- Settles O47: a frame that arrives by the ways it can go, an egress port by the lowest rank of its frames, WHOLE by the windows of
both ports and the links. -/
theorem ringCommands : Obligations.RingCommands := by
  unfold Obligations.RingCommands
  intro s r2 pB cnt rank ended
  refine ⟨fun f => ⟨fun hdown => ?_, fun hup => ⟨fun hshort => ?_, fun hwhole hmin hmax het hne hsrc => ?_⟩⟩,
    fun hup hc hne hpull => ?_, exec_ringTransmit_down, fun hm hon hby hc => ?_, exec_ringCheckSend_silent, fun hline => ?_,
    fun hline => ⟨fun h => ?_, fun hports hdup hmgrs => ?_⟩, fun hlink => ?_, fun hlink => ⟨?_, fun hon => ?_, fun hon => ?_⟩,
    fun hlink => ?_, fun m hm => ⟨fun e es hts => ?_, fun hts => ?_⟩⟩
  · exact ⟨congrArg _ (State.ringReceive_down hdown false f), congrArg _ (State.ringReceive_down hdown true f)⟩
  · exact congrArg _ (State.ringReceive_short hup hshort false)
  · have hf : s.FrameFromOther f := ⟨hwhole, hmin, hmax, het, hne, hsrc⟩
    refine ⟨fun hdest hgroup => ⟨?_, ?_, ?_⟩, fun hdest hfcs hlo hhi hrev => ⟨?_, ?_⟩⟩
    · exact exec_ringFrameReceive_lastHop hup hf hdest hgroup
    · exact exec_ringFrameReceive_manager hup hf hdest hgroup
    · exact exec_ringFrameReceive_passes hup hf hdest hgroup
    · exact exec_ringFrameReceive_queued hup hf hdest hfcs hlo hhi hrev rfl
    · exact exec_netDmaWriteFailure_fails hup hf hdest hfcs hlo hhi hrev
  · obtain ⟨pre, f, post, hout, hpre, hpost, hrest⟩ := State.ringSend_lowest hup (State.pullGranted_idle pB hpull) hne
    exact ⟨pre, f, post, _, hout, hpre, hpost, exec_ringTransmit hc r2 pB, hrest⟩
  · obtain ⟨hseq, hout⟩ := s.originate_both r2 2 0 State.broadcast 3 (List.replicate 42 0) none
    exact ⟨_, exec_ringCheckSend hm hon hby hc, hseq, fun p hp => (hout p).trans (if_pos hp),
      fun p hp => (hout p).trans (if_neg (by simp [hp]))⟩
  · exact congrArg Host.Outcome.next (if_pos hline)
  · obtain ⟨u, hu, hwas⟩ := State.checkWindow_falls hline h
    exact ⟨_, congrArg Host.Outcome.next hu, u.wholeFalls_whole r2, fun hw => State.wholeFalls_rail (hwas.trans hw)⟩
  · exact ⟨_, rfl, State.checkWindow_sets hline hports hdup hmgrs⟩
  · exact congrArg _ (State.linkChange_same hlink)
  · exact congrArg _ (State.linkChange_same hlink)
  · exact ⟨_, rfl, State.linkChange_up hlink hon⟩
  · exact congrArg _ (State.linkChange_unpowered hon pB)
  · obtain ⟨hgone, hwhole, herr⟩ := State.linkChange_lost hlink
    exact ⟨_, rfl, hgone, hwhole, herr⟩
  · refine ⟨_, State.stampWord e s.net.tsLost, exec_tsinfoPop hm, ?_⟩
    rw [State.tsinfo_cons hts]
    obtain ⟨hvalid, hport, hring, hlost⟩ := State.stampWord_flags e s.net.tsLost
    refine ⟨rfl, rfl, rfl, State.stampWord_tag e _, hvalid, hport, hring, hlost, ?_, ?_⟩
    · exact (State.reg_setReg_ne _ _ _ _ (by decide)).trans (State.reg_setReg _ _ _)
    · exact State.reg_setReg _ _ _
  · refine ⟨_, _, exec_tsinfoPop hm, rfl, rfl, ?_⟩
    rw [State.tsinfo_nil hts]
    exact ⟨(State.getLsbD_flag 11 8 _).trans (Bool.and_false _), rfl⟩

end Sys2Proof.Machine
end

section
/-! SUPPORT. The timer island (13 R361-R376; 09 R592): what a count step and a tick make of a channel and leave of the others, and
what each command of the island answers. -/
namespace Sys2Proof.Machine

/-- The count after which a channel wraps: its period, or without one the whole range (13 R365). -/
def TcSt.top (c : TcSt) : Word := if c.period = 0 then 0xFFFFFFFF else c.period

namespace State

/-! ### Reads after a write -/

theorem tc_congr {s t : State} (h : t.tmr = s.tmr) (n : Nat) : t.tc n = s.tc n := by rw [tc, h, tc]

theorem tc_setTc (s : State) (n k : Nat) (c : TcSt) : (s.setTc n c).tc k = if k = n then c else s.tc k := look_put_eq _ _ _ _ _

theorem tc_setTc_same (s : State) (n : Nat) (c : TcSt) : (s.setTc n c).tc n = c := look_put _ _ _ _

theorem wc_congr {s t : State} (h : t.tmr.wcs = s.tmr.wcs) (w : Nat) : t.wc w = s.wc w := by rw [wc, h, wc]

theorem wc_setWc_same (s : State) (w : Nat) (c : WcSt) : (s.setWc w c).wc w = c := look_put _ _ _ _

theorem axis_setAxis_same (s : State) (i : Nat) (x : AxisSt) : (s.setAxis i x).axis i = x := look_put _ _ _ _

theorem axis_congr {s t : State} (h : t.tmr = s.tmr) (i : Nat) : t.axis i = s.axis i := by rw [axis, h, axis]

theorem getLsbD_setBits (s : State) (a : Nat) (v : Word) (i : Nat) :
    ((s.setBits a v).reg a).getLsbD i = ((s.reg a).getLsbD i || v.getLsbD i) := by
  rw [setBits, reg_setReg, BitVec.getLsbD_or]

theorem tcA_ne {n o p : Nat} (h : o ≠ p) : tcA n o ≠ tcA n p := mt Nat.add_left_cancel h

/-- The filter lengths of 13 R367. -/
theorem tcGlitch_eq (s : State) (n : Nat) : s.tcGlitch n
    = if (s.reg (tcA n 0)).extractLsb' 16 2 = 0 then 0 else if (s.reg (tcA n 0)).extractLsb' 16 2 = 1 then 2
      else if (s.reg (tcA n 0)).extractLsb' 16 2 = 2 then 8 else 32 := by
  have hlen : ∀ v : BitVec 2, [0, 2, 8, 32].getD v.toNat 0 = if v = 0 then 0 else if v = 1 then 2 else if v = 2 then 8 else 32 := by
    decide
  exact hlen ((s.reg (tcA n 0)).extractLsb' 16 2)

/-! ### A count step (13 R364, R365, R368) -/

/-- A channel that counts edges goes one up or down, around its period. -/
theorem tcNext_edge {mode : Nat} (hmode : 4 ≤ mode) (down : Bool) (p : Word) {c : TcSt} (hskip : c.skip = false) :
    (tcNext mode down p c).1.down = down ∧ (tcNext mode down p c).1.cnt
      = (if down then (if c.cnt = 0 then c.top else c.cnt - 1) else if c.cnt = c.top then 0 else c.cnt + 1) := by
  unfold tcNext
  dsimp only
  split
  · omega
  · omega
  · omega
  · rw [hskip, ← TcSt.top]
    cases down
    · simp only [Bool.false_eq_true, if_false]
      split <;> exact ⟨rfl, rfl⟩
    · simp only [Bool.false_eq_true, if_false, if_true]
      split <;> exact ⟨rfl, rfl⟩

/-- At its top a channel that counts up wraps and takes the new period. -/
theorem tcNext_up_top {c : TcSt} (hskip : c.skip = false) (htop : c.cnt = c.top) (down : Bool) (p : Word) :
    tcNext 1 down p c = ({ c with cnt := 0, period := p }, true) := by
  simp only [tcNext, hskip, Bool.false_eq_true, if_false]
  exact if_pos htop

theorem tcNext_up {c : TcSt} (hskip : c.skip = false) (htop : c.cnt ≠ c.top) (down : Bool) (p : Word) :
    tcNext 1 down p c = ({ c with cnt := c.cnt + 1 }, false) := by
  simp only [tcNext, hskip, Bool.false_eq_true, if_false]
  exact if_neg htop

/-- CMPk matches its own value, unless that lies above the period (13 R368). -/
theorem tcHit_of_eq {s : State} {n o : Nat} {period cnt : Word} (hcmp : s.reg (tcA n o) = cnt)
    (hin : period = 0 ∨ cnt.toNat ≤ period.toNat) : s.tcHit n o period cnt = true := by
  rcases hin with h | h <;> simp [tcHit, hcmp, h]

theorem tcActs_tc (s : State) (n : Nat) (wrap m0 m1 : Bool) (k : Nat) : (s.tcActs n wrap m0 m1).tc k = s.tc k := by
  unfold tcActs
  exact keeps_ite (fun t => t.tc k) rfl rfl

theorem tcActs_reg (s : State) (n : Nat) (wrap m0 m1 : Bool) (a : Nat) : (s.tcActs n wrap m0 m1).reg a = s.reg a := by
  unfold tcActs
  exact keeps_ite (fun t => t.reg a) rfl rfl

theorem tcStep_tc_ne (s : State) {n k : Nat} (h : k ≠ n) (down : Bool) : (s.tcStep n down).tc k = s.tc k :=
  (tcActs_tc _ n _ _ _ k).trans ((tc_setTc _ _ _ _).trans (if_neg h))

theorem tcStep_reg_ne (s : State) {n a : Nat} (h : a ≠ tcA n 0x20) (down : Bool) : (s.tcStep n down).reg a = s.reg a :=
  (tcActs_reg _ n _ _ _ a).trans (reg_setReg_ne _ _ _ _ h)

theorem tcStep_tc (s : State) (n : Nat) (down : Bool) : ∃ stopped, (s.tcStep n down).tc n
    = { (tcNext (s.tcMode n) down (s.reg (tcA n 0xC)) (s.tc n)).1 with stepAt := s.now, stopped := stopped } := by
  unfold tcStep
  rw [tcActs_tc]
  exact ⟨_, tc_setTc_same _ _ _⟩

theorem tcStep_status (s : State) (n : Nat) (down : Bool) : ∃ w : Word, (s.tcStep n down).reg (tcA n 0x20) = s.reg (tcA n 0x20)
    ||| (flag 0 (s.tcEvents n down fun _ => false).m0 ||| flag 1 (s.tcEvents n down fun _ => false).m1
      ||| flag 2 (s.tcEvents n down fun _ => false).wrap ||| w) := by
  unfold tcStep
  rw [tcActs_reg]
  obtain ⟨skip, bad, hw⟩ : ∃ skip bad, (s.tcCount n down fun _ => false).reg (tcA n 0x20) = s.reg (tcA n 0x20)
      ||| (flag 0 (s.tcEvents n down fun _ => false).m0 ||| flag 1 (s.tcEvents n down fun _ => false).m1
        ||| flag 2 (s.tcEvents n down fun _ => false).wrap ||| flag 3 skip ||| flag 6 bad) :=
    ⟨_, _, reg_setReg (s.setTc n _) (tcA n 0x20) _⟩
  exact ⟨flag 3 skip ||| flag 6 bad, by rw [hw, BitVec.or_assoc _ (flag 3 skip)]⟩

/-- A count step that wraps sets WRAP (13 R365). -/
theorem tcStep_wrap {s : State} {n : Nat} {down : Bool} (h : (s.tcEvents n down fun _ => false).wrap = true) :
    ((s.tcStep n down).reg (tcA n 0x20)).getLsbD 2 = true := by
  obtain ⟨w, hw⟩ := tcStep_status s n down
  simp [hw, getLsbD_flag, h]

/-- A count step that reaches CMPk sets its bit (13 R368). -/
theorem tcStep_match {s : State} {n : Nat} {down : Bool} (k1 : Bool)
    (h : s.tcHit n (if k1 then 0x14 else 0x10) (tcNext (s.tcMode n) down (s.reg (tcA n 0xC)) (s.tc n)).1.period
      (tcNext (s.tcMode n) down (s.reg (tcA n 0xC)) (s.tc n)).1.cnt = true) :
    ((s.tcStep n down).reg (tcA n 0x20)).getLsbD (if k1 then 1 else 0) = true := by
  obtain ⟨w, hw⟩ := tcStep_status s n down
  cases k1
  · have h0 : (s.tcEvents n down fun _ => false).m0 = true := h
    simp [hw, getLsbD_flag, h0]
  · have h1 : (s.tcEvents n down fun _ => false).m1 = true := h
    simp [hw, getLsbD_flag, h1]

/-! ### One tick (13 R361-R364) -/

theorem tcPresc_tc_ne (s : State) {n k : Nat} (h : k ≠ n) : (s.tcPresc n).tc k = s.tc k := by
  unfold tcPresc
  exact keeps_ite (fun t => t.tc k) ((tc_setTc _ _ _ _).trans (if_neg h)) rfl

theorem tcPresc_reg (s : State) (n a : Nat) : (s.tcPresc n).reg a = s.reg a := by
  unfold tcPresc
  exact keeps_ite (fun t => t.reg a) rfl rfl

theorem tcTick_tc_ne (s : State) {n k : Nat} (h : k ≠ n) : (s.tcTick n).tc k = s.tc k := by
  have hpresc := tcPresc_tc_ne s h
  unfold tcTick
  exact keeps_ite (fun t => t.tc k) ((tcStep_tc_ne _ h _).trans hpresc) hpresc

theorem tcTick_reg_ne (s : State) {n a : Nat} (h : a ≠ tcA n 0x20) : (s.tcTick n).reg a = s.reg a := by
  have hpresc := tcPresc_reg s n a
  unfold tcTick
  exact keeps_ite (fun t => t.reg a) ((tcStep_reg_ne _ h _).trans hpresc) hpresc

theorem tcTick_wcs (s : State) (n : Nat) : (s.tcTick n).tmr.wcs = s.tmr.wcs := by
  have hacts (t : State) (wrap m0 m1 : Bool) : (t.tcActs n wrap m0 m1).tmr.wcs = t.tmr.wcs := by
    unfold tcActs
    exact keeps_ite (fun t => t.tmr.wcs) rfl rfl
  have hpresc : (s.tcPresc n).tmr.wcs = s.tmr.wcs := by
    unfold tcPresc
    exact keeps_ite (fun t => t.tmr.wcs) rfl rfl
  unfold tcTick
  exact keeps_ite (fun t => t.tmr.wcs) ((hacts _ _ _ _).trans hpresc) hpresc

theorem tickWith_locked {s : State} (h : s.tmr.lock = true) : s.tickWith (fun _ _ => false)
    = (upFrom 16 0).foldl tcTick { s with tmr := { s.tmr with tb := s.tmr.tb + 1, age := s.tmr.age + 1 } } :=
  if_neg (by simp [h])

theorem snapNow_idle {s : State} (h : ¬ (s.conv.snapBusy = true ∧ s.tmr.lock = true)) : s.snapNow = s :=
  if_pos (by simpa [← Bool.not_and] using h)

theorem snapNow_tmr (s : State) : s.snapNow.tmr = s.tmr := by
  by_cases h : s.conv.snapBusy = true ∧ s.tmr.lock = true
  · exact (snapNow_taken h.1 h.2).2.1
  · rw [snapNow_idle h]

/-- In the timer island a snapshot stores the count registers alone (13 R384). -/
theorem snapNow_reg_timer (s : State) {a : Nat} (hlo : tmrB ≤ a) (hhi : a < loopB) (hcount : ∀ k, a ≠ tcA k 0x38) :
    s.snapNow.reg a = s.reg a := by
  by_cases h : s.conv.snapBusy = true ∧ s.tmr.lock = true
  · have h48 : a ≠ sysB + 0x48 := by simp only [tmrB, sysB] at hlo ⊢; omega
    have h4C : a ≠ sysB + 0x4C := by simp only [tmrB, sysB] at hlo ⊢; omega
    have hgio (k : Nat) : a ≠ gioB + 0x180 + 4 * k := by simp only [loopB, gioB] at hhi ⊢; omega
    have hlp (k : Nat) : a ≠ lpA k 0x2C := by simp only [loopB, lpA] at hhi ⊢; omega
    have hunits : s.snapUnits.reg a = s.reg a :=
      (foldl_setReg_reg _ _ _ hlp _).trans ((foldl_setReg_reg _ _ _ hgio _).trans (foldl_setReg_reg _ _ _ hcount s))
    rw [snapNow_eq h.1 h.2]
    generalize s.snapUnits = u at hunits
    exact (reg_setReg_ne _ _ _ _ h4C).trans ((reg_setReg_ne _ _ _ _ h48).trans hunits)
  · rw [snapNow_idle h]

theorem tick_unlocked {s : State} (h : s.tmr.lock = false) : s.tick = s := by
  have hstay : s.tickWith (fun _ _ => false) = s := if_pos (by simp [h])
  rw [tick, hstay]
  exact snapNow_idle (by simp [h])

theorem tick_tb {s : State} (h : s.tmr.lock = true) : s.tick.tmr.tb = s.tmr.tb + 1 := by
  rw [tick, snapNow_tmr]
  exact congrArg (fun x => x.2.1) (tickWith_convTime h fun _ _ => false)

/-! ### One channel in a tick (13 R364) -/

/-- A channel: its state and its registers below the count register of a snapshot. -/
def chan (n : Nat) (s : State) : TcSt × (Fin 0x38 → Word) := (s.tc n, fun o => s.reg (tcA n o))

theorem chan_tc {s t : State} {n : Nat} (h : t.chan n = s.chan n) : t.tc n = s.tc n := congrArg Prod.fst h

theorem chan_reg {s t : State} {n : Nat} (h : t.chan n = s.chan n) {o : Nat} (ho : o < 0x38) : t.reg (tcA n o) = s.reg (tcA n o) :=
  congrFun (congrArg Prod.snd h) ⟨o, ho⟩

theorem tcTick_chan_ne (s : State) {n k : Nat} (h : n ≠ k) : (s.tcTick k).chan n = s.chan n := by
  refine Prod.ext (tcTick_tc_ne s h) (funext fun o => tcTick_reg_ne s ?_)
  simp only [tcA]
  omega

theorem snapNow_chan (s : State) {n : Nat} (hn : n < 16) : s.snapNow.chan n = s.chan n := by
  refine Prod.ext (tc_congr (snapNow_tmr s) n) (funext fun o => snapNow_reg_timer s ?_ ?_ fun k => ?_)
  all_goals
    simp only [tcA, tmrB, loopB]
    omega

/-- A loop that leaves an item alone except in the item's own pass leaves it as that pass makes it. -/
theorem foldl_item {α β : Type} (g : State → β) (f : State → α → State) {a : α} (h : ∀ s b, b ≠ a → g (f s b) = g s)
    {l : List α} (hnodup : l.Nodup) (ha : a ∈ l) (s : State) : ∃ u, g u = g s ∧ g (l.foldl f s) = g (f u a) := by
  have others (l : List α) (hl : a ∉ l) (t : State) : g (l.foldl f t) = g t :=
    List.foldlRecOn (motive := fun u => g u = g t) l f rfl fun u hu b hb => (h u b fun e => hl (e ▸ hb)).trans hu
  obtain ⟨pre, post, rfl⟩ := List.append_of_mem ha
  obtain ⟨-, hpost, hdisj⟩ := List.nodup_append.1 hnodup
  refine ⟨pre.foldl f s, others pre (fun hm => hdisj a hm a List.mem_cons_self rfl) s, ?_⟩
  rw [List.foldl_append]
  exact others post (List.nodup_cons.1 hpost).1 _

theorem tick_chan {s : State} (h : s.tmr.lock = true) {n : Nat} (hn : n < 16) :
    ∃ u : State, u.chan n = s.chan n ∧ s.tick.chan n = (u.tcTick n).chan n := by
  have hnodup : (upFrom 16 0).Nodup := by decide
  obtain ⟨u, hu, hfold⟩ := foldl_item (chan n) tcTick (fun t k hk => tcTick_chan_ne t hk.symm) hnodup (mem_upFrom_zero hn)
    { s with tmr := { s.tmr with tb := s.tmr.tb + 1, age := s.tmr.age + 1 } }
  refine ⟨u, hu, ?_⟩
  rw [tick, snapNow_chan _ hn, tickWith_locked h]
  exact hfold

theorem tcDue_congr {s t : State} {n : Nat} (h : t.chan n = s.chan n) : t.tcDue n = s.tcDue n := by
  have hctl : t.reg (tcA n 0) = s.reg (tcA n 0) := chan_reg h (by decide)
  have hpresc : t.reg (tcA n 8) = s.reg (tcA n 8) := chan_reg h (by decide)
  simp only [tcDue, tcTicks, tcGate, tcMode, tcCtl, chan_tc h, hctl, hpresc]

theorem tcTick_due {s : State} {n : Nat} (h : s.tcDue n = true) :
    s.tcTick n = (s.setTc n { s.tc n with phase := 0 }).tcStep n (s.tc n).down := by
  have hticks : (s.tcTicks n && s.tcGate n) = true := (Bool.and_eq_true_iff.1 h).1
  rw [tcTick, if_pos h, tcPresc, if_pos hticks, if_pos h]

/-- A tick that finds the prescaler full makes a count step of the channel as it was. -/
theorem tick_due {s : State} (hlock : s.tmr.lock = true) {n : Nat} (hn : n < 16) (hdue : s.tcDue n = true) :
    ∃ u : State, u.tc n = { s.tc n with phase := 0 } ∧ (∀ o < 0x38, u.reg (tcA n o) = s.reg (tcA n o))
      ∧ s.tick.chan n = (u.tcStep n (s.tc n).down).chan n := by
  obtain ⟨u, hu, htick⟩ := tick_chan hlock hn
  refine ⟨u.setTc n { u.tc n with phase := 0 }, ?_, fun o ho => chan_reg hu ho, ?_⟩
  · rw [tc_setTc_same, chan_tc hu]
  · rw [htick, tcTick_due ((tcDue_congr hu).trans hdue), chan_tc hu]

section
variable {s : State} {n : Nat} (hlock : s.tmr.lock = true) (hn : n < 16) (hmode : s.tcMode n = 1) (hstop : (s.tc n).stopped = false)
  (hskip : (s.tc n).skip = false) (hphase : (s.tc n).phase = fld (s.reg (tcA n 8)) 0 16)

include hmode hstop in
theorem tcTicks_up : (s.tcTicks n && s.tcGate n) = true := by simp [tcTicks, tcGate, hmode, hstop]

include hlock hn hmode hstop hphase

/-- The count step that a tick makes of a channel that counts the timer clock up. -/
theorem tick_up : ∃ u : State, u.tcMode n = 1 ∧ u.tc n = { s.tc n with phase := 0 }
    ∧ (∀ o < 0x38, u.reg (tcA n o) = s.reg (tcA n o)) ∧ (s.tick.tc n).cnt = (tcNext 1 (s.tc n).down (s.reg (tcA n 0xC)) (u.tc n)).1.cnt
    ∧ s.tick.reg (tcA n 0x20) = (u.tcStep n (s.tc n).down).reg (tcA n 0x20) := by
  have hdue : s.tcDue n = true := by rw [tcDue, tcTicks_up hmode hstop, Bool.true_and, decide_eq_true hphase]
  obtain ⟨u, hu, hreg, htick⟩ := tick_due hlock hn hdue
  have humode : u.tcMode n = 1 := by rw [tcMode, hreg 0 (by decide), ← tcMode, hmode]
  obtain ⟨stopped, hnext⟩ := tcStep_tc u n (s.tc n).down
  refine ⟨u, humode, hu, hreg, ?_, chan_reg htick (by decide)⟩
  rw [chan_tc htick, hnext, humode, hreg 0xC (by decide)]

include hskip

/-- At its top the channel wraps in the tick (13 R365). -/
theorem tick_wraps (htop : (s.tc n).cnt = (s.tc n).top) :
    (s.tick.tc n).cnt = 0 ∧ (s.tick.reg (tcA n 0x20)).getLsbD 2 = true := by
  obtain ⟨u, humode, hu, -, hcnt, hstatus⟩ := tick_up hlock hn hmode hstop hphase
  have hnext (p : Word) : tcNext 1 (s.tc n).down p (u.tc n) = ({ u.tc n with cnt := 0, period := p }, true) :=
    tcNext_up_top (by rw [hu, hskip]) (by rwa [hu]) _ _
  rw [hcnt, hnext, hstatus]
  refine ⟨rfl, tcStep_wrap ?_⟩
  rw [tcEvents, humode, hnext]

/-- Below its top the channel counts one up in the tick, and reaches a compare value (13 R368). -/
theorem tick_matches (htop : (s.tc n).cnt ≠ (s.tc n).top) (k1 : Bool)
    (hhit : s.tcHit n (if k1 then 0x14 else 0x10) (s.tc n).period ((s.tc n).cnt + 1) = true) :
    (s.tick.tc n).cnt = (s.tc n).cnt + 1 ∧ (s.tick.reg (tcA n 0x20)).getLsbD (if k1 then 1 else 0) = true := by
  obtain ⟨u, humode, hu, hreg, hcnt, hstatus⟩ := tick_up hlock hn hmode hstop hphase
  have hnext (p : Word) : tcNext 1 (s.tc n).down p (u.tc n) = ({ u.tc n with cnt := (u.tc n).cnt + 1 }, false) :=
    tcNext_up (by rw [hu, hskip]) (by rwa [hu]) _ _
  rw [hcnt, hnext, hstatus]
  refine ⟨congrArg (fun c => c.cnt + 1) hu, tcStep_match k1 ?_⟩
  rw [humode, hnext, hu, tcHit, hreg _ (by cases k1 <;> decide)]
  exact hhit

end

/-! ### The wide compare channels (13 R376) -/

/-- The next value of a WC channel and its STEP. -/
def wcPlan (w : Nat) (s : State) : WcSt × Word := (s.wc w, s.reg (wcA w 0xC))

theorem tcTick_wcPlan (s : State) (n w : Nat) : (s.tcTick n).wcPlan w = s.wcPlan w := by
  refine Prod.ext (wc_congr (tcTick_wcs s n) w) (tcTick_reg_ne s ?_)
  simp only [wcA, tcA]
  omega

theorem tickWith_wcPlan (s : State) (w : Nat) : (s.tickWith fun _ _ => false).wcPlan w = s.wcPlan w := by
  unfold tickWith
  exact keeps_ite (wcPlan w) rfl ((foldl_keeps (wcPlan w) tcTick (fun t n => tcTick_wcPlan t n w) _ _).trans rfl)

theorem snapNow_wcPlan (s : State) {w : Nat} (hw : w < 4) : s.snapNow.wcPlan w = s.wcPlan w := by
  refine Prod.ext (wc_congr (congrArg TmrSt.wcs (snapNow_tmr s)) w) (snapNow_reg_timer s ?_ ?_ fun k => ?_)
  all_goals
    simp only [wcA, tcA, tmrB, loopB]
    omega

theorem ticks_wcPlan {w : Nat} (hw : w < 4) (k : Nat) : ∀ s : State, (ticks k s).wcPlan w = s.wcPlan w := by
  induction k with
  | zero => intro s; rfl
  | succ k ih => intro s; exact (ih s.tick).trans ((snapNow_wcPlan _ hw).trans (tickWith_wcPlan s w))

/-- The time that passes leaves a WC channel and its STEP alone. -/
theorem advanceTo_wcPlan (s : State) {w : Nat} (hw : w < 4) (t : Nat) : (s.advanceTo t).wcPlan w = s.wcPlan w := by
  unfold advanceTo
  exact keeps_ite (wcPlan w) rfl (keeps_ite (wcPlan w) (ticks_wcPlan hw _ s) (snapNow_wcPlan (s.skipTicks 1) hw))

theorem wcFire_wc (s : State) (w : Nat) : (s.wcFire w).wc w
    = if s.reg (wcA w 0xC) = 0 then { s.wc w with armed := false }
      else { s.wc w with nextV := (s.wc w).nextV + (s.reg (wcA w 0xC)).toNat } := by
  have hzero : (s.reg (wcA w 0xC)).toNat = 0 ↔ s.reg (wcA w 0xC) = 0 := by simp [← BitVec.toNat_inj]
  have hwc : (s.wcFire w).wc w = ((s.setBits (wcA w 0x10) (flag 0 true)).setWc w (if (s.reg (wcA w 0xC)).toNat = 0
      then { s.wc w with armed := false } else { s.wc w with nextV := (s.wc w).nextV + (s.reg (wcA w 0xC)).toNat })).wc w := by
    unfold wcFire
    exact keeps_ite (fun t => t.wc w) rfl rfl
  simp only [hwc, wc_setWc_same, hzero]

theorem wcFire_fired (s : State) (w : Nat) : ((s.wcFire w).reg (wcA w 0x10)).getLsbD 0 = true := by
  have hreg : (s.wcFire w).reg (wcA w 0x10) = (s.setBits (wcA w 0x10) (flag 0 true)).reg (wcA w 0x10) := by
    unfold wcFire
    exact keeps_ite (fun t => t.reg (wcA w 0x10)) rfl rfl
  rw [hreg, getLsbD_setBits, getLsbD_flag]
  exact Bool.or_true _

/-! ### Captures and the encoders' intervals (13 R375; 09 R592) -/

/-- A status bit with its fault source: the timer island keeps its state. -/
theorem setBits_drive (s : State) (a : Nat) {i n : Nat} (hi : i < 32) (hn : (srcDefault n).isSome = true) (d : BitVec 16) :
    ((s.setBits a (flag i true)).drive n d).tmr = s.tmr ∧ (((s.setBits a (flag i true)).drive n d).reg a).getLsbD i = true
    ∧ (((s.setBits a (flag i true)).drive n d).src n).rail ≠ .ok := by
  refine ⟨drive_keeps State.tmr _ n d, ?_, drive_rail _ _ _ hn⟩
  rw [drive_keeps (fun t => t.reg a) _ n d, getLsbD_setBits, getLsbD_flag, decide_eq_true hi, decide_eq_true rfl]
  exact Bool.or_true _

theorem qPush_slots {s : State} {q : Nat} (hfull : s.qFull q = false) (hen : s.qEn q = true) (bs : List Byte) :
    ((s.qPush q bs).1.queue q).slots = (s.queue q).slots ++ [{ idx := (s.queue q).next, st := .published }] := by
  simp only [qPush, hfull, hen, Bool.not_true, Bool.or_self, Bool.false_eq_true, if_false]
  exact congrArg Queue.slots (look_put _ _ _ _)

theorem capPop_held {s : State} {n : Nat} (h : s.tmr.lock = false ∨ (s.tc n).caps = []) : s.capPop n = (s, 0) := by
  unfold capPop
  rcases h with h | h <;> simp [h]

/-- The word of CAPPOP for a capture (13 R385). -/
theorem capWord_flags (rise : Bool) :
    (flag 0 true ||| flag 1 rise).getLsbD 0 = true ∧ (flag 0 true ||| flag 1 rise).getLsbD 1 = rise := by
  cases rise <;> decide

theorem capPop_cons {s : State} {n : Nat} {e : Cap} {es : List Cap} (h : (s.tc n).caps = e :: es) (hlock : s.tmr.lock = true)
    (hspill : (s.reg (tcA n 0x24)).getLsbD 8 = false) : s.capPop n
      = ((((s.setTc n { s.tc n with caps := es }).setReg (tcA n 0x2C) (w32 e.stamp)).setReg (tcA n 0x30) (w32 (e.stamp / 2 ^ 32))).setReg
          (tcA n 0x34) e.cnt, flag 0 true ||| flag 1 e.rise) := by
  have hbit : bit (s.reg (tcA n 0x24)) 8 = false := hspill
  simp only [capPop, hlock, hbit, h, Bool.not_true, Bool.or_self, Bool.false_eq_true, if_false]

theorem islandRate_axis (s : State) (i : Nat) : (s.islandRate i).axis i
    = if (s.axis i).bound then { s.axis i with err := (s.axis i).err || decide (10 < (s.axis i).steps), steps := 0 } else s.axis i := by
  unfold islandRate
  dsimp only
  split
  · exact axis_setAxis_same _ _ _
  · rfl

/-- What the timer island keeps of its axes is all that its judgement changes. -/
theorem islandRate_keeps {β : Type} (g : State → β)
    (h : ∀ (t : State) (x : Tab AxisSt), g { t with tmr := { t.tmr with axes := x } } = g t) (s : State) (i : Nat) :
    g (s.islandRate i) = g s := by
  unfold islandRate
  exact keeps_ite g (h s _) rfl

theorem speedCell_lt {s : State} {i c : Nat} (h : s.speedCell i = some c) : c < 256 := by
  unfold speedCell at h
  split at h
  · cases h
  · simpa using lt_of_mem_upFrom (List.mem_of_find?_eq_some h)

end State

/-- One of two inputs changes level, from `a0` or `b0`; `back` is the direction of a quadrature pair (13 R364). -/
def OneEdge (a0 b0 a b back : Bool) : Prop :=
  ((a != a0) = true ∧ (b != b0) = false ∧ back = (a == b)) ∨ ((a != a0) = false ∧ (b != b0) = true ∧ back = (a != b))

theorem edge_of_inA (a b : Bool) : OneEdge a b (!a) b ((!a) == b) := .inl ⟨Bool.not_bne_self a, bne_self_eq_false b, rfl⟩

theorem edge_of_inB (a b : Bool) : OneEdge a b a (!b) (a != !b) := .inr ⟨bne_self_eq_false a, Bool.not_bne_self b, rfl⟩

/-! ### The commands -/

theorem step_idle {s : State} (h : s.pending = []) : step s = .next s.tick := by
  unfold step
  rw [h]
  rfl

section
open State
variable {s : State} {n : Fin 16}

/-- A level that has not held keeps the one before it (13 R367). -/
theorem exec_tcCountEdge_lateA {a : HeldLevel} {held : BitVec 16} (ha : a.held.toNat < s.tcGlitch n) (hheld : s.tcGlitch n ≤ held.toNat)
    (lv : Bool) : exec (.tcCountEdge n a ⟨lv, held⟩) s = exec (.tcCountEdge n ⟨(s.tc n).a, held⟩ ⟨lv, held⟩) s := by
  have hon : ¬ held.toNat < s.tcGlitch n := by omega
  show execTcCountEdge _ _ _ _ = execTcCountEdge _ _ _ _
  simp only [execTcCountEdge, ha, hon, decide_true, decide_false, if_true, Bool.false_eq_true, if_false, Bool.and_false]

theorem exec_tcCountEdge_lateB {a : HeldLevel} {held : BitVec 16} (ha : a.held.toNat < s.tcGlitch n) (hheld : s.tcGlitch n ≤ held.toNat)
    (lv : Bool) : exec (.tcCountEdge n ⟨lv, held⟩ a) s = exec (.tcCountEdge n ⟨lv, held⟩ ⟨(s.tc n).b, held⟩) s := by
  have hon : ¬ held.toNat < s.tcGlitch n := by omega
  show execTcCountEdge _ _ _ _ = execTcCountEdge _ _ _ _
  simp only [execTcCountEdge, ha, hon, decide_true, decide_false, if_true, Bool.false_eq_true, if_false, Bool.false_and]

theorem exec_tcCountEdge_idle {a b : HeldLevel}
    (h : (a.held.toNat < s.tcGlitch n ∧ b.held.toNat < s.tcGlitch n) ∨ s.tmr.lock = false) : exec (.tcCountEdge n a b) s = .next s := by
  refine congrArg Host.Outcome.next (if_pos ?_)
  rcases h with ⟨ha, hb⟩ | h
  · simp [ha, hb]
  · simp [h]

section
variable {held : BitVec 16} (hheld : s.tcGlitch n ≤ held.toNat) (hlock : s.tmr.lock = true)
include hheld hlock

theorem exec_tcCountEdge_stopped (hstop : (s.tc n).stopped = true) (a b : Bool) :
    exec (.tcCountEdge n ⟨a, held⟩ ⟨b, held⟩) s = .next (s.setTc n { s.tc n with a := a, b := b }) := by
  have hon : ¬ held.toNat < s.tcGlitch n := by omega
  show execTcCountEdge _ _ _ _ = _
  simp [execTcCountEdge, hon, hlock, hstop]

variable (hstop : (s.tc n).stopped = false)
include hstop

/-- EDGE and PULSEDIR count the rising edges of INA (13 R364). -/
theorem exec_tcCountEdge_rising (ha : (s.tc n).a = false) (b : Bool) {down : Bool}
    (hmode : (s.tcMode n = 4 ∧ down = (s.reg (tcA n 0)).getLsbD 7) ∨ (s.tcMode n = 6 ∧ down = (b != (s.reg (tcA n 0)).getLsbD 7))) :
    exec (.tcCountEdge n ⟨true, held⟩ ⟨b, held⟩) s = .next ((s.setTc n { s.tc n with a := true, b := b }).tcStep n down) := by
  have hon : ¬ held.toNat < s.tcGlitch n := by omega
  show execTcCountEdge _ _ _ _ = _
  obtain ⟨hmode, rfl⟩ | ⟨hmode, rfl⟩ := hmode
  · simp [execTcCountEdge, hon, hlock, hstop, hmode, ha]
    rfl
  · simp [execTcCountEdge, hon, hlock, hstop, hmode, ha]
    rfl

/-- A quadrature channel counts the edge of one of its inputs; the levels after it give the direction (13 R364, R367). -/
theorem exec_tcCountEdge_quad (hmode : s.tcMode n = 5) (hqx : (s.reg (tcA n 0)).extractLsb' 5 2 = 0) {a b back : Bool}
    (h : OneEdge (s.tc n).a (s.tc n).b a b back) : exec (.tcCountEdge n ⟨a, held⟩ ⟨b, held⟩) s
      = .next ((s.setTc n { s.tc n with a := a, b := b }).tcStep n (back != (s.reg (tcA n 0)).getLsbD 7)) := by
  have hon : ¬ held.toNat < s.tcGlitch n := by omega
  have hfld : fld (s.reg (tcA n 0)) 5 2 = 0 := congrArg BitVec.toNat hqx
  show execTcCountEdge _ _ _ _ = _
  obtain ⟨hA, hB, rfl⟩ | ⟨hA, hB, rfl⟩ := h
  · simp [execTcCountEdge, hon, hlock, hstop, hmode, hfld, hA, hB]
    rfl
  · simp [execTcCountEdge, hon, hlock, hstop, hmode, hfld, hA, hB]
    rfl

/-- Edges on both inputs of a quadrature channel are QERR (13 R367). -/
theorem exec_tcCountEdge_both (hmode : s.tcMode n = 5) : exec (.tcCountEdge n ⟨!(s.tc n).a, held⟩ ⟨!(s.tc n).b, held⟩) s
    = .next ((s.setTc n { s.tc n with a := !(s.tc n).a, b := !(s.tc n).b }).setBits (tcA n 0x20) (BitVec.ofNat 32 16)) := by
  have hon : ¬ held.toNat < s.tcGlitch n := by omega
  show execTcCountEdge _ _ _ _ = _
  simp [execTcCountEdge, hon, hlock, hstop, hmode]
  rfl

end

/-- A counted edge leaves the channel as one step up or down (13 R364, R365). -/
theorem counted_after_edge {a b down : Bool} (hmode : 4 ≤ s.tcMode n) (hskip : (s.tc n).skip = false) :
    (((s.setTc n { s.tc n with a := a, b := b }).tcStep n down).tc n).down = down
    ∧ (((s.setTc n { s.tc n with a := a, b := b }).tcStep n down).tc n).cnt
      = (if down then (if (s.tc n).cnt = 0 then (s.tc n).top else (s.tc n).cnt - 1)
        else if (s.tc n).cnt = (s.tc n).top then 0 else (s.tc n).cnt + 1) := by
  obtain ⟨stopped, hnext⟩ := tcStep_tc (s.setTc n { s.tc n with a := a, b := b }) n down
  rw [hnext, tc_setTc_same]
  exact tcNext_edge hmode down _ hskip

section
variable (hlock : s.tmr.lock = true) (hmode : s.tcMode n = 1) (hstop : (s.tc n).stopped = false) (hskip : (s.tc n).skip = false)
  (hphase : (s.tc n).phase = (s.reg (tcA n 8)).toNat % 65536)
include hlock hmode hstop hskip hphase

theorem exec_tcWrap (htop : (s.tc n).cnt = (s.tc n).top) :
    exec (.tcWrap n) s = .next s.tick := by
  have hfld : fld (s.reg (tcA n 8)) 0 16 - (s.tc n).phase = 0 := Nat.sub_eq_zero_of_le (Nat.le_of_eq hphase.symm)
  refine congrArg Host.Outcome.next ((if_pos ?_).trans (by rw [hfld]; rfl))
  rw [hlock, Bool.true_and, tcTicks_up hmode hstop, hmode, tcNext_up_top hskip htop]
  rfl

theorem exec_tcCompareMatch (htop : (s.tc n).cnt ≠ (s.tc n).top) {k1 : Bool}
    (hhit : s.tcHit n (if k1 then 0x14 else 0x10) (s.tc n).period ((s.tc n).cnt + 1) = true) :
    exec (.tcCompareMatch n k1) s = .next s.tick := by
  have hfld : fld (s.reg (tcA n 8)) 0 16 - (s.tc n).phase = 0 := Nat.sub_eq_zero_of_le (Nat.le_of_eq hphase.symm)
  refine congrArg Host.Outcome.next ((if_pos ?_).trans (by rw [hfld]; rfl))
  rw [hlock, Bool.true_and, tcTicks_up hmode hstop, hmode, tcNext_up hskip htop]
  exact hhit

end

theorem exec_tcWrap_unlocked (h : s.tmr.lock = false) : exec (.tcWrap n) s = .next s :=
  congrArg Host.Outcome.next (if_neg (by simp [h]))

theorem exec_tcCompareMatch_unlocked (h : s.tmr.lock = false) (k1 : Bool) : exec (.tcCompareMatch n k1) s = .next s :=
  congrArg Host.Outcome.next (if_neg (by simp [h]))

/-- The edges that a channel captures (13 R374). -/
theorem capEdge_eq (w : Word) (rise : Bool) :
    (if rise then (fld w 0 2).testBit 0 else (fld w 0 2).testBit 1) = w.getLsbD (if rise then 0 else 1) := by
  cases rise
  · exact testBit_fld w (by decide)
  · exact testBit_fld w (by decide)

theorem exec_tcCapture_drops {rise : Bool} {held : BitVec 6} (h : s.tmr.lock = false ∨ held.toNat < s.tcGlitch n
    ∨ (s.reg (tcA n 0x24)).getLsbD (if rise then 0 else 1) = false) : exec (.tcCapture n rise held) s = .next s := by
  refine congrArg Host.Outcome.next (if_pos ?_)
  rw [capEdge_eq]
  rcases h with h | h | h <;> simp [h]

theorem exec_tcCapture {rise : Bool} {held : BitVec 6} (hlock : s.tmr.lock = true) (hheld : s.tcGlitch n ≤ held.toNat)
    (hedge : (s.reg (tcA n 0x24)).getLsbD (if rise then 0 else 1) = true) : exec (.tcCapture n rise held) s
      = .next (if 8 ≤ (s.tc n).caps.length then (s.setBits (tcA n 0x20) (flag 5 true)).drive 112 (det n)
        else s.setTc n { s.tc n with
          caps := (s.tc n).caps ++ [{ stamp := s.now - s.tcGlitch n, cnt := (s.tc n).cnt, rise := rise }] }) := by
  refine congrArg Host.Outcome.next (if_neg ?_)
  rw [capEdge_eq, hlock, hedge]
  simpa using hheld

theorem exec_captureSpill_holds (h : s.tmr.lock = false ∨ (s.reg (tcA n 0x24)).getLsbD 8 = false) :
    exec (.captureSpill n) s = .next s := by
  refine congrArg Host.Outcome.next (if_pos ?_)
  rcases h with h | h
  · simp [h]
  · have hbit : bit (s.reg (tcA n 0x24)) 8 = false := h
    simp [hbit]

theorem exec_captureSpill {e : Cap} {es : List Cap} (h : (s.tc n).caps = e :: es) (hlock : s.tmr.lock = true)
    (hspill : (s.reg (tcA n 0x24)).getLsbD 8 = true) (hfull : s.qFull (108 + n) = false) :
    exec (.captureSpill n) s = .next ((s.setTc n { s.tc n with caps := es }).qPush (108 + n) (spillBytes n e)).1 := by
  have hbit : bit (s.reg (tcA n 0x24)) 8 = true := hspill
  refine congrArg Host.Outcome.next ((if_neg (by simp [hlock, hbit, hfull])).trans ?_)
  rw [h]

theorem exec_capturePop {m : Fin 10} (h : s.revoked m = false) :
    exec (.capturePop m n) s = .next ((s.capPop n).1.answer stOk [(s.capPop n).2]) :=
  congrArg Host.Outcome.next (if_neg (by simp [h]))

theorem exec_capturePop_none {m : Fin 10} (h : s.revoked m = false) (hnone : s.tmr.lock = false ∨ (s.tc n).caps = []) :
    exec (.capturePop m n) s = .next (s.answer stOk [0]) := by
  rw [exec_capturePop h, capPop_held hnone]

end

section
open State
variable {s : State}

theorem exec_wcFire_holds {w : Fin 4} (h : s.tmr.lock = false ∨ (s.wc w).nextV < s.now) : exec (.wcFire w) s = .next s := by
  refine congrArg Host.Outcome.next (if_pos ?_)
  rcases h with h | h <;> simp [h]

theorem exec_wcFire {w : Fin 4} (hw : w.val ≠ 0) (hlock : s.tmr.lock = true) (harmed : (s.wc w).armed = true)
    (hrun : (s.reg (wcA w 0)).getLsbD 0 = true) (hnext : s.now ≤ (s.wc w).nextV) :
    exec (.wcFire w) s = .next ((s.advanceTo (s.wc w).nextV).wcFire w) := by
  have hbit : bit (s.reg (wcA w 0)) 0 = true := hrun
  exact congrArg Host.Outcome.next (if_neg (by simp [hw, hlock, harmed, hbit, hnext]))

theorem exec_pllLockLost (h : s.tmr.lock = true) : exec .pllLockLost s
    = .next (({ s with tmr := { s.tmr with lock := false } }.setBits tmrB (flag 1 true)).drive 113 0) :=
  congrArg Host.Outcome.next (if_neg (by simp [h]))

theorem exec_pllLockLost_unlocked (h : s.tmr.lock = false) : exec .pllLockLost s = .next s :=
  congrArg Host.Outcome.next (if_pos (by simp [h]))

theorem exec_pllLockRestored (hoff : s.md.mode ≠ .off) (hreset : s.md.mode ≠ .reset) : exec .pllLockRestored s
    = .next { s with tmr := { s.tmr with lock := true }, lnk := { s.lnk with opened := true } } := by
  show execPllLockRestored s = _
  unfold execPllLockRestored
  split
  · contradiction
  · contradiction
  · rfl

theorem exec_pllLockRestored_silent (h : s.md.mode = .off ∨ s.md.mode = .reset) : exec .pllLockRestored s = .next s := by
  show execPllLockRestored s = _
  unfold execPllLockRestored
  rcases h with h | h <;> rw [h]

section
variable {a : Fin 4} {e : Fin 2}

theorem islandRate_speedCell (s : State) (i : Nat) : (s.islandRate i).speedCell i = s.speedCell i :=
  islandRate_keeps (fun t => t.speedCell i) (fun _ _ => rfl) s i

theorem islandRate_cellSteps (s : State) (i cell : Nat) (y : BitVec 16) (ys : List (BitVec 16)) :
    (s.islandRate i).cellSteps cell y ys = s.cellSteps cell y ys :=
  islandRate_keeps (fun t => t.cellSteps cell y ys) (fun _ _ => rfl) s i

theorem exec_encoderRateInterval_unseen {lv : List (BitVec 16)} (h : s.speedCell (2 * a.val + e.val) = none ∨ lv = []) :
    exec (.encoderRateInterval a e lv) s = .next (s.islandRate (2 * a.val + e.val)) := by
  show execEncoderRateInterval a e lv s = _
  rcases h with h | rfl
  · simp only [execEncoderRateInterval, islandRate_speedCell, h]
  · unfold execEncoderRateInterval
    dsimp only
    split
    · contradiction
    · rfl

theorem exec_encoderRateInterval_seen {cell : Nat} {y : BitVec 16} {ys : List (BitVec 16)}
    (h : s.speedCell (2 * a.val + e.val) = some cell) : exec (.encoderRateInterval a e (y :: ys)) s
      = .next (if 10 < ((s.cellSteps cell y ys).1.filter (· ≠ 0)).length
        then { s.islandRate (2 * a.val + e.val) with lat := { s.lat with overrate := putBit s.lat.overrate cell true } }
        else s.islandRate (2 * a.val + e.val)) := by
  have hlat : (s.islandRate (2 * a.val + e.val)).lat = s.lat := islandRate_keeps State.lat (fun _ _ => rfl) s _
  show execEncoderRateInterval a e (y :: ys) s = _
  simp only [execEncoderRateInterval, islandRate_speedCell, h, islandRate_cellSteps, hlat]

/-- The interval's end judges the encoder in the island, and its speed cell by the steps of its front end (09 R592). -/
theorem exec_encoderRateInterval (s : State) (a : Fin 4) (e : Fin 2) (lv : List (BitVec 16)) :
    ∃ t, exec (.encoderRateInterval a e lv) s = .next t ∧ t.tmr = (s.islandRate (2 * a.val + e.val)).tmr
      ∧ ∀ cell y ys, s.speedCell (2 * a.val + e.val) = some cell → lv = y :: ys →
        (10 < ((s.cellSteps cell y ys).1.filter (· ≠ 0)).length → bit t.lat.overrate cell = true)
        ∧ (((s.cellSteps cell y ys).1.filter (· ≠ 0)).length ≤ 10 → t.lat = s.lat) := by
  have hlat : (s.islandRate (2 * a.val + e.val)).lat = s.lat := islandRate_keeps State.lat (fun _ _ => rfl) s _
  cases hcell : s.speedCell (2 * a.val + e.val) with
  | none => exact ⟨_, exec_encoderRateInterval_unseen (.inl hcell), rfl, fun _ _ _ h => nomatch h⟩
  | some cell =>
    cases lv with
    | nil => exact ⟨_, exec_encoderRateInterval_unseen (.inr rfl), rfl, fun _ _ _ _ h => nomatch h⟩
    | cons y ys =>
      refine ⟨_, exec_encoderRateInterval_seen hcell, (apply_ite State.tmr _ _ _).trans (ite_self _), ?_⟩
      rintro _ _ _ ⟨⟩ ⟨⟩
      refine ⟨fun h => ?_, fun h => ?_⟩
      · rw [if_pos h]
        exact (getLsbD_putBit _ _ _ _).trans (by simp [speedCell_lt hcell])
      · rw [if_neg (Nat.not_lt.2 h), hlat]

end

end

/-- Settles O48: every command of the timer island by its equation, the count steps of a tick from what the tick leaves of the other
channels. -/
theorem timerCommands : Obligations.TimerCommands := by
  unfold Obligations.TimerCommands
  intro s n c top ctl glitch counted
  have hglitch : s.tcGlitch n = glitch := State.tcGlitch_eq s n
  clear_value glitch
  subst hglitch
  refine ⟨fun hidle => ?_, fun held hheld hlock => ⟨fun b hstop ha hskip down hmode => ?_, fun hstop hskip hmode hqx => ?_,
      fun hstop hmode => ?_, fun a b hstop => ?_, fun a lv ha => ?_⟩, fun a b h => exec_tcCountEdge_idle h,
    fun hlock hmode hstop hskip hphase => ⟨fun htop => ?_, fun k1 htop hcmp hin => ?_⟩, fun hlock => ?_,
    fun rise held => ⟨fun h => exec_tcCapture_drops (.inr h), fun hlock hheld hedge => ⟨fun hroom => ?_, fun hfull => ?_⟩⟩,
    fun e es hcaps hlock => ⟨fun hspill hfull hen => ?_, fun m hm hspill => ?_⟩, fun h => exec_captureSpill_holds (.inr h),
    fun m hm hnone => exec_capturePop_none hm (.inr hnone), fun w h => exec_wcFire_holds (.inr h),
    fun w hw hlock harmed hrun hnext => ?_, fun hlock => ?_, exec_pllLockRestored, exec_pllLockRestored_silent, fun a e lv => ?_⟩
  · refine ⟨_, step_idle hidle, ?_, ?_⟩
    · exact (congrArg State.pending (State.tick_besides s)).trans hidle
    · cases hlock : s.tmr.lock
      · rw [State.tick_unlocked hlock]
        rfl
      · exact State.tick_tb hlock
  · refine ⟨_, exec_tcCountEdge_rising hheld hlock hstop ha b hmode, counted_after_edge ?_ hskip⟩
    rcases hmode with ⟨h, -⟩ | ⟨h, -⟩ <;> omega
  · have hedges : 4 ≤ s.tcMode n := by omega
    exact ⟨⟨_, exec_tcCountEdge_quad hheld hlock hstop hmode hqx (edge_of_inA c.a c.b), counted_after_edge hedges hskip⟩,
      ⟨_, exec_tcCountEdge_quad hheld hlock hstop hmode hqx (edge_of_inB c.a c.b), counted_after_edge hedges hskip⟩⟩
  · exact exec_tcCountEdge_both hheld hlock hstop hmode
  · exact exec_tcCountEdge_stopped hheld hlock hstop a b
  · exact ⟨exec_tcCountEdge_lateA ha hheld lv, exec_tcCountEdge_lateB ha hheld lv⟩
  · obtain ⟨hcnt, hwrap⟩ := State.tick_wraps hlock n.isLt hmode hstop hskip hphase htop
    exact ⟨_, exec_tcWrap hlock hmode hstop hskip hphase htop, hcnt, hwrap, State.tick_tb hlock⟩
  · have hhit : s.tcHit n (if k1 then 0x14 else 0x10) c.period (c.cnt + 1) = true := State.tcHit_of_eq hcmp hin
    obtain ⟨hcnt, hmatch⟩ := State.tick_matches hlock n.isLt hmode hstop hskip hphase htop k1 hhit
    exact ⟨_, exec_tcCompareMatch hlock hmode hstop hskip hphase htop hhit, hcnt, hmatch, State.tick_tb hlock⟩
  · exact ⟨exec_tcWrap_unlocked hlock, fun k1 => exec_tcCompareMatch_unlocked hlock k1, fun r d => exec_tcCapture_drops (.inl hlock),
      exec_captureSpill_holds (.inl hlock), fun m hm => exec_capturePop_none hm (.inl hlock), fun w => exec_wcFire_holds (.inl hlock),
      exec_pllLockLost_unlocked hlock⟩
  · rw [exec_tcCapture hlock hheld hedge, if_neg (Nat.not_le.2 hroom)]
  · obtain ⟨htmr, hovf, hrail⟩ := State.setBits_drive s (State.tcA n 0x20) (i := 5) (n := 112) (by decide) rfl (det n)
    refine ⟨_, exec_tcCapture hlock hheld hedge, ?_⟩
    rw [if_pos hfull]
    exact ⟨State.tc_congr htmr n, hovf, hrail⟩
  · refine ⟨_, exec_captureSpill hcaps hlock hspill hfull, ?_,
      State.qPush_slots (s := s.setTc n { c with caps := es }) hfull hen (spillBytes n e)⟩
    rw [State.tc_congr (State.onlyLog_tmr (State.qPush_only _ _ _)), State.tc_setTc_same]
  · obtain ⟨hvalid, hrise⟩ := State.capWord_flags e.rise
    refine ⟨_, flag 0 true ||| flag 1 e.rise, exec_capturePop hm, ?_⟩
    rw [State.capPop_cons hcaps hlock hspill]
    refine ⟨congrArg TcSt.caps (State.tc_setTc_same _ _ _), rfl, rfl, hvalid, hrise, ?_, ?_, State.reg_setReg _ _ _⟩
    · exact (State.reg_setReg_ne _ _ _ _ (State.tcA_ne (by decide))).trans
        ((State.reg_setReg_ne _ _ _ _ (State.tcA_ne (by decide))).trans (State.reg_setReg _ _ _))
    · exact (State.reg_setReg_ne _ _ _ _ (State.tcA_ne (by decide))).trans (State.reg_setReg _ _ _)
  · obtain ⟨hwc, hstep⟩ := Prod.ext_iff.1 (State.advanceTo_wcPlan s w.isLt (s.wc w).nextV)
    refine ⟨_, exec_wcFire hw hlock harmed hrun hnext, State.wcFire_fired _ _, ?_⟩
    rw [State.wcFire_wc, show (s.advanceTo (s.wc w).nextV).wc w = s.wc w from hwc,
      show (s.advanceTo (s.wc w).nextV).reg (State.wcA w 0xC) = s.reg (State.wcA w 0xC) from hstep]
  · exact ⟨_, exec_pllLockLost hlock, State.setBits_drive _ tmrB (by decide) rfl 0⟩
  · obtain ⟨t, ht, htmr, hseen⟩ := exec_encoderRateInterval s a e lv
    exact ⟨t, ht, (State.axis_congr htmr _).trans (State.islandRate_axis s _), hseen⟩

end Sys2Proof.Machine
end

section
/-! SUPPORT. The current loops and their modems (14 R388-R403): the channel that a DAC update leaves, the byte a modem sends and the
word it answers, and what each command of the unit does. -/
namespace Sys2Proof.Machine

/-! ### Fields of a word -/

theorem ofNat_fld {n : Nat} (w : BitVec n) (lo len : Nat) : BitVec.ofNat len (fld w lo len) = w.extractLsb' lo len := by
  apply BitVec.eq_of_toNat_eq
  simp [fld]

theorem extractLsb'_at_low {len : Nat} (hlen : len ≤ 32) (v : BitVec len) : (at_ 0 len v.toNat).extractLsb' 0 len = v := by
  have hpow : 2 ^ len ∣ 2 ^ 32 := Nat.pow_dvd_pow 2 hlen
  apply BitVec.eq_of_toNat_eq
  rw [BitVec.extractLsb'_toNat, at_, BitVec.toNat_ofNat, Nat.shiftRight_zero, Nat.mod_mod_of_dvd _ hpow, Nat.shiftLeft_zero,
    Nat.mod_mod, Nat.mod_eq_of_lt v.isLt]

/-! ### The byte on the line (14 R397) -/

/-- The number of ones in a byte is odd. -/
def oddOnes (b : Byte) : Bool := (List.range 8).foldl (fun x i => x != b.getLsbD i) false

theorem foldl_xor_not (l : List Bool) : ∀ x : Bool, l.foldl xor (!x) = !(l.foldl xor x) := by
  induction l with
  | nil => exact fun _ => rfl
  | cons y l ih => exact fun x => (congrArg (l.foldl xor) (Bool.not_xor x y)).trans (ih _)

/-- The fold of the frame starts from true: it tells an even number of ones. -/
theorem foldl_bits_true (b : Byte) : ((upFrom 8 0).map (bit b)).foldl xor true = !oddOnes b :=
  (foldl_xor_not _ false).trans (congrArg Bool.not List.foldl_map)

/-- Start bit, data, the parity bit that FSKCFG.PAR names, stop bit. -/
theorem fskFrame_eq (p : BitVec 2) (b : Byte) : fskFrame p.toNat b = [false] ++ (List.range 8).map (fun i => b.getLsbD i)
    ++ (if p = 2 then [] else [if p = 1 then oddOnes b else !oddOnes b]) ++ [true] := by
  have hpar : (p.toNat = 2 ↔ p = 2) ∧ (p.toNat = 1 ↔ p = 1) := by
    revert p
    decide
  simp only [fskFrame, foldl_bits_true, hpar.1, hpar.2, Bool.not_not]
  rfl

/-- The bit that the receiver compares: the tenth of a frame with parity. -/
theorem fskRead_eq (p : BitVec 2) (d : Byte) (parity stop gap : Bool) : fskRead p.toNat d parity stop gap =
    { data := d, perr := decide (p ≠ 2) && ((if p = 1 then oddOnes d else !oddOnes d) != parity), ferr := !stop, gap := gap } := by
  have hpar : (p.toNat != 2) = decide (p ≠ 2) := by
    revert p
    decide
  simp only [fskRead, hpar, fskFrame_eq]
  by_cases h : p = 2
  · simp [h]
  · simp only [if_neg h]
    rfl

namespace State

theorem fskPar_eq (s : State) (n : Nat) : s.fskPar n = ((s.reg (lpA n 8)).extractLsb' 8 2).toNat := by
  simp [fskPar, fld]

/-! ### Reads after a write -/

theorem lp_setLp (s : State) (n k : Nat) (c : LpSt) : (s.setLp n c).lp k = if k = n then c else s.lp k := look_put_eq _ _ _ _ _

theorem lp_setLp_same (s : State) (n : Nat) (c : LpSt) : (s.setLp n c).lp n = c := look_put _ _ _ _

theorem setBits_sets (s : State) (a : Nat) {v : Word} {i : Nat} (h : v.getLsbD i = true) :
    ((s.setBits a v).reg a).getLsbD i = true := by rw [getLsbD_setBits, h, Bool.or_true]

theorem lpA_ne {n o p : Nat} (h : o ≠ p) : lpA n o ≠ lpA n p := mt Nat.add_left_cancel h

/-! ### The conditions and the target at a DAC update (14 R388-R394) -/

theorem liveBits (a b c d e : Bool) :
    (BitVec.ofNat 5 (a.toNat + 2 * b.toNat + 4 * c.toNat + 8 * d.toNat + 16 * e.toNat)).getLsbD 3 = d
    ∧ (BitVec.ofNat 5 (a.toNat + 2 * b.toNat + 4 * c.toNat + 8 * d.toNat + 16 * e.toNat)).getLsbD 4 = e := by
  revert a b c d e
  decide

theorem loopLive_backfeed (s : State) (n : Nat) (c : LpSt) (x : LoopSample) :
    (s.loopLive n c x).live.getLsbD 3 = c.live.getLsbD 3 := (liveBits _ _ _ _ _).1

theorem loopLive_hot (s : State) (n : Nat) (c : LpSt) {x : LoopSample} (h : 150 < x.temp.toInt) :
    (s.loopLive n c x).live.getLsbD 4 = true := (liveBits _ _ _ _ _).2.trans (if_pos h)

section
variable {s : State} {n : Nat} {c : LpSt}

theorem loopTarget_off (h : s.md.mode.loopsOff = true ∨ c.live.getLsbD 3 = true) : s.loopTarget n c = (0, true) := by
  have hbit : bit c.live 3 = c.live.getLsbD 3 := rfl
  rcases h with h | h <;> simp [loopTarget, hbit, h]

theorem loopTarget_alarm (hmode : s.md.mode = .lockout ∨ s.md.mode = .holdup) (hback : c.live.getLsbD 3 = false) :
    s.loopTarget n c = (alarmCode, c.switching) := by
  have hbit : bit c.live 3 = false := hback
  have hon : s.md.mode.loopsOff = false := by rcases hmode with h | h <;> rw [h] <;> rfl
  simp [loopTarget, hbit, hon, hmode]

/-- The modes that follow the application neither switch the loops off nor drive the alarm. -/
theorem loopTarget_follows (hmode : s.md.mode.follows = true) (hback : c.live.getLsbD 3 = false) : s.loopTarget n c
    = if (s.reg (lpA n 0)).getLsbD 0 = false then (0, true)
      else if c.live.getLsbD 4 = true ∨ ((s.reg (lpA n 0)).getLsbD 2 = true ∧ fld (s.reg (lpA n 0xC)) 0 3 ≠ 0)
        then (alarmCode, c.switching)
      else ((s.reg (lpA n 4)).extractLsb' 0 16, c.switching) := by
  have hbit : bit c.live 3 = false := hback
  have hon : s.md.mode.loopsOff = false ∧ ¬ (s.md.mode = .lockout ∨ s.md.mode = .holdup) := by
    revert hmode
    cases s.md.mode <;> decide
  simp only [loopTarget, hbit, hon.1, hon.2, ofNat_fld, Bool.false_eq_true, if_false]
  simp [bit, BitVec.getLsbD]

end

/-! ### One channel in a DAC update -/

/-- The channel that a DAC update with the sample x leaves (14 R390-R393). -/
def loopNext (s : State) (n : Nat) (x : LoopSample) : LpSt :=
  let c := s.loopLive n (s.lp n) x
  let r := (s.setBits (lpA n 0xC) (at_ 0 5 c.live.toNat)).loopTarget n c
  { c with itgt := r.1, hiz := r.2, blank := if r.1 = c.itgt then c.blank else 249 }

theorem loopUpdate_eq (s : State) (n : Nat) (x : LoopSample) : s.loopUpdate n x
    = ((s.setBits (lpA n 0xC) (at_ 0 5 (s.loopNext n x).live.toNat)).setLp n (s.loopNext n x)).driveIf
        ((s.loopNext n x).live != 0) (114 + n) 0 := rfl

/-- A channel with its registers and its source, and the device mode: what its own update reads, and no other changes. -/
def loopPart (n : Nat) (s : State) : LpSt × Src × Mode × (Fin 0x40 → Word) :=
  (s.lp n, s.src (114 + n), s.md.mode, fun o => s.reg (lpA n o))

section
variable {s t : State} {n : Nat}

theorem loopPart_lp (h : t.loopPart n = s.loopPart n) : t.lp n = s.lp n := congrArg Prod.fst h

theorem loopPart_src (h : t.loopPart n = s.loopPart n) : t.src (114 + n) = s.src (114 + n) := congrArg (·.2.1) h

theorem loopPart_mode (h : t.loopPart n = s.loopPart n) : t.md.mode = s.md.mode := congrArg (·.2.2.1) h

theorem loopPart_reg (h : t.loopPart n = s.loopPart n) {o : Nat} (ho : o < 0x40) : t.reg (lpA n o) = s.reg (lpA n o) :=
  congrFun (congrArg (·.2.2.2) h) ⟨o, ho⟩

theorem loopNext_congr (h : t.loopPart n = s.loopPart n) (x : LoopSample) : t.loopNext n x = s.loopNext n x := by
  have hctl : t.reg (lpA n 0) = s.reg (lpA n 0) := loopPart_reg h (by decide)
  have hout : t.reg (lpA n 4) = s.reg (lpA n 4) := loopPart_reg h (by decide)
  have hstat : t.reg (lpA n 0xC) = s.reg (lpA n 0xC) := loopPart_reg h (by decide)
  have hlive : t.loopLive n (t.lp n) x = s.loopLive n (s.lp n) x := by rw [loopLive, hctl, loopPart_lp h, loopLive]
  have htarget (v : Word) (c : LpSt) :
      (t.setBits (lpA n 0xC) v).loopTarget n c = (s.setBits (lpA n 0xC) v).loopTarget n c := by
    simp only [loopTarget, setBits, setReg_md, reg_setReg_eq, loopPart_mode h, hctl, hout, hstat]
  simp only [loopNext, hlive, htarget]

theorem loopUpdate_part_ne (s : State) {k : Nat} (h : k ≠ n) (x : LoopSample) : (s.loopUpdate k x).loopPart n = s.loopPart n := by
  have hsrc : (s.loopUpdate k x).src (114 + n) = s.src (114 + n) := by
    rw [loopUpdate_eq, driveIf]
    split
    · exact drive_src_ne _ 0 (by omega)
    · rfl
  refine Prod.ext ?_ (Prod.ext hsrc (Prod.ext (driveIf_keeps (fun t => t.md.mode) _ _ _ _) (funext fun o => ?_)))
  · exact (driveIf_keeps (fun t => t.lp n) _ _ _ _).trans ((lp_setLp _ _ _ _).trans (if_neg h.symm))
  · refine (driveIf_keeps (fun t => t.reg (lpA n o)) _ _ _ _).trans (reg_setReg_ne _ _ _ _ ?_)
    simp only [lpA]
    omega

theorem loopUpdate_lp (s : State) (n : Nat) (x : LoopSample) : (s.loopUpdate n x).lp n = s.loopNext n x :=
  (driveIf_keeps (fun t => t.lp n) _ _ _ _).trans (lp_setLp_same _ _ _)

theorem loopUpdate_stat (s : State) (n : Nat) (x : LoopSample) : (s.loopUpdate n x).reg (lpA n 0xC)
    = s.reg (lpA n 0xC) ||| at_ 0 5 (s.loopNext n x).live.toNat :=
  (driveIf_keeps (fun t => t.reg (lpA n 0xC)) _ _ _ _).trans (reg_setReg _ _ _)

theorem loopUpdate_conv (s : State) (n : Nat) (x : LoopSample) : (s.loopUpdate n x).conv = s.conv :=
  driveIf_keeps State.conv _ _ _ _

theorem loopUpdate_vlLow (s : State) (n : Nat) (x : LoopSample) : (s.loopUpdate n x).loop.vlLow = s.loop.vlLow :=
  driveIf_keeps (fun t => t.loop.vlLow) _ _ _ _

theorem srcDefault_loop (n : Fin 4) : (srcDefault (114 + n)).isSome = true := by
  revert n
  decide

/-- A condition that stands drives the channel's source (14 R393). -/
theorem loopUpdate_rail (s : State) (n : Fin 4) {x : LoopSample} (h : (s.loopNext n x).live ≠ 0) :
    ((s.loopUpdate n x).src (114 + n)).rail ≠ .ok := by
  rw [loopUpdate_eq, driveIf, if_pos (by simpa using h)]
  exact drive_rail _ _ _ (srcDefault_loop n)

end

/-! ### The four channels of a DAC update -/

/-- One channel's turn in an update of the four. -/
def loopTurn (x : Fin 4 → LoopSample) (t : State) (k : Fin 4) : State := t.loopUpdate k (x k)

section
variable {s : State} (hidle : s.conv.cstate ≠ 1 ∨ s.conv.cmask.testBit 1 = false) (x : Fin 4 → LoopSample) (v : Bool)
include hidle

/-- Without a commit that holds CG1, every channel is updated. -/
theorem dacUpdate_idle : s.dacUpdate (x 0) (x 1) (x 2) (x 3) v
    = (List.finRange 4).foldl (loopTurn x) { s with loop := { s.loop with vlLow := v } } := by
  have upd (t : State) (n : Nat) (y : LoopSample) (h : t.conv = s.conv) :
      (if t.waitsApply 1 (lpA n 0) (lpA (n + 1) 0) then t else t.loopUpdate n y) = t.loopUpdate n y :=
    if_neg (by simp [waitsApply_idle (h.symm ▸ hidle)])
  simp only [dacUpdate]
  rw [upd _ 0, upd _ 1, upd _ 2, upd _ 3]
  · rfl
  all_goals simp only [loopUpdate_conv]

end

/-! ### The target that an update leaves -/

section
variable {s : State} {n : Nat} {x : LoopSample}

theorem loopNext_backfeed : (s.loopNext n x).live.getLsbD 3 = (s.lp n).live.getLsbD 3 := loopLive_backfeed s n _ x

theorem loopNext_off (h : s.md.mode.loopsOff = true ∨ (s.lp n).live.getLsbD 3 = true) :
    (s.loopNext n x).itgt = 0 ∧ (s.loopNext n x).hiz = true := by
  rw [← loopNext_backfeed (x := x)] at h
  exact Prod.ext_iff.1 (loopTarget_off (s := s.setBits (lpA n 0xC) _) (c := s.loopLive n (s.lp n) x) h)

theorem loopNext_alarm (hmode : s.md.mode = .lockout ∨ s.md.mode = .holdup) (hback : (s.lp n).live.getLsbD 3 = false) :
    (s.loopNext n x).itgt = alarmCode :=
  congrArg Prod.fst (loopTarget_alarm (s := s.setBits (lpA n 0xC) _) hmode (loopNext_backfeed.trans hback))

/-- In the modes that follow the application the channel's CTL and its over-temperature decide (14 R390, R394). -/
theorem loopNext_follows (hmode : s.md.mode.follows = true) (hback : (s.lp n).live.getLsbD 3 = false) :
    ((s.reg (lpA n 0)).getLsbD 0 = false → (s.loopNext n x).itgt = 0 ∧ (s.loopNext n x).hiz = true)
    ∧ ((s.reg (lpA n 0)).getLsbD 0 = true → (s.loopNext n x).live.getLsbD 4 = true → (s.loopNext n x).itgt = alarmCode)
    ∧ ((s.reg (lpA n 0)).getLsbD 0 = true → (s.reg (lpA n 0)).getLsbD 2 = false → (s.loopNext n x).live.getLsbD 4 = false →
        (s.loopNext n x).itgt = (s.reg (lpA n 4)).extractLsb' 0 16) := by
  have htarget := loopTarget_follows (s := s.setBits (lpA n 0xC) (at_ 0 5 (s.loopNext n x).live.toNat)) (n := n)
    (c := s.loopNext n x) hmode (loopNext_backfeed.trans hback)
  have hctl (v : Word) : (s.setBits (lpA n 0xC) v).reg (lpA n 0) = s.reg (lpA n 0) := reg_setReg_ne _ _ _ _ (lpA_ne (by decide))
  have hout (v : Word) : (s.setBits (lpA n 0xC) v).reg (lpA n 4) = s.reg (lpA n 4) := reg_setReg_ne _ _ _ _ (lpA_ne (by decide))
  rw [hctl, hout] at htarget
  refine ⟨fun h0 => ?_, fun h0 h4 => ?_, fun h0 h2 h4 => ?_⟩
  · rw [if_pos h0] at htarget
    exact Prod.ext_iff.1 htarget
  · rw [if_neg (by simp [h0]), if_pos (.inl h4)] at htarget
    exact congrArg Prod.fst htarget
  · rw [if_neg (by simp [h0]), if_neg (not_or.2 ⟨Bool.eq_false_iff.1 h4, fun h => Bool.eq_false_iff.1 h2 h.1⟩)] at htarget
    exact congrArg Prod.fst htarget

end

/-! ### The FIFOs of the modem (14 R398, R403) -/

section
variable {s : State} {n : Nat}

theorem loopTxd_room (h : (s.lp n).tx.length < 64) (v : Word) :
    s.loopTxd n v = (s.setLp n { s.lp n with tx := (s.lp n).tx ++ [v.extractLsb' 0 8] }, stOk) := by
  rw [loopTxd, if_neg (Nat.not_le.2 h), ofNat_fld]

theorem loopTxd_full (h : 64 ≤ (s.lp n).tx.length) (v : Word) :
    s.loopTxd n v = (s.setBits (lpA n 0xC) (flag 7 true), stIgnored) := if_pos h

theorem loopTxcmd_abort {v : Word} (h : v.getLsbD 1 = true) : s.loopTxcmd n v
    = ((s.setBits (lpA n 0xC) (flag 5 true ||| flag 6 true)).setLp n
        { s.lp n with tx := [], ph := if txBusy (s.lp n) then .aborted else .idle }, stOk) := if_pos h

theorem loopTxcmd_start {v : Word} (h0 : v.getLsbD 0 = true) (h1 : v.getLsbD 1 = false) : s.loopTxcmd n v
    = if txBusy (s.lp n) = true ∨ (s.lp n).tx = [] then (s, stOk) else (s.setLp n { s.lp n with ph := .pending }, stOk) := by
  have hbit0 : bit v 0 = true := h0
  have hbit1 : bit v 1 = false := h1
  have hstart : (bit v 0 && !txBusy (s.lp n) && !(s.lp n).tx.isEmpty) = true ↔ ¬ (txBusy (s.lp n) = true ∨ (s.lp n).tx = []) := by
    simp [hbit0]
  simp only [loopTxcmd, hbit1, Bool.false_eq_true, if_false, hstart, ite_not]

theorem loopRxd_nil (h : (s.lp n).rx = []) : s.loopRxd n = (s, 0) := by simp only [loopRxd, h]

/-- The word of RXD has the layout of TSINFO: a byte, a valid bit and three flags. -/
theorem loopRxd_cons {e : RxEnt} {es : List RxEnt} (h : (s.lp n).rx = e :: es) : s.loopRxd n
    = (s.setLp n { s.lp n with rx := es }, stampWord { tag := e.data, portB := e.perr, ring2 := e.ferr, stamp := 0 } e.gap) := by
  simp only [loopRxd, h]
  rfl

theorem fskMuted_of_busy (h : txBusy (s.lp n) = true) : s.fskMuted n = true := by simp [fskMuted, h]

/-- A byte that began after the mute is not muted: at its end its length less half a bit has passed since (14 R399). -/
theorem fskMuted_past (hbusy : txBusy (s.lp n) = false)
    (h : (s.lp n).muteTo = 0 ∨ (s.lp n).muteTo + (if (s.reg (lpA n 8)).extractLsb' 8 2 = 2 then 19 else 21) * 166667 / 2 ≤ s.now) :
    s.fskMuted n = false := by
  have hpar : s.fskPar n = 2 ↔ (s.reg (lpA n 8)).extractLsb' 8 2 = 2 := by
    rw [fskPar_eq]
    exact BitVec.toNat_inj (y := 2)
  rcases h with h | h
  · simp [fskMuted, hbusy, h]
  · simp only [fskMuted, hbusy, hpar, Bool.false_or, Bool.and_eq_false_imp, decide_eq_true_iff]
    exact fun hlt => absurd h (Nat.not_le.2 hlt)

end

end State

/-! ### The commands on the driver -/

section
open State
variable {s : State} (hidle : s.conv.cstate ≠ 1 ∨ s.conv.cmask.testBit 1 = false) (x : Fin 4 → LoopSample) (v : Bool)
include hidle

theorem exec_loopDacUpdate : exec (.loopDacUpdate (x 0) (x 1) (x 2) (x 3) v) s
    = .next ((List.finRange 4).foldl (loopTurn x) { s with loop := { s.loop with vlLow := v } }) := by
  have hreach : s.reach 1 = s := reach_idle (by rcases hidle with h | h <;> simp [h])
  refine congrArg Host.Outcome.next ?_
  rw [hreach, dacUpdate_idle hidle]

/-- Every channel is what its own update makes of it, with its sticky bits and its source. -/
theorem exec_loopDacUpdate_channel (n : Fin 4) : ∃ t, exec (.loopDacUpdate (x 0) (x 1) (x 2) (x 3) v) s = .next t
    ∧ t.loop.vlLow = v ∧ t.lp n = s.loopNext n (x n)
    ∧ t.reg (lpA n 0xC) = s.reg (lpA n 0xC) ||| at_ 0 5 (s.loopNext n (x n)).live.toNat
    ∧ ((s.loopNext n (x n)).live ≠ 0 → (t.src (114 + n)).rail ≠ .ok) := by
  obtain ⟨u, hu, hpart⟩ := foldl_item (loopPart n) (loopTurn x)
    (fun t k hk => loopUpdate_part_ne t (Fin.val_ne_of_ne hk) (x k)) (List.nodup_finRange 4) (List.mem_finRange n)
    { s with loop := { s.loop with vlLow := v } }
  have hchan : u.loopPart n = s.loopPart n := hu
  have hnext : u.loopNext n (x n) = s.loopNext n (x n) := loopNext_congr hchan (x n)
  refine ⟨_, exec_loopDacUpdate hidle x v, ?_, ?_, ?_, fun hlive => ?_⟩
  · exact foldl_keeps (fun t => t.loop.vlLow) (loopTurn x) (fun t k => loopUpdate_vlLow t k (x k)) _ _
  · exact (loopPart_lp hpart).trans ((loopUpdate_lp u n _).trans hnext)
  · refine (loopPart_reg hpart (by decide)).trans ((loopUpdate_stat u n _).trans ?_)
    rw [hnext, loopPart_reg hchan (by decide)]
  · exact (loopPart_src hpart).symm ▸ loopUpdate_rail u n (hnext.symm ▸ hlive)

end

section
open State
variable {s : State} {n : Fin 4}

theorem exec_loopBackfeed : ∃ t, exec (.loopBackfeed n) s = .next t ∧ (t.lp n).live.getLsbD 3 = true ∧ (t.lp n).hiz = true
    ∧ (t.reg (lpA n 0xC)).getLsbD 3 = true ∧ (t.src (114 + n)).rail ≠ .ok := by
  have hlp : (((s.setLp n { s.lp n with live := (s.lp n).live ||| 8, hiz := true }).setBits (lpA n 0xC) (flag 3 true)).drive
      (114 + n) 0).lp n = { s.lp n with live := (s.lp n).live ||| 8, hiz := true } :=
    (drive_keeps (fun t => t.lp n) _ _ _).trans (lp_setLp_same _ _ _)
  refine ⟨_, rfl, ?_, congrArg LpSt.hiz hlp, ?_, drive_rail _ _ _ (srcDefault_loop n)⟩
  · rw [hlp]
    exact BitVec.getLsbD_or.trans (Bool.or_true _)
  · rw [drive_keeps (fun t => t.reg (lpA n 0xC))]
    exact setBits_sets _ _ (by decide)

/-! ### The commands of a master -/

section
variable {m : Fin 10} (hm : s.revoked m = false) (v : Word)
include hm

theorem exec_transmitData : exec (.transmitData m n v) s = .next ((s.loopTxd n v).1.answer (s.loopTxd n v).2 []) :=
  congrArg Host.Outcome.next (if_neg (by simp [hm]))

theorem exec_rxdPop : exec (.rxdPop m n) s = .next ((s.loopRxd n).1.answer stOk [(s.loopRxd n).2]) :=
  congrArg Host.Outcome.next (if_neg (by simp [hm]))

theorem exec_fskTxStart (h : v.getLsbD 1 = false) : exec (.fskTxStart m n v) s
    = .next ((if txBusy (s.lp n) = true ∨ (s.lp n).tx = [] then s else s.setLp n { s.lp n with ph := .pending }).answer stOk []) := by
  have h0 : (v ||| 1).getLsbD 0 = true := BitVec.getLsbD_or.trans (Bool.or_true _)
  have h1 : (v ||| 1).getLsbD 1 = false := BitVec.getLsbD_or.trans (by rw [h]; rfl)
  refine congrArg Host.Outcome.next ((if_neg (by simp [hm])).trans ?_)
  rw [loopTxcmd_start h0 h1]
  split <;> rfl

theorem exec_fskAbort : exec (.fskAbort m n v) s
    = .next (((s.setBits (lpA n 0xC) (flag 5 true ||| flag 6 true)).setLp n
        { s.lp n with tx := [], ph := if txBusy (s.lp n) then .aborted else .idle }).answer stOk []) := by
  have h1 : (v ||| 2).getLsbD 1 = true := BitVec.getLsbD_or.trans (Bool.or_true _)
  refine congrArg Host.Outcome.next ((if_neg (by simp [hm])).trans ?_)
  rw [loopTxcmd_abort h1]

end

/-! ### The modem's own steps (14 R396-R399) -/

theorem exec_fskTxBegin {b : Byte} {bs : List Byte} (hph : (s.lp n).ph = .pending) (htx : (s.lp n).tx = b :: bs) :
    exec (.fskTxBegin n) s = .next (if (s.lp n).cd = true ∨ s.fskOn n = false then s
      else s.setLp n { s.lp n with tx := bs, ph := .sending (some b), line := fskFrame (s.fskPar n) b }) := by
  show execFskTxBegin n s = _
  simp only [execFskTxBegin, hph, htx, Bool.or_eq_true, Bool.not_eq_true']

section
variable (hoff : s.fskOn n = false)
include hoff

theorem exec_fskTxByte_off : exec (.fskTxByte n) s = .next s := congrArg Host.Outcome.next (if_pos (by simp [hoff]))

theorem exec_fskTxEnd_off : exec (.fskTxEnd n) s = .next s := congrArg Host.Outcome.next (if_pos (by simp [hoff]))

theorem exec_fskCarrierDetect_off (up : Bool) : exec (.fskCarrierDetect n up) s = .next s :=
  congrArg Host.Outcome.next (if_neg (by simp [hoff]))

end

theorem exec_fskRxByte_drops (h : s.fskOn n = false ∨ (s.lp n).cd = false ∨ txBusy (s.lp n) = true) (d : Byte) (parity stop : Bool) :
    exec (.fskRxByte n d parity stop) s = .next s := by
  refine congrArg Host.Outcome.next (if_pos ?_)
  rcases h with h | h | h
  · simp [h]
  · simp [h]
  · simp [fskMuted_of_busy h]

section
variable (hon : s.fskOn n = true)
include hon

theorem exec_fskTxByte_last {x : Option Byte} (hph : (s.lp n).ph = .sending x) (htx : (s.lp n).tx = []) :
    exec (.fskTxByte n) s = .next (s.setLp n { s.lp n with ph := .trailer, line := [] }) := by
  refine congrArg Host.Outcome.next ((if_neg (by simp [hon])).trans ?_)
  simp only [hph, htx]

theorem exec_fskTxByte_next {x : Option Byte} {b : Byte} {bs : List Byte} (hph : (s.lp n).ph = .sending x)
    (htx : (s.lp n).tx = b :: bs) : exec (.fskTxByte n) s
      = .next (s.setLp n { s.lp n with tx := bs, ph := .sending (some b), line := fskFrame (s.fskPar n) b }) := by
  refine congrArg Host.Outcome.next ((if_neg (by simp [hon])).trans ?_)
  simp only [hph, htx]

theorem exec_fskTxEnd_aborted (hph : (s.lp n).ph = .aborted) : exec (.fskTxEnd n) s
    = .next (s.setLp n { s.lp n with ph := .idle, line := [], muteTo := s.now + 333334 }) := by
  refine congrArg Host.Outcome.next ((if_neg (by simp [hon])).trans ?_)
  rw [hph]
  rfl

theorem exec_fskTxEnd_trailer (hph : (s.lp n).ph = .trailer) : exec (.fskTxEnd n) s
    = .next ((s.setLp n { s.lp n with ph := .idle, line := [], muteTo := s.now + 333334 }).setBits (lpA n 0xC) (flag 5 true)) := by
  refine congrArg Host.Outcome.next ((if_neg (by simp [hon])).trans ?_)
  rw [hph]
  rfl

theorem exec_fskCarrierDetect (up : Bool) : exec (.fskCarrierDetect n up) s
    = .next (s.setLp n { s.lp n with cd := up, gap := (up && !(s.lp n).cd) || (s.lp n).gap }) :=
  congrArg Host.Outcome.next (if_pos hon)

theorem exec_fskRxByte (hcd : (s.lp n).cd = true) (hmute : s.fskMuted n = false) (d : Byte) (parity stop : Bool) :
    exec (.fskRxByte n d parity stop) s
      = .next (if 64 ≤ (s.lp n).rx.length then (s.setLp n { s.lp n with gap := false }).setBits (lpA n 0xC) (flag 8 true)
        else s.setLp n { s.lp n with
          rx := (s.lp n).rx ++ [fskRead (s.fskPar n) d parity stop (s.lp n).gap], gap := false }) :=
  congrArg Host.Outcome.next (if_neg (by simp [hon, hcd, hmute]))

end

end

/-- Settles O49: a DAC update channel by channel, then the modem's FIFOs, its transmission and its reception. -/
theorem loopCommands : Obligations.LoopCommands := by
  unfold Obligations.LoopCommands
  intro s n c par odd frame
  have hframe (b : Byte) : fskFrame (s.fskPar n) b = frame b := by
    rw [State.fskPar_eq]
    exact fskFrame_eq par b
  have hread (d : Byte) (parity stop gap : Bool) : fskRead (s.fskPar n) d parity stop gap =
      { data := d, perr := decide (par ≠ 2) && ((if par = 1 then odd d else !odd d) != parity), ferr := !stop, gap := gap } := by
    rw [State.fskPar_eq]
    exact fskRead_eq par d parity stop gap
  refine ⟨fun x v hidle => ?_, exec_loopBackfeed, rfl, rfl, fun m v hm => ⟨fun hroom => ?_, fun hfull => ?_, fun h hbusy htx => ?_,
      fun h hidle => ?_, ?_⟩, fun b bs hph htx => ⟨fun hcd hon => ?_, fun h => ?_⟩,
    fun hoff => ⟨exec_fskTxByte_off hoff, exec_fskTxEnd_off hoff, exec_fskCarrierDetect_off hoff, exec_fskRxByte_drops (.inl hoff)⟩,
    fun hon => ⟨fun y hph => ⟨exec_fskTxByte_last hon hph, fun b bs htx => ?_⟩, fun hph => ?_, exec_fskTxEnd_aborted hon,
      exec_fskCarrierDetect hon, fun d parity stop => ⟨fun h => exec_fskRxByte_drops (.inr h) d parity stop,
        fun hcd hbusy hmute => ⟨fun hroom => ?_, fun hfull => ?_⟩⟩⟩,
    fun m hm => ⟨fun hrx => ?_, fun e es hrx => ?_⟩⟩
  · obtain ⟨t, ht, hvl, hlp, hstat, hrail⟩ := exec_loopDacUpdate_channel hidle x v n
    refine ⟨t, ht, hvl, ?_⟩
    rw [hlp, hstat, BitVec.extractLsb'_or, extractLsb'_at_low (by decide)]
    exact ⟨rfl, rfl, rfl, State.loopNext_off, State.loopNext_alarm, State.loopLive_hot s n _, rfl, hrail, State.loopNext_follows⟩
  · rw [exec_transmitData hm, State.loopTxd_room hroom]
  · rw [exec_transmitData hm, State.loopTxd_full hfull]
    exact ⟨_, rfl, rfl, State.setBits_sets _ _ (by decide), rfl⟩
  · rw [exec_fskTxStart hm v h, if_neg (not_or.2 ⟨Bool.eq_false_iff.1 hbusy, htx⟩)]
  · rw [exec_fskTxStart hm v h, if_pos hidle]
  · exact ⟨_, exec_fskAbort hm v, State.lp_setLp_same _ _ _, State.setBits_sets _ _ (by decide),
      State.setBits_sets _ _ (by decide), rfl⟩
  · rw [exec_fskTxBegin hph htx, if_neg (not_or.2 ⟨Bool.eq_false_iff.1 hcd, by simp [hon]⟩), hframe]
  · rw [exec_fskTxBegin hph htx, if_pos h]
  · rw [exec_fskTxByte_next hon hph htx, hframe]
  · exact ⟨_, exec_fskTxEnd_trailer hon hph, State.lp_setLp_same _ _ _, State.setBits_sets _ _ (by decide)⟩
  · refine ⟨_, exec_fskRxByte hon hcd (State.fskMuted_past hbusy hmute) d parity stop, ?_⟩
    rw [if_neg (Nat.not_le.2 hroom), State.lp_setLp_same, hread]
    exact ⟨rfl, rfl⟩
  · refine ⟨_, exec_fskRxByte hon hcd (State.fskMuted_past hbusy hmute) d parity stop, ?_⟩
    rw [if_pos hfull]
    refine ⟨?_, State.setBits_sets _ _ (by decide)⟩
    show (State.lp (s.setLp n { c with gap := false }) n).rx = c.rx
    rw [State.lp_setLp_same]
  · rw [exec_rxdPop hm, State.loopRxd_nil hrx]
  · refine ⟨_, (s.loopRxd n).2, exec_rxdPop hm, ?_⟩
    rw [State.loopRxd_cons hrx]
    obtain ⟨hvalid, hperr, hferr, hgap⟩ := State.stampWord_flags ⟨e.data, e.perr, e.ferr, 0⟩ e.gap
    exact ⟨State.lp_setLp_same _ _ _, rfl, rfl, State.stampWord_tag _ _, hvalid, hperr, hferr, hgap⟩

end Sys2Proof.Machine
end

section
/-! SUPPORT. The queue of commands and the memory at reset. -/
namespace Sys2Proof.Machine

/-- Settles O1: `step` matches on the queue, whose front is c. -/
theorem stepRunsFront : Obligations.StepRunsFront := by
  unfold Obligations.StepRunsFront
  intro s c rest hc
  simp only [step, hc]

/-- Settles O59: no byte is listed at reset. -/
theorem resetMemoryCanonical : Obligations.ResetMemoryCanonical := by
  unfold Obligations.ResetMemoryCanonical
  rfl

end Sys2Proof.Machine
end

section
/-! SUPPORT. What the operations of the model leave of the memory: all of it, for every operation that writes no byte. One lemma per
operation, in the order of the model's files. -/
namespace Sys2Proof.Machine
-- One proof at a time: the whole text is elaborated in one process, whose memory is bounded.
set_option Elab.async false

namespace State

@[simp] theorem mem_ite {c : Prop} [Decidable c] (t u : State) : (if c then t else u).mem = if c then t.mem else u.mem :=
  apply_ite State.mem c t u

@[simp] theorem fst_mem_ite {β : Type} {c : Prop} [Decidable c] (t u : State × β) :
    (if c then t else u).1.mem = if c then t.1.mem else u.1.mem := apply_ite (fun r => r.1.mem) c t u

@[simp] theorem mem_foldl {α : Type} {f : State → α → State} (h : ∀ t a, (f t a).mem = t.mem) (l : List α) (s : State) :
    (l.foldl f s).mem = s.mem := foldl_keeps State.mem f h l s

/-- What a read of register o of block b does by the kind of register that it names. -/
def readAt (s : State) (m b o : ℕ) : Option RegKind → State × ℕ × Word
  | none => (s, stDecode, 0)
  | some .wo => (s, stOk, 0)
  | some _ => ((s.regGet m b o).1, stOk, (s.regGet m b o).2)

/-! ### The operations of Machine/Ops -/

@[simp] theorem setBits_mem (s : State) (a : ℕ) (v : Word) : (s.setBits a v).mem = s.mem := rfl
@[simp] theorem clrBits_mem (s : State) (a : ℕ) (v : Word) : (s.clrBits a v).mem = s.mem := rfl
@[simp] theorem countUp_mem (s : State) (a : ℕ) : (s.countUp a).mem = s.mem := rfl
@[simp] theorem satUp_mem (s : State) (a lo len : ℕ) : (s.satUp a lo len).mem = s.mem := rfl

@[simp] theorem onCore_mem (s : State) (k : ℕ) (f : Cpu → Cpu) : (s.onCore k f).mem = s.mem := by
  unfold onCore
  split <;> rfl

/-! ### The operations of Machine/Flags -/

@[simp] theorem setZ_mem (s : State) (p : Proc) (b : Bool) : (s.setZ p b).mem = s.mem := by simp [setZ]

/-! ### The operations of Machine/Source -/

@[simp] theorem driveItem_mem (s : State) (n : ℕ) (detail : BitVec 16) : (s.driveItem n detail).mem = s.mem := by simp [driveItem]

@[simp] theorem driveIf_mem (s : State) (c : Bool) (n : ℕ) (detail : BitVec 16) : (s.driveIf c n detail).mem = s.mem := by
  simp [driveIf]

/-! ### The operations of Machine/Entry -/

@[simp] theorem endGrant_mem (s : State) (w : Worker) : (s.endGrant w).mem = s.mem := rfl
@[simp] theorem tally_mem (s : State) (p : Proc) : (s.tally p).mem = s.mem := rfl
@[simp] theorem flowOn_mem (s : State) (p : Proc) (last : Word) : (s.flowOn p last).mem = s.mem := by simp [flowOn]
@[simp] theorem flowTo_mem (s : State) (p : Proc) (t : Word) : (s.flowTo p t).mem = s.mem := by simp [flowTo]

@[simp] theorem enterExc_mem (s : State) (p : Proc) (e : Exc) (imp : Bool) (epc : Word) : (s.enterExc p e imp epc).mem = s.mem := by
  unfold enterExc
  split <;> simp

@[simp] theorem raiseExc_mem (s : State) (p : Proc) (e : Exc) : (s.raiseExc p e).mem = s.mem := by
  unfold raiseExc
  split <;> simp

@[simp] theorem settleStep_mem (s : State) (p : Proc) : (s.settleStep p).mem = s.mem := by
  unfold settleStep
  dsimp only
  repeat' split
  all_goals simp

/-! ### The operations of Machine/Queue -/

@[simp] theorem qReserve_mem (s : State) (q m : ℕ) : (s.qReserve q m).1.mem = s.mem := by simp [qReserve]

@[simp] theorem qPublish_mem (s : State) (q m : ℕ) (a : Word) : (s.qPublish q m a).1.mem = s.mem := by
  unfold qPublish
  split <;> rfl

@[simp] theorem qTake_mem (s : State) (q m : ℕ) : (s.qTake q m).1.mem = s.mem := by
  unfold qTake
  dsimp only
  split <;> simp

@[simp] theorem qRelease_mem (s : State) (q m : ℕ) (a : Word) : (s.qRelease q m a).1.mem = s.mem := by
  unfold qRelease
  split <;> rfl

@[simp] theorem qDrop_mem (s : State) (q : ℕ) : (s.qDrop q).mem = s.mem := rfl
@[simp] theorem qRevoke_mem (s : State) (m : ℕ) : (s.qRevoke m).mem = s.mem :=
  foldl_keeps State.mem _ (fun _ _ => setQueue_mem _ _ _) _ s
@[simp] theorem qReopen_mem (s : State) (m : ℕ) : (s.qReopen m).mem = s.mem := by simp [qReopen]

/-! ### The operations of Machine/Memory -/

@[simp] theorem memStat_mem (s : State) (b : ℕ) : (s.memStat b).mem = s.mem := rfl
@[simp] theorem recResume_mem (s : State) : s.recResume.mem = s.mem := rfl

/-! ### The operations of Machine/Collector -/

@[simp] theorem pendIrq_mem (s : State) (cores n : ℕ) : (s.pendIrq cores n).mem = s.mem := by simp [pendIrq]
@[simp] theorem hostFail_mem (s : State) (status : ℕ) (a : Word) : (s.hostFail status a).mem = s.mem := by simp [hostFail]

@[simp] theorem endPortTags_mem (s : State) (m : ℕ) : (s.endPortTags m).mem = s.mem := by
  unfold endPortTags
  dsimp only
  repeat' split
  all_goals simp

@[simp] theorem endTags_mem (s : State) (m : ℕ) : (s.endTags m).mem = s.mem := by
  unfold endTags
  dsimp only
  repeat' split
  all_goals simp

@[simp] theorem reopen_mem (s : State) (m : ℕ) : (s.reopen m).mem = s.mem := by simp [reopen]

/-! ### The operations of Machine/Mode -/

@[simp] theorem putMode_mem (s : State) (m : Mode) (cause : ℕ) : (s.putMode m cause).mem = s.mem := rfl
@[simp] theorem openAll_mem (s : State) : s.openAll.mem = s.mem := rfl
@[simp] theorem zonesOff_mem (s : State) : s.zonesOff.mem = s.mem := rfl
@[simp] theorem releaseOff_mem (s : State) : s.releaseOff.mem = s.mem := rfl

@[simp] theorem releaseCores_mem (s : State) : s.releaseCores.mem = s.mem := by
  unfold releaseCores
  split <;> rfl

@[simp] theorem stopCores_mem (s : State) : s.stopCores.mem = s.mem := rfl
@[simp] theorem stopJobs_mem (s : State) : s.stopJobs.mem = s.mem := rfl

@[simp] theorem abortSlice_mem (s : State) : s.abortSlice.mem = s.mem := by
  unfold abortSlice
  split <;> rfl

@[simp] theorem settleAll_mem (s : State) : s.settleAll.mem = s.mem := rfl
@[simp] theorem gioNote_mem (s : State) : s.gioNote.mem = s.mem := by simp [gioNote]
@[simp] theorem gioMode_mem (s : State) (old : Mode) : (s.gioMode old).mem = s.mem := by simp [gioMode]

@[simp] theorem leave_mem (s : State) : s.leave.mem = s.mem := by
  unfold leave
  split <;> rfl

@[simp] theorem sesRenew_mem (s : State) : s.sesRenew.mem = s.mem := by
  unfold sesRenew
  split <;> rfl

@[simp] theorem enter_mem (s : State) (old : Mode) : (s.enter old).mem = s.mem := by
  unfold enter
  split <;> simp

@[simp] theorem serviceExit_mem (s : State) : s.serviceExit.mem = s.mem := by simp [serviceExit]
@[simp] theorem firstWindow_mem (s : State) (code : ℕ) : (s.firstWindow code).mem = s.mem := rfl

/-! ### The operations of Machine/Fault -/

@[simp] theorem noteRaise_mem (s : State) (n rc : ℕ) : (s.noteRaise n rc).mem = s.mem := rfl
@[simp] theorem optional_mem (s : State) (n : ℕ) : (s.optional n).mem = s.mem := by simp [optional]
@[simp] theorem badMode_mem (s : State) (chB : Bool) : (s.badMode chB).mem = s.mem := by simp [badMode]
@[simp] theorem phyBad_mem (s : State) (phy : ℕ) : (s.phyBad phy).mem = s.mem := by simp [phyBad]

@[simp] theorem noteOutside_mem (s : State) (n : ℕ) (detail : BitVec 16) : (s.noteOutside n detail).mem = s.mem := by
  unfold noteOutside
  dsimp only
  repeat' split
  all_goals simp

@[simp] theorem latchNow_mem (s : State) : s.latchNow.mem = s.mem := by simp [latchNow]

/-! ### The operations of Machine/Timer -/

@[simp] theorem safePoint_mem (s : State) (mask : ℕ) : (s.safePoint mask).mem = s.mem := by simp [safePoint]
@[simp] theorem setPin_mem (s : State) (p : ℕ) (b : Bool) : (s.setPin p b).mem = s.mem := rfl
@[simp] theorem tcActs_mem (s : State) (n : ℕ) (wrap m0 m1 : Bool) : (s.tcActs n wrap m0 m1).mem = s.mem := by simp [tcActs]
@[simp] theorem axisStep_mem (s : State) (n : ℕ) (turned : Bool) : (s.axisStep n turned).mem = s.mem := rfl
@[simp] theorem tcCount_mem (s : State) (n : ℕ) (down : Bool) (off : ℕ → Bool) : (s.tcCount n down off).mem = s.mem := rfl
@[simp] theorem tcStep_mem (s : State) (n : ℕ) (down : Bool) : (s.tcStep n down).mem = s.mem := by simp [tcStep]
@[simp] theorem tcPresc_mem (s : State) (n : ℕ) : (s.tcPresc n).mem = s.mem := by simp [tcPresc]
@[simp] theorem tcTick_mem (s : State) (n : ℕ) : (s.tcTick n).mem = s.mem := by simp [tcTick]
@[simp] theorem tcApplyTick_mem (s : State) (n : ℕ) (wrote : ℕ → Bool) : (s.tcApplyTick n wrote).mem = s.mem := by simp [tcApplyTick]
@[simp] theorem tickWith_mem (s : State) (wrote : ℕ → ℕ → Bool) : (s.tickWith wrote).mem = s.mem := by simp [tickWith]
@[simp] theorem snapNow_mem (s : State) : s.snapNow.mem = s.mem :=
  keeps_of_finer (g := State.mem) (snapNow_besides s) fun _ => rfl
@[simp] theorem tick_mem (s : State) : s.tick.mem = s.mem := by simp [tick]

@[simp] theorem ticks_mem : ∀ (k : ℕ) (s : State), (ticks k s).mem = s.mem
  | 0, _ => rfl
  | k + 1, s => (ticks_mem k s.tick).trans (tick_mem s)

@[simp] theorem skipTicks_mem (s : State) (k : ℕ) : (s.skipTicks k).mem = s.mem := rfl
@[simp] theorem advanceTo_mem (s : State) (t : ℕ) : (s.advanceTo t).mem = s.mem := by simp [advanceTo]

@[simp] theorem capPop_mem (s : State) (n : ℕ) : (s.capPop n).1.mem = s.mem := by
  unfold capPop
  dsimp only
  repeat' split
  all_goals simp

@[simp] theorem wcFire_mem (s : State) (w : ℕ) : (s.wcFire w).mem = s.mem := by simp [wcFire]
@[simp] theorem wcLoad_mem (s : State) (w : ℕ) : (s.wcLoad w).mem = s.mem := by simp [wcLoad]
@[simp] theorem tcApply_mem (s : State) (n : ℕ) (oldCtl oldPins oldPresc : Word) (wrote : ℕ → Bool) (e : TcEvents) :
    (s.tcApply n oldCtl oldPins oldPresc wrote e).mem = s.mem := by simp [tcApply]
@[simp] theorem idleTick_mem (s : State) : (idleTick s).mem = s.mem := by simp [idleTick]

/-! ### The operations of Machine/Images -/

@[simp] theorem takeReactions_mem (s : State) (t : ℕ) : (s.takeReactions t).mem = s.mem := rfl
@[simp] theorem tcmPut_mem (s : State) (a : ℕ) (bs : List Byte) : (s.tcmPut a bs).mem = s.mem := rfl
@[simp] theorem loadProgram_mem (s : State) (b : ℕ) : (s.loadProgram b).mem = s.mem := by simp [loadProgram]

/-! ### The operations of Machine/Otp -/

@[simp] theorem senseWord_mem (s : State) (w : ℕ) : (s.senseWord w).mem = s.mem := by
  unfold senseWord
  split <;> rfl

@[simp] theorem repairs_mem (s : State) : s.repairs.mem = s.mem := by
  unfold repairs
  refine foldl_keeps State.mem _ (fun t i => ?_) _ s
  split <;> rfl

@[simp] theorem tallyMarks_mem (s : State) : s.tallyMarks.mem = s.mem := by simp [tallyMarks]

@[simp] theorem noteMargin_mem (s : State) : s.noteMargin.mem = s.mem := by
  unfold noteMargin
  split <;> simp

@[simp] theorem otpSense_mem (s : State) (weak : List WeakWord) : (s.otpSense weak).mem = s.mem := by simp [otpSense]
@[simp] theorem jobStat_mem (s : State) (a : ℕ) (ok : Bool) (result : ℕ) : (s.jobStat a ok result).mem = s.mem := rfl
@[simp] theorem otpFail_mem (s : State) (result w : ℕ) : (s.otpFail result w).mem = s.mem := rfl
@[simp] theorem otpDone_mem (s : State) : s.otpDone.mem = s.mem := rfl

@[simp] theorem otpCmd_mem (s : State) (op arg : ℕ) (repair : Bool) (key : ℕ) (refusal : Option (ℕ × ℕ)) :
    (s.otpCmd op arg repair key refusal).1.mem = s.mem := by
  unfold otpCmd
  dsimp only
  repeat' split
  all_goals simp

@[simp] theorem otpStartProg_mem (s : State) (w key : ℕ) : (s.otpStartProg w key).1.mem = s.mem := by simp [otpStartProg]
@[simp] theorem otpStartFinal_mem (s : State) (r key : ℕ) : (s.otpStartFinal r key).1.mem = s.mem := by simp [otpStartFinal]
@[simp] theorem otpStartStrengthen_mem (s : State) (w : ℕ) (repair : Bool) (key : ℕ) :
    (s.otpStartStrengthen w repair key).1.mem = s.mem := by simp [otpStartStrengthen]

@[simp] theorem otpJobCmd_mem (s : State) (v : Word) : (s.otpJobCmd v).1.mem = s.mem := by
  unfold otpJobCmd
  split <;> simp

@[simp] theorem burnBits_mem (s : State) (e : BurnEnv) (w : ℕ) (code : BitVec 39) : (s.burnBits e w code).1.mem = s.mem :=
  senseWord_mem _ _

@[simp] theorem burnWord_mem (e : BurnEnv) (b : Burn) (w : ℕ) (code : BitVec 39) : (Burn.word e b w code).s.mem = b.s.mem := by
  unfold Burn.word
  split
  · rfl
  · split
    · rfl
    · exact burnBits_mem _ _ _ _

theorem burnAll_mem {α : Type} {f : Burn → α → Burn} (h : ∀ b a, (f b a).s.mem = b.s.mem) (l : List α) (b : Burn) :
    (l.foldl f b).s.mem = b.s.mem :=
  List.foldlRecOn (motive := fun c : Burn => c.s.mem = b.s.mem) l f rfl (fun c hc a _ => (h c a).trans hc)

@[simp] theorem burnFinal_mem (e : BurnEnv) (b0 : Burn) (b n : ℕ) : (burnFinal e b0 b n).s.mem = b0.s.mem := by
  unfold burnFinal
  refine (burnWord_mem _ _ _ _).trans (burnAll_mem (fun x i => ?_) _ b0)
  dsimp only
  split
  · rfl
  · split
    · rfl
    · exact burnWord_mem _ _ _ _

@[simp] theorem burnStrengthen_mem (e : BurnEnv) (repair : Bool) (b : Burn) (w : ℕ) :
    (burnStrengthen e repair b w).s.mem = b.s.mem := by
  unfold burnStrengthen
  split
  · rfl
  · split
    · rfl
    · extract_lets value weak weak' r c
      have hc : c.s.mem = b.s.mem := burnBits_mem _ _ _ _
      clear_value c
      split
      · exact hc
      · split
        · exact hc
        · split
          · exact hc
          · dsimp only
            split <;> simp [hc]

@[simp] theorem otpBurn_mem (s : State) (j : OtpJob) (e : BurnEnv) : (s.otpBurn j e).s.mem = s.mem := by
  unfold otpBurn
  dsimp only
  split
  · exact burnWord_mem _ _ _ _
  · split
    · exact burnFinal_mem _ _ _ _
    · rfl
  · exact burnAll_mem (burnStrengthen_mem e _) _ _

/-! ### The operations of Machine/Axes -/

@[simp] theorem setAxis_mem (s : State) (i : ℕ) (v : AxisSt) : (s.setAxis i v).mem = s.mem := rfl
@[simp] theorem bindAxis_mem (s : State) (i : ℕ) : (s.bindAxis i).mem = s.mem := by simp [bindAxis]
@[simp] theorem bindAxes_mem (s : State) : s.bindAxes.mem = s.mem := by simp [bindAxes]
@[simp] theorem setIo_mem (s : State) (o : ℕ) (v : Word) : (s.setIo o v).mem = s.mem := rfl
@[simp] theorem captureAxis_mem (s : State) (i : ℕ) : (s.captureAxis i).mem = s.mem := by simp [captureAxis]
@[simp] theorem captureAxes_mem (s : State) : s.captureAxes.mem = s.mem := by simp [captureAxes]
@[simp] theorem islandRate_mem (s : State) (i : ℕ) : (s.islandRate i).mem = s.mem := by simp [islandRate]

/-! ### The operations of Machine/Link -/

@[simp] theorem setSide_mem (s : State) (ld : Bool) (v : SideSt) : (s.setSide ld v).mem = s.mem := rfl
@[simp] theorem linkFault_mem (s : State) (detail : ℕ) : (s.linkFault detail).mem = s.mem := by simp [linkFault]
@[simp] theorem linkError_mem (s : State) (ld : Bool) (e : LinkErr) : (s.linkError ld e).mem = s.mem := by simp [linkError]

@[simp] theorem linkTake_mem (s : State) (ld : Bool) (e : LinkErr) (orig : ℕ) : (s.linkTake ld e orig).1.mem = s.mem := by
  simp [linkTake]

@[simp] theorem linkSend_mem (s : State) (fs : List RidgeFrame) : (s.linkSend fs).mem = s.mem := rfl
@[simp] theorem remoteAsk_mem (s : State) (d core : ℕ) (a : Word) (data : List Byte) (isLoad : Bool) :
    (s.remoteAsk d core a data isLoad).mem = s.mem := rfl
@[simp] theorem remoteAlso_mem (s : State) (d core : ℕ) (a : Word) (data : List Byte) (isLoad : Bool) :
    (s.remoteAlso d core a data isLoad).mem = s.mem := rfl

/-! ### The operations of Machine/Sched -/

@[simp] theorem unready_mem (s : State) (x1 : ℕ) : (s.unready x1).mem = s.mem := rfl
@[simp] theorem enqueue_mem (s : State) (x1 : ℕ) : (s.enqueue x1).mem = s.mem := rfl
@[simp] theorem requeueHead_mem (s : State) (k x2 : ℕ) : (s.requeueHead k x2).mem = s.mem := rfl
@[simp] theorem saveCtx_mem (s : State) (k x2 : ℕ) : (s.saveCtx k x2).mem = s.mem := rfl
@[simp] theorem loadCtx_mem (s : State) (k x2 : ℕ) : (s.loadCtx k x2).mem = s.mem := by simp [loadCtx]
@[simp] theorem idleCore_mem (s : State) (k : ℕ) : (s.idleCore k).mem = s.mem := by simp [idleCore]

/-- A decision to grant changes the governor alone. -/
theorem decideAsk_mem {s t : State} {w : Worker} {cls : ℕ} {cost : ℤ} {forced : Bool} (h : s.decideAsk w cls cost forced = some t) :
    t.mem = s.mem := by
  unfold decideAsk at h
  dsimp only at h
  split at h
  · cases h; rfl
  · split at h
    · cases h
    · split at h
      · cases h; rfl
      · split at h
        · cases h; rfl
        · cases h

@[simp] theorem deny_mem (s : State) (w : Worker) (cls : ℕ) (cost : ℤ) : (s.deny w cls cost).mem = s.mem := by
  unfold deny
  dsimp only
  repeat' split
  all_goals simp

@[simp] theorem unwait_mem (s : State) (w : Worker) : (s.unwait w).mem = s.mem := rfl

@[simp] theorem admitJob_mem (s : State) (n cls : ℕ) (forced : Bool) : (s.admitJob n cls forced).1.mem = s.mem := by
  unfold admitJob
  split
  · rfl
  · split
    · rfl
    · split
      next h => exact (unwait_mem _ _).trans (decideAsk_mem h)
      next => exact deny_mem _ _ _ _

@[simp] theorem redecideJob_mem (s : State) (n : ℕ) (a : Ask) : (s.redecideJob n a).mem = s.mem := by
  unfold redecideJob
  split
  next h => exact (unwait_mem _ _).trans (decideAsk_mem h)
  next => rfl

@[simp] theorem dispatch_mem (s : State) (k : ℕ) : (s.dispatch k).mem = s.mem := by
  unfold dispatch
  split
  · rfl
  · dsimp only
    split
    next h => simp [decideAsk_mem h]
    next => exact deny_mem _ _ _ _

@[simp] theorem dispatchIdle_mem (s : State) : s.dispatchIdle.mem = s.mem := by simp [dispatchIdle]

@[simp] theorem preempt_mem (s : State) (k : ℕ) : (s.preempt k).mem = s.mem := by
  unfold preempt
  dsimp only
  split
  · split
    · rfl
    · split
      next => exact deny_mem _ _ _ _
      next h => simp [decideAsk_mem h]
  · rfl

@[simp] theorem settleOnce_mem (s : State) : s.settleOnce.mem = s.mem := by simp [settleOnce]
@[simp] theorem settleReady_mem (s : State) : s.settleReady.mem = s.mem := by simp [settleReady]
@[simp] theorem makeReady_mem (s : State) (x1 : ℕ) : (s.makeReady x1).mem = s.mem := by simp [makeReady]
@[simp] theorem switchOut_mem (s : State) (k : ℕ) : (s.switchOut k).mem = s.mem := by simp [switchOut]

@[simp] theorem regrant_mem (s : State) (k : ℕ) : (s.regrant k).mem = s.mem := by
  unfold regrant
  split
  · rfl
  · split
    · rfl
    · dsimp only
      split
      next h => simp [decideAsk_mem h]
      next => simp

@[simp] theorem goesOn_mem (s : State) (k : ℕ) : (s.goesOn k).mem = s.mem := by simp [goesOn]

@[simp] theorem resumeCore_mem (s : State) (k : ℕ) : (s.resumeCore k).mem = s.mem := by
  unfold resumeCore
  split <;> simp

@[simp] theorem redecideCore_mem (s : State) (k : ℕ) : (s.redecideCore k).mem = s.mem := by simp [redecideCore]

@[simp] theorem redecide_mem (s : State) : s.redecide.mem = s.mem := by
  unfold redecide
  refine foldl_keeps State.mem _ (fun t a => ?_) _ s
  split
  · exact redecideCore_mem t _
  · exact redecideJob_mem t _ a

@[simp] theorem dispatchNext_mem (s : State) (k : ℕ) : (s.dispatchNext k).mem = s.mem := by simp [dispatchNext]
@[simp] theorem leaveCtx_mem (s : State) (k : ℕ) : (s.leaveCtx k).mem = s.mem := by simp [leaveCtx]
@[simp] theorem abandon_mem (s : State) (j : ℕ) : (s.abandon j).mem = s.mem := by simp [abandon]

@[simp] theorem killNow_mem (s : State) (j : ℕ) : (s.killNow j).mem = s.mem := by
  unfold killNow
  dsimp only
  repeat' split
  all_goals simp

@[simp] theorem killOn_mem (s : State) (j : ℕ) : (s.killOn j).mem = s.mem := by
  unfold killOn
  split <;> simp

/-! ### The operations of Machine/Bst -/

@[simp] theorem allDone_mem (s : State) : s.allDone.mem = s.mem := foldl_keeps State.mem _ (fun _ _ => setSeq_mem _ _ _) _ s
@[simp] theorem cmpFail_mem (s : State) (i part : ℕ) : (s.cmpFail i part).mem = s.mem := by simp [cmpFail]

@[simp] theorem limiterSeen_mem (s : State) (i : ℕ) (cur : Option (BitVec 16)) : (s.limiterSeen i cur).mem = s.mem := by
  unfold limiterSeen
  split <;> simp

@[simp] theorem startSlice_mem (s : State) (n : ℕ) : (s.startSlice n).mem = s.mem := by simp [startSlice]

@[simp] theorem pickSlice_mem (e : SliceEnv) : ∀ (ns : List ℕ) (s : State), (pickSlice e ns s).mem = s.mem
  | [], _ => rfl
  | n :: ns, s => by
    unfold pickSlice
    refine keeps_ite State.mem (pickSlice_mem e ns s) (keeps_ite State.mem ((pickSlice_mem e ns _).trans rfl) ?_)
    split <;> simp

/-! ### The operations of Machine/Gio -/

@[simp] theorem gioKick_mem (s : State) (v : Word) : (s.gioKick v).1.mem = s.mem := by
  unfold gioKick
  dsimp only
  repeat' split
  all_goals simp

@[simp] theorem gioClearWd_mem (s : State) : s.gioClearWd.mem = s.mem := by simp [gioClearWd]
@[simp] theorem gioApply_mem (s : State) (wrote : ℕ → Bool) : (s.gioApply wrote).mem = s.mem := by simp [gioApply]

/-! ### The operations of Machine/Inputs -/

@[simp] theorem setInChan_mem (s : State) (chB : Bool) (n : ℕ) (c : InChan) : (s.setInChan chB n c).mem = s.mem := rfl
@[simp] theorem spareBad_mem (s : State) (next : SparePh) : (s.spareBad next).mem = s.mem := by simp [spareBad]
@[simp] theorem setSpare_mem (s : State) (p : SparePh) : (s.setSpare p).mem = s.mem := rfl

/-! ### The operations of Machine/Outputs -/

@[simp] theorem noteSupply_mem (s : State) (g : Bool) : (s.noteSupply g).mem = s.mem := by simp [noteSupply]
@[simp] theorem demand1_mem (s : State) (chB : Bool) (k : ℕ) (on : Bool) : (s.demand1 chB k on).mem = s.mem := rfl

@[simp] theorem applyDemands_mem (s : State) (chB : Bool) (dmd : BitVec 12) : (s.applyDemands chB dmd).mem = s.mem := by
  unfold applyDemands
  simp only [noteSupply_mem]
  exact foldl_keeps State.mem _ (fun t k => demand1_mem t chB k _) _ s

@[simp] theorem compare1_mem (s : State) (chB : Bool) (k : ℕ) (rb mid bdrop : Bool) :
    (s.compare1 chB k rb mid bdrop).mem = s.mem := by
  unfold compare1
  dsimp only
  repeat' split
  all_goals simp

@[simp] theorem senseOutputs_mem (s : State) (chB : Bool) (rb mid bdrop : BitVec 12) :
    (s.senseOutputs chB rb mid bdrop).mem = s.mem := by simp [senseOutputs]
@[simp] theorem outFlag_mem (s : State) (k f : ℕ) : (s.outFlag k f).mem = s.mem := by simp [outFlag]
@[simp] theorem outSlot_mem (s : State) : s.outSlot.mem = s.mem := by simp [outSlot]
@[simp] theorem postOnTests_mem (s : State) (fail : BitVec 12) : (s.postOnTests fail).mem = s.mem := by simp [postOnTests]
@[simp] theorem driverRail_mem (s : State) (chB bad : Bool) : (s.driverRail chB bad).mem = s.mem := by rw [driverRail_eq]

/-! ### The operations of Machine/Rings -/

@[simp] theorem setRing_mem (s : State) (r2 : Bool) (r : RingSt) : (s.setRing r2 r).mem = s.mem := by simp [setRing]
@[simp] theorem setPort_mem (s : State) (r2 pB : Bool) (p : PortSt) : (s.setPort r2 pB p).mem = s.mem := by simp [setPort]
@[simp] theorem ringCount_mem (s : State) (r2 : Bool) (o : ℕ) : (s.ringCount r2 o).mem = s.mem := rfl
@[simp] theorem egress_mem (s : State) (r2 pB : Bool) (f : OutFrame) : (s.egress r2 pB f).mem = s.mem := by simp [egress]
@[simp] theorem originate_mem (s : State) (r2 toA toB : Bool) (prio qno : ℕ) (dest : List Byte) (cls : ℕ) (body : List Byte)
  (ts : Option Byte) : (s.originate r2 toA toB prio qno dest cls body ts).mem = s.mem := by simp [originate]

@[simp] theorem sendPdu_mem (s : State) (r2 : Bool) (cls : ℕ) (pdu : List Byte) : (s.sendPdu r2 cls pdu).mem = s.mem := by
  simp [sendPdu]

@[simp] theorem sendEntry_mem (s : State) (r2 : Bool) (q : ℕ) (e : List Byte) : (s.sendEntry r2 q e).mem = s.mem := by
  simp [sendEntry]

@[simp] theorem stampTx_mem (s : State) (r2 pB : Bool) (tag : Byte) : (s.stampTx r2 pB tag).mem = s.mem := by simp [stampTx]
@[simp] theorem wholeFalls_mem (s : State) (r2 : Bool) : (s.wholeFalls r2).mem = s.mem := by simp [wholeFalls]

@[simp] theorem checkSeen_mem (s : State) (r2 pB : Bool) (src : List Byte) : (s.checkSeen r2 pB src).mem = s.mem := by
  simp [checkSeen]

@[simp] theorem lineWhole_mem (s : State) (r2 : Bool) : (s.lineWhole r2).mem = s.mem := by simp [lineWhole]

@[simp] theorem tsinfo_mem (s : State) : s.tsinfo.1.mem = s.mem := by
  unfold tsinfo
  split <;> rfl

/-! ### The operations of Machine/Sessions -/

@[simp] theorem takeSessions_mem (s : State) (b : ℕ) : (s.takeSessions b).mem = s.mem :=
  foldl_keeps State.mem _ (fun _ _ => setSess_mem _ _ _) _ s
@[simp] theorem setSesCh_mem (s : State) (chB : Bool) (n : ℕ) (c : SesChan) : (s.setSesCh chB n c).mem = s.mem := rfl
@[simp] theorem acceptCopy_mem (s : State) (chB : Bool) (n m : ℕ) (useEpoch : Bool) (c : Copy) :
    (s.acceptCopy chB n m useEpoch c).mem = s.mem := by simp [acceptCopy]

@[simp] theorem checkSuane_mem (s : State) (chB : Bool) (n : ℕ) (pdu : List Byte) : (s.checkSuane chB n pdu).mem = s.mem := by
  simp [checkSuane]

@[simp] theorem checkHsf_mem (s : State) (chB : Bool) (n : ℕ) (pdu : List Byte) : (s.checkHsf chB n pdu).mem = s.mem := by
  simp [checkHsf]

@[simp] theorem sesArrive_mem (s : State) (r2 : Bool) (cls : ℕ) (pdu : List Byte) : (s.sesArrive r2 cls pdu).mem = s.mem := by
  unfold sesArrive
  split <;> simp

@[simp] theorem deliver_mem (s : State) (chB : Bool) (n : ℕ) : (s.deliver chB n).mem = s.mem := rfl
@[simp] theorem sesStrobe1_mem (s : State) (chB : Bool) (n : ℕ) : (s.sesStrobe1 chB n).mem = s.mem := rfl
@[simp] theorem sesIdle_mem (s : State) (chB : Bool) (n : ℕ) : (s.sesIdle chB n).mem = s.mem := rfl
@[simp] theorem noteSesfs_mem (s : State) : s.noteSesfs.mem = s.mem := rfl
@[simp] theorem sesStrobeA_mem (s : State) : s.sesStrobeA.mem = s.mem := by simp [sesStrobeA]
@[simp] theorem sesStrobeB_mem (s : State) : s.sesStrobeB.mem = s.mem := by simp [sesStrobeB]
@[simp] theorem sesSendA_mem (s : State) (n : ℕ) (fs : Bool) (cyc : Word) : (s.sesSendA n fs cyc).mem = s.mem := by simp [sesSendA]
@[simp] theorem sesOutA_mem (s : State) (present : Bool) : (s.sesOutA present).mem = s.mem := by simp [sesOutA]

@[simp] theorem sesSendB_mem (s : State) (n o : ℕ) (fs : Bool) (cyc : BitVec 32) : (s.sesSendB n o fs cyc).mem = s.mem := by
  simp [sesSendB]

@[simp] theorem sesOutB_mem (s : State) (present : Bool) : (s.sesOutB present).mem = s.mem := by simp [sesOutB]
@[simp] theorem sesCompare_mem (s : State) (n : ℕ) (same : Bool) : (s.sesCompare n same).mem = s.mem := by simp [sesCompare]
@[simp] theorem suaneSlot_mem (s : State) (n tj cyc : ℕ) : (s.suaneSlot n tj cyc).mem = s.mem := by simp [suaneSlot]
@[simp] theorem hsfSlot_mem (s : State) (n : ℕ) : (s.hsfSlot n).mem = s.mem := by simp [hsfSlot]

@[simp] theorem sesRead_mem (s : State) (m o : ℕ) : (s.sesRead m o).1.mem = s.mem := by
  unfold sesRead
  dsimp only
  repeat' split
  all_goals simp

/-! ### The operations of Machine/Trust -/

@[simp] theorem setJrn_mem (s : State) (kind : ℕ) (j : JrnKind) : (s.setJrn kind j).mem = s.mem := by
  unfold setJrn
  split <;> rfl

@[simp] theorem clearWin_mem (s : State) : s.clearWin.mem = s.mem := rfl

@[simp] theorem setWin_mem (s : State) (bs : List Byte) : (s.setWin bs).mem = s.mem := by
  have store (ws : List Word) : ∀ x : State × ℕ,
      (ws.foldl (fun (x : State × ℕ) w => (x.1.setReg x.2 w, x.2 + 4)) x).1.mem = x.1.mem := by
    induction ws with
    | nil => exact fun _ => rfl
    | cons w ws ih => exact fun x => ih _
  exact store _ _

@[simp] theorem extend_mem (s : State) (c : ℕ) (x2 : List Byte) : (s.extend c x2).mem = s.mem := rfl

@[simp] theorem noteRefused_mem (s : State) (kind slot : ℕ) (rs : List (ℕ × ℕ)) : (s.noteRefused kind slot rs).mem = s.mem := by
  simp [noteRefused]

@[simp] theorem tryTake_mem (kind : ℕ) : ∀ (ks : List ℕ) (s : State) (alt rb : Bool), (s.tryTake kind ks alt rb).1.mem = s.mem
  | [], _, _, _ => rfl
  | k :: ks, s, alt, rb => by
    unfold tryTake
    split
    · rfl
    · exact (tryTake_mem kind ks _ _ _).trans (noteRefused_mem _ _ _ _)

@[simp] theorem takeKind_mem (s : State) (kind : ℕ) : (s.takeKind kind).1.mem = s.mem := by simp [takeKind]
@[simp] theorem measure_mem (s : State) (x1 : ℕ × ℕ × ℕ × ℕ) : (s.measure x1).mem = s.mem := rfl
@[simp] theorem measureAll_mem (s : State) (kind slot : ℕ) : (s.measureAll kind slot).mem = s.mem :=
  foldl_keeps State.mem measure measure_mem _ s
@[simp] theorem makeKey_mem (s : State) : s.makeKey.mem = s.mem := rfl

@[simp] theorem truEnd_mem (s : State) (ok : Bool) (result : ℕ) (keep : Bool) : (s.truEnd ok result keep).mem = s.mem := by
  simp [truEnd]

@[simp] theorem sign_mem (s : State) (msg : List Byte) : (s.sign msg).1.mem = s.mem := rfl
@[simp] theorem quote_mem (s : State) (mask : ℕ) (nonce : List Byte) : (s.quote mask nonce).1.mem = s.mem := rfl
@[simp] theorem runAuth_mem (s : State) : s.runAuth.mem = s.mem := by simp [runAuth]
@[simp] theorem debugDrop_mem (s : State) : s.debugDrop.mem = s.mem := by simp [debugDrop]
@[simp] theorem setStandby_mem (s : State) (kind : ℕ) (v : SlotImg) : (s.setStandby kind v).mem = s.mem := by simp [setStandby]
@[simp] theorem runUpbegin_mem (s : State) (kind : ℕ) : (s.runUpbegin kind).mem = s.mem := by simp [runUpbegin]

@[simp] theorem runUpact_mem (s : State) (kind : ℕ) : (s.runUpact kind).mem = s.mem := by
  unfold runUpact
  dsimp only
  repeat' split
  all_goals simp

@[simp] theorem truFault_mem (s : State) : s.truFault.mem = s.mem := by simp [truFault]

@[simp] theorem advance_mem (s : State) (e : BurnEnv) : (s.advance e).mem = s.mem := by
  have ends (b : Burn) (hb : b.s.mem = s.mem) : (if b.failed.isSome then
        { (b.s.setBits truB (flag 5 true)) with tru := { b.s.tru with advPend := false } }.truFault
      else if b.stopped then b.s
      else { b.s with tru := { b.s.tru with advPend := false } }).mem = s.mem := by
    refine keeps_ite State.mem ?_ (keeps_ite State.mem hb hb)
    rw [truFault_mem]
    exact hb
  exact ends _ (burnAll_mem (fun c p => burnWord_mem e c _ _) _ _)

@[simp] theorem extCmd_mem (s : State) (v : Word) : (s.extCmd v).1.mem = s.mem := by simp [extCmd]
@[simp] theorem newChal_mem (s : State) : s.newChal.1.mem = s.mem := rfl

/-! ### The operations of Machine/Loader -/

@[simp] theorem streamImage_mem (s : State) (bs : List Byte) : (s.streamImage bs).mem = s.mem := rfl
@[simp] theorem refusePair_mem (s : State) : s.refusePair.mem = s.mem := rfl

@[simp] theorem runLoader_mem (s : State) (a len : ℕ) : (s.runLoader a len).mem = s.mem := by
  unfold runLoader
  dsimp only
  split <;> simp

/-! ### The operations of Machine/Lattice -/

@[simp] theorem stepCell_mem (prev : Word) (encs : List (BitVec 16)) (s : State) (c : ℕ) : (stepCell prev encs s c).mem = s.mem := by
  simp [stepCell]

@[simp] theorem evalCells_mem (s : State) (prev : Word) (encs : List (BitVec 16)) : (s.evalCells prev encs).mem = s.mem := by
  simp [evalCells]

@[simp] theorem buildPayloads_mem (s : State) (zones : Word) : (s.buildPayloads zones).mem = s.mem :=
  foldl_keeps State.mem _ (fun _ _ => setSess_mem _ _ _) _ s
@[simp] theorem scanBank_mem (s : State) : s.scanBank.mem = s.mem := by simp [scanBank]
@[simp] theorem outPointB_mem (s : State) (rc : ℕ) : (s.outPointB rc).mem = s.mem := by simp [outPointB]
@[simp] theorem noVerdictB_mem (s : State) : s.noVerdictB.mem = s.mem := by simp [noVerdictB]
@[simp] theorem noteEdm_mem (s : State) (n : ℕ) : (s.noteEdm n).mem = s.mem := by simp [noteEdm]

/-! ### The operations of Machine/ModeRows -/

@[simp] theorem startClock_mem (s : State) (straps : BitVec 3) (pll : Bool) : (s.startClock straps pll).mem = s.mem := rfl
@[simp] theorem postFaults_mem (s : State) (e : PostEnv) : (s.postFaults e).mem = s.mem := by simp [postFaults]
@[simp] theorem refuseMode_mem (s : State) (r : ℕ) : (s.refuseMode r).mem = s.mem := rfl
@[simp] theorem refuseTrel_mem (s : State) (r : ℕ) : (s.refuseTrel r).1.mem = s.mem := rfl
@[simp] theorem testRel_mem (s : State) (v : Word) : (s.testRel v).1.mem = s.mem := by simp [testRel]
@[simp] theorem testRelBy_mem (s : State) (m : ℕ) (v : Word) : (s.testRelBy m v).1.mem = s.mem := by simp [testRelBy]

@[simp] theorem trelSlot_mem (s : State) : s.trelSlot.mem = s.mem := by
  unfold trelSlot
  dsimp only
  repeat' split
  all_goals simp

/-! ### The operations of Machine/Cycle -/

@[simp] theorem setImgSb_mem (s : State) (n : ℕ) (v : BitVec 2) : (s.setImgSb n v).mem = s.mem := rfl
@[simp] theorem latchImage_mem (s : State) (mentry : Bool) : (s.latchImage mentry).mem = s.mem := by simp [latchImage]
@[simp] theorem outPointA_mem (s : State) : s.outPointA.mem = s.mem := by simp [outPointA]
@[simp] theorem noVerdictA_mem (s : State) : s.noVerdictA.mem = s.mem := by simp [noVerdictA]

@[simp] theorem resumeA_mem (s : State) : s.resumeA.mem = s.mem := by
  unfold resumeA
  split <;> rfl

@[simp] theorem setFlta_mem (s : State) (v : BitVec 6) : (s.setFlta v).mem = s.mem := by simp [setFlta]
@[simp] theorem publish_mem (s : State) : s.publish.mem = s.mem := rfl
@[simp] theorem setCycle_mem (s : State) (code : ℕ) : (s.setCycle code).mem = s.mem := rfl
@[simp] theorem startRestore_mem (s : State) : s.startRestore.mem = s.mem := rfl

theorem ioWrite_mem {s t : State} {a : ℕ} {v : Word} (h : s.ioWrite a v = some t) : t.mem = s.mem := by
  unfold ioWrite at h
  dsimp only at h
  repeat' split at h
  all_goals cases h
  all_goals simp

@[simp] theorem runtimeWrites_mem (s : State) (a : ℕ) (v : Word) : (s.runtimeWrites a v).mem = s.mem := by
  refine keeps_ite State.mem rfl ?_
  split
  next h => exact ioWrite_mem h
  next => exact raiseExc_mem _ _ _

@[simp] theorem putRecord_mem (s : State) (zones : Word) (dmd : BitVec 12) : (s.putRecord zones dmd).mem = s.mem := rfl
@[simp] theorem dueFault_mem (s : State) (i : ℕ) (c : Bool) : (s.dueFault i c).mem = s.mem := by simp [dueFault]
@[simp] theorem endEpilogue_mem (s : State) : s.endEpilogue.mem = s.mem := by simp [endEpilogue]
@[simp] theorem programRecord_mem (s : State) : s.programRecord.mem = s.mem := by simp [programRecord]
@[simp] theorem entryRecord_mem (s : State) : s.entryRecord.mem = s.mem := rfl
@[simp] theorem handler_mem (s : State) : s.handler.mem = s.mem := by simp [handler]

theorem writeRecord_mem {s : State} {build : State → State} (h : (build s).mem = s.mem) : (s.writeRecord build).mem = s.mem := by
  simp [writeRecord, h]

@[simp] theorem epilogue_mem (s : State) : s.epilogue.mem = s.mem := by
  unfold epilogue
  split
  · exact keeps_ite State.mem (writeRecord_mem (programRecord_mem s)) rfl
  · exact keeps_ite State.mem rfl (writeRecord_mem (entryRecord_mem s))
  · exact writeRecord_mem (putRecord_mem s _ _)
  · rfl

@[simp] theorem callProgram_mem (s : State) : s.callProgram.mem = s.mem := rfl
@[simp] theorem prologue_mem (s : State) : s.prologue.mem = s.mem := by simp [prologue]

@[simp] theorem wakeRead_mem (s : State) : s.wakeRead.mem = s.mem := by
  unfold wakeRead
  dsimp only
  repeat' split
  all_goals simp

@[simp] theorem compareItems_mem (s : State) (k limit n : ℕ) (same : ℕ → Bool) (get : ColSt → Tab ℕ) (set : ColSt → Tab ℕ → ColSt) :
    (s.compareItems k limit n same get set).mem = s.mem := by simp [compareItems]

@[simp] theorem compareRecords_mem (s : State) (ra rb : Option Record) : (s.compareRecords ra rb).mem = s.mem := by
  simp [compareRecords]

@[simp] theorem lateChecks_mem (s : State) (ra rb : Option Record) : (s.lateChecks ra rb).mem = s.mem := by simp [lateChecks]
@[simp] theorem paceChecks_mem (s : State) (paceA paceB : ℕ) : (s.paceChecks paceA paceB).mem = s.mem := by simp [paceChecks]

@[simp] theorem sioPut_mem : ∀ (ws : List Word) (s : State) (o : ℕ), (s.sioPut o ws).mem = s.mem
  | [], _, _ => rfl
  | w :: ws, s, o => sioPut_mem ws (s.setReg (sioB + o) w) (o + 4)

@[simp] theorem mirrors_mem (s : State) (ra rb : Option Record) (paceA paceB : ℕ) : (s.mirrors ra rb paceA paceB).mem = s.mem := by
  unfold mirrors
  extract_lets cyc p o two s1 s2 s3 s4 s5 s6 s7 s8 zone
  have h1 : s1.mem = s.mem := sioPut_mem _ _ _
  have h2 : s2.mem = s1.mem := (sioPut_mem _ _ _).trans (sioPut_mem _ _ _)
  have h3 : s3.mem = s2.mem := sioPut_mem _ _ _
  have h4 : s4.mem = s3.mem := (sioPut_mem _ _ _).trans (sioPut_mem _ _ _)
  have h5 : s5.mem = s4.mem := sioPut_mem _ _ _
  have h6 : s6.mem = s5.mem := sioPut_mem _ _ _
  have h7 : s7.mem = s6.mem := sioPut_mem _ _ _
  have h8 : s8.mem = s7.mem := (sioPut_mem _ _ _).trans (sioPut_mem _ _ _)
  rw [setReg_mem, setReg_mem, h8, h7, h6, h5, h4, h3, h2, h1]

@[simp] theorem verdictA_mem (s : State) (ra rb : Option Record) (paceA : ℕ) : (s.verdictA ra rb paceA).mem = s.mem := rfl

@[simp] theorem lineReadback_mem (s : State) (reactDiff modeDiff : Bool) : (s.lineReadback reactDiff modeDiff).mem = s.mem := by
  simp [lineReadback]

/-! ### The operations of Machine/Governor -/

@[simp] theorem govClamp_mem (s : State) (o len lo hi : ℕ) : (s.govClamp o len lo hi).mem = s.mem := by simp [govClamp]
@[simp] theorem govApply_mem (s : State) : s.govApply.mem = s.mem := by simp [govApply]

@[simp] theorem govSensors_mem (s : State) (e : GovEnv) : (s.govSensors e).mem = s.mem := by
  unfold govSensors
  extract_lets t bad calm okRun err src u sel v
  have ht : t.mem = s.mem := by
    refine foldl_keeps State.mem _ (fun _ _ => ?_) _ s
    rfl
  have hu : u.mem = t.mem := rfl
  have hv : v.mem = u.mem := keeps_ite State.mem (setBits_mem _ _ _) rfl
  exact (foldl_keeps State.mem _ (fun w n => keeps_ite State.mem (drive_mem w _ _) rfl) _ v).trans (hv.trans (hu.trans ht))

@[simp] theorem govCap_mem (s : State) (pPkg cap : ℕ) : (s.govCap pPkg cap).mem = s.mem := by simp [govCap]

@[simp] theorem govWindow_mem (s : State) (e : GovEnv) : (s.govWindow e).mem = s.mem := by
  unfold govWindow
  extract_lets pPkg cap e0 e1 k t tm tlim theta excess peff res left t1 t2 t3 t4 t5 t6 t7 t8 g t9
  have h : t.mem = s.mem := (govCap_mem _ _ _).trans (govSensors_mem s e)
  have h1 : t1.mem = t.mem := countUp_mem _ _
  have h2 : t2.mem = t1.mem := setReg_mem _ _ _
  have h3 : t3.mem = t2.mem := setReg_mem _ _ _
  have h4 : t4.mem = t3.mem := setReg_mem _ _ _
  have h5 : t5.mem = t4.mem := setReg_mem _ _ _
  have h6 : t6.mem = t5.mem := setReg_mem _ _ _
  have h7 : t7.mem = t6.mem := setReg_mem _ _ _
  have h8 : t8.mem = t7.mem := foldl_keeps State.mem _ (fun _ _ => setReg_mem _ _ _) _ _
  rw [redecide_mem, ← h, ← h1, ← h2, ← h3, ← h4, ← h5, ← h6, ← h7, ← h8]

@[simp] theorem giveBack_mem (s : State) (fromRes : Bool) (back : ℤ) : (s.giveBack fromRes back).mem = s.mem := rfl

@[simp] theorem settleGrant_mem (s : State) (w : Worker) (energy : ℤ) : (s.settleGrant w energy).mem = s.mem := by
  unfold settleGrant
  split
  · rfl
  · extract_lets back src t gov u
    have ht : t.mem = s.mem := giveBack_mem _ _ _
    have hu : u.mem = t.mem := by
      clear_value t
      unfold u
      split
      · split
        · exact keeps_ite State.mem rfl rfl
        · refine keeps_ite State.mem rfl ?_
          dsimp only
          split
          next h => exact decideAsk_mem h
          next => exact keeps_ite State.mem rfl (by simp)
      · rfl
    exact keeps_ite State.mem ((redecide_mem u).trans (hu.trans ht)) (hu.trans ht)

@[simp] theorem endJobs_mem (s : State) : s.endJobs.mem = s.mem := rfl

@[simp] theorem goHot_mem (s : State) : s.goHot.mem = s.mem := by
  unfold goHot
  refine (foldl_keeps State.mem _ (fun t k => ?_) _ _).trans (endJobs_mem _)
  split
  · rfl
  · rfl
  · exact keeps_ite State.mem rfl (by simp)
  · rfl

/-! ### The operations of Machine/Loop -/

@[simp] theorem loopUpdate_mem (s : State) (n : ℕ) (x2 : LoopSample) : (s.loopUpdate n x2).mem = s.mem := by simp [loopUpdate]
@[simp] theorem dacUpdate_mem (s : State) (s0 s1 s2 s3 : LoopSample) (vlLow : Bool) :
    (s.dacUpdate s0 s1 s2 s3 vlLow).mem = s.mem := by simp [dacUpdate]
@[simp] theorem loopTxd_mem (s : State) (n : ℕ) (v : Word) : (s.loopTxd n v).1.mem = s.mem := by simp [loopTxd]
@[simp] theorem loopTxcmd_mem (s : State) (n : ℕ) (v : Word) : (s.loopTxcmd n v).1.mem = s.mem := by simp [loopTxcmd]

@[simp] theorem loopRxd_mem (s : State) (n : ℕ) : (s.loopRxd n).1.mem = s.mem := by
  unfold loopRxd
  dsimp only
  split <;> simp

@[simp] theorem fskStop_mem (s : State) (n : ℕ) : (s.fskStop n).mem = s.mem := rfl
@[simp] theorem loopApply_mem (s : State) (n : ℕ) (oldCtl : Word) : (s.loopApply n oldCtl).mem = s.mem := by simp [loopApply]

/-! ### The operations of Machine/FaultRows -/

@[simp] theorem phyOk_mem (s : State) : s.phyOk.mem = s.mem := rfl
@[simp] theorem linesOk_mem (s : State) (g : ℕ) : (s.linesOk g).mem = s.mem := by simp [linesOk]
@[simp] theorem withdraw_mem (s : State) (n : ℕ) : (s.withdraw n).mem = s.mem := by simp [withdraw]
@[simp] theorem setUser_mem (s : State) (v : Word) : (s.setUser v).mem = s.mem := by simp [setUser]
@[simp] theorem revokeClr_mem (s : State) (m : ℕ) (v : Word) : (s.revokeClr m v).mem = s.mem := by simp [revokeClr]

/-! ### The operations of Machine/Jobs -/

@[simp] theorem hstIrqJob_mem (s : State) : s.hstIrqJob.mem = s.mem := rfl

@[simp] theorem hstPost_mem (s : State) (c : ℕ) (bs : List Byte) : (s.hstPost c bs).mem = s.mem := by
  have store (ws : List Word) : ∀ x : State × ℕ,
      (ws.foldl (fun (x : State × ℕ) w => (x.1.setReg x.2 w, x.2 + 4)) x).1.mem = x.1.mem := by
    induction ws with
    | nil => exact fun _ => rfl
    | cons w ws ih => exact fun x => ih _
  unfold hstPost
  extract_lets o t u
  have ht : t.mem = s.mem := store _ _
  exact (hstIrqJob_mem _).trans ht

@[simp] theorem hstEnd_mem (s : State) (ok : Bool) (result : ℕ) : (s.hstEnd ok result).mem = s.mem := rfl

@[simp] theorem searchOn_mem : ∀ (is : List ℕ) (s : State), (searchOn is s).mem = s.mem
  | [], _ => rfl
  | i :: is, s => by
    unfold searchOn
    split
    · rfl
    · refine keeps_ite State.mem (searchOn_mem is s) (keeps_ite State.mem (searchOn_mem is s) (keeps_ite State.mem rfl ?_))
      exact (searchOn_mem is _).trans (hstPost_mem _ _ _)

@[simp] theorem search_mem (s : State) : s.search.mem = s.mem := by
  unfold search
  split <;> simp

@[simp] theorem holdAll_mem (s : State) : s.holdAll.mem = s.mem := rfl
@[simp] theorem hstStart_mem (s : State) (m op : ℕ) (allowed : Bool) : (s.hstStart m op allowed).mem = s.mem := by simp [hstStart]
@[simp] theorem hstCmd_mem (s : State) (m op key : ℕ) : (s.hstCmd m op key).1.mem = s.mem := by simp [hstCmd]
@[simp] theorem hstJobCmd_mem (s : State) (m : ℕ) (v : Word) : (s.hstJobCmd m v).1.mem = s.mem := by simp [hstJobCmd]
@[simp] theorem hstAck_mem (s : State) (m : ℕ) (v : Word) : (s.hstAck m v).1.mem = s.mem := by simp [hstAck]
@[simp] theorem fullEntry_mem (s : State) (failed : BitVec 12) (i : ℕ) : (s.fullEntry failed i).mem = s.mem := by simp [fullEntry]

/-! ### The operations of Machine/RingRows -/

@[simp] theorem ringStop_mem (s : State) (r2 pB : Bool) (f : RingFrame) : (s.ringStop r2 pB f).mem = s.mem := by simp [ringStop]

@[simp] theorem ringForward_mem (s : State) (r2 pB : Bool) (f : RingFrame) : (s.ringForward r2 pB f).mem = s.mem := by
  simp [ringForward]

@[simp] theorem linkChange_mem (s : State) (r2 pB up : Bool) : (s.linkChange r2 pB up).mem = s.mem := by simp [linkChange]
@[simp] theorem netApply_mem (s : State) : s.netApply.mem = s.mem := by simp [netApply]

/-! ### The operations of Machine/Regs -/

@[simp] theorem readLow_mem (s : State) (m : ℕ) : (s.readLow m).1.mem = s.mem := rfl

@[simp] theorem readHigh_mem (s : State) (m : ℕ) : (s.readHigh m).1.mem = s.mem := by
  unfold readHigh
  split <;> rfl

@[simp] theorem regGet_mem (s : State) (m b o : ℕ) : (s.regGet m b o).1.mem = s.mem := by simp [regGet]

theorem regRead_eq (s : State) (m a : ℕ) :
    s.regRead m a = s.readAt m (blockOf a) (a % 0x10000) (regKind (blockOf a) (a % 0x10000)) := by
  generalize hf : @regRead = f
  delta regRead at hf
  subst hf
  cases h : regKind (blockOf a) (a % 0x10000) with
  | none => simp only [h, readAt]
  | some k =>
    simp only [h]
    cases k <;> rfl

theorem readAt_mem (s : State) (m b o : ℕ) (k : Option RegKind) : (s.readAt m b o k).1.mem = s.mem := by
  unfold readAt
  split
  · rfl
  · rfl
  · exact regGet_mem _ _ _ _

@[simp] theorem regRead_mem (s : State) (m a : ℕ) : (s.regRead m a).1.mem = s.mem := by rw [regRead_eq, readAt_mem]
@[simp] theorem shadowWrite_mem (s : State) (a : ℕ) (kind : WriteKind) (mask v : Word) : (s.shadowWrite a kind mask v).mem = s.mem :=
  rfl
@[simp] theorem w1cWrite_mem (s : State) (b a : ℕ) (mask v : Word) : (s.w1cWrite b a mask v).mem = s.mem := by simp [w1cWrite]
@[simp] theorem startCommit_mem (s : State) (v : Word) : (s.startCommit v).1.mem = s.mem := by simp [startCommit]
@[simp] theorem discard_mem (s : State) (v : Word) : (s.discard v).mem = s.mem := rfl
@[simp] theorem snapAsk_mem (s : State) (v : Word) : (s.snapAsk v).mem = s.mem := by simp [snapAsk]
@[simp] theorem lockErr_mem (s : State) (m a : ℕ) : (s.lockErr m a).mem = s.mem := by simp [lockErr]

@[simp] theorem applyRegs_mem (s : State) (mask : ℕ) : (s.applyRegs mask).mem = s.mem := by
  unfold applyRegs
  refine (foldl_keeps State.mem _ (fun t e => ?_) _ _).trans rfl
  split
  · exact keeps_ite State.mem rfl rfl
  · rfl

@[simp] theorem queueApply_mem (old : State) (wroteOwn : Bool) (s : State) (q : ℕ) : (queueApply old wroteOwn s q).mem = s.mem := by
  unfold queueApply
  extract_lets moved own t u src v
  have hu : u.mem = s.mem := keeps_ite State.mem rfl rfl
  have hv : v.mem = u.mem := keeps_ite State.mem rfl rfl
  exact keeps_ite State.mem (hv.trans hu) (hv.trans hu)

@[simp] theorem timerApply_mem (old : State) (mask : ℕ) (s : State) : (timerApply old mask s).mem = s.mem := by
  unfold timerApply
  refine (foldl_keeps State.mem _ (fun t w => ?_) _ _).trans (foldl_keeps State.mem _ (fun t n => ?_) _ s)
  · exact keeps_ite State.mem (wcLoad_mem t w) rfl
  · exact keeps_ite State.mem (tcApply_mem t n _ _ _ _ _) rfl

@[simp] theorem takeSnapshot_mem (s : State) : s.takeSnapshot.mem = s.mem := by simp [takeSnapshot]
@[simp] theorem remoteAccess_mem (s : State) (a : ℕ) : (s.remoteAccess a).1.mem = s.mem := rfl

@[simp] theorem moved_mem (s : State) (m a : ℕ) : (s.moved m a).mem = s.mem := by
  unfold moved
  split <;> rfl

/-! ### The operations of Machine/Except -/

@[simp] theorem parkIf_mem (s : State) (k : Fin 4) (idle : Bool) : (s.parkIf k idle).mem = s.mem := by simp [parkIf]
@[simp] theorem takeIrq_mem (s : State) (k : Fin 4) (n : ℕ) : (s.takeIrq k n).mem = s.mem := by simp [takeIrq]

@[simp] theorem takePosted_mem (s : State) (k : Fin 4) (status : ℕ) (a : Word) : (s.takePosted k status a).mem = s.mem := by
  simp [takePosted]

@[simp] theorem haltNow_mem (s : State) (p : Proc) : (s.haltNow p).mem = s.mem := by
  unfold haltNow
  dsimp only
  repeat' split
  all_goals simp

@[simp] theorem breakNow_mem (s : State) (p : Proc) : (s.breakNow p).mem = s.mem := by simp [breakNow]

theorem breakDue_mem {s t : State} {p : Proc} (h : s.breakDue p = some t) : t.mem = s.mem := by
  unfold breakDue at h
  split at h
  · cases h
    exact breakNow_mem s p
  · cases h

@[simp] theorem passBreak_mem (s : State) (p : Proc) : (s.passBreak p).mem = s.mem := by
  unfold passBreak
  split <;> simp

theorem firstDue_mem {s t : State} {p : Proc} (h : s.firstDue p = some t) : t.mem = s.mem := by
  unfold firstDue at h
  split at h
  · exact breakDue_mem h
  · dsimp only at h
    split at h
    · cases h
      simp
    · split at h
      · cases h
        simp
      · rw [Option.or_eq_some_iff] at h
        rcases h with h | ⟨-, h⟩
        · obtain ⟨n, -, rfl⟩ := Option.map_eq_some_iff.1 h
          exact takeIrq_mem _ _ _
        · exact breakDue_mem h

@[simp] theorem wakes_mem (s : State) (p : Proc) : (s.wakes p).mem = s.mem := by
  unfold wakes
  split <;> simp

@[simp] theorem askWord_mem (s : State) (p : Proc) : (s.askWord p).mem = s.mem := by
  unfold askWord
  split <;> simp

/-! ### The operations of Machine/Mem -/

@[simp] theorem postResponse_mem (s : State) (k : Fin 4) (status : ℕ) (a : Word) : (s.postResponse k status a).mem = s.mem := by
  simp [postResponse]

/-! ### The operations of Machine/Task -/

@[simp] theorem kill_mem (s : State) (x1 : ℕ) : (s.kill x1).mem = s.mem := by
  unfold kill
  split <;> simp

@[simp] theorem exitCtx_mem (s : State) (k : ℕ) : (s.exitCtx k).mem = s.mem := by
  unfold exitCtx
  split <;> simp

@[simp] theorem setCtxField_mem (s : State) (x1 aux : ℕ) (v : Word) : (s.setCtxField x1 aux v).mem = s.mem := by simp [setCtxField]

/-! ### The operations of Machine/Sys -/

@[simp] theorem fenceDone_mem (s : State) (k : Fin 4) : (s.fenceDone k).mem = s.mem := by simp [fenceDone]

theorem setSpecial_mem {s t : State} {p : Proc} {n : ℕ} {v : Word} (h : s.setSpecial p n v = some t) : t.mem = s.mem := by
  unfold setSpecial at h
  dsimp only at h
  split at h
  case h_5 =>
    split at h
    · cases h
    · cases h
      exact setCpu_mem _ _ _
  case h_6 => cases h
  all_goals
    cases h
    exact setCpu_mem _ _ _

@[simp] theorem afterRfe_mem (s : State) (k : ℕ) : (s.afterRfe k).mem = s.mem := by simp [afterRfe]

/-! ### The operations of Machine/Host -/

@[simp] theorem hostBegin_mem (s : State) : s.hostBegin.mem = s.mem := rfl
@[simp] theorem hostProtErr_mem (s : State) : s.hostProtErr.mem = s.mem := by simp [hostProtErr]
@[simp] theorem hostKeep_mem (s : State) (a v : Word) : (s.hostKeep a v).mem = s.mem := rfl
@[simp] theorem dbgReply_mem (s : State) (ack fab : ℕ) (data : Word) : (s.dbgReply ack fab data).mem = s.mem := rfl

theorem dbgRun_mem {s : State} {op : State → State} (h : (op s).mem = s.mem) (cmd : Byte) (operand : Word) (crc : Byte)
  (allowed : Bool) :
    (s.dbgRun cmd operand crc allowed op).mem = s.mem := by
  simp [dbgRun, h]

theorem dbgAt_mem {s : State} {op : State → Proc → State} (h : ∀ p, (op s p).mem = s.mem) (cmd : Byte) (operand : Word) (crc : Byte) :
    (s.dbgAt cmd operand crc op).mem = s.mem := by
  refine dbgRun_mem ?_ _ _ _ _
  split
  · exact h _
  · rfl

@[simp] theorem dbgHalt_mem (s : State) (p : Proc) : (s.dbgHalt p).mem = s.mem := by simp [dbgHalt]

@[simp] theorem dbgResume_mem (s : State) (p : Proc) : (s.dbgResume p).mem = s.mem := by
  unfold dbgResume
  dsimp only
  repeat' split
  all_goals simp

@[simp] theorem dbgStep_mem (s : State) (p : Proc) : (s.dbgStep p).mem = s.mem := by
  unfold dbgStep
  dsimp only
  repeat' split
  all_goals simp

@[simp] theorem dbgSetReg_mem (s : State) (p : Proc) (n : ℕ) (v : Word) : (s.dbgSetReg p n v).mem = s.mem := by
  have special : ((s.setSpecial p (n - 0x20) v).getD s).mem = s.mem := by
    cases h : s.setSpecial p (n - 0x20) v with
    | none => rfl
    | some t => exact setSpecial_mem h
  simp [dbgSetReg, special]

@[simp] theorem dbgTo_mem (s : State) (a : Word) : (s.dbgTo a).mem = s.mem := rfl
@[simp] theorem dbgNext_mem (s : State) : s.dbgNext.mem = s.mem := rfl

@[simp] theorem dbgRemote_mem (s : State) : s.dbgRemote.mem = s.mem := by
  unfold dbgRemote
  split <;> simp

/-! ### The operations of Machine/RidgeRows -/

@[simp] theorem answerFrame_mem (s : State) (ld : Bool) (orig : ℕ) (tag : BitVec 32) (ok : Bool) (v : Word) :
    (s.answerFrame ld orig tag ok v).mem = s.mem := rfl
@[simp] theorem afterWait_mem (s : State) (k : ℕ) : (s.afterWait k).mem = s.mem := by simp [afterWait]

@[simp] theorem endLoad_mem (s : State) (k : Fin 4) (tag : BitVec 32) (a : Word) (ok : Bool) (v : Word) :
    (s.endLoad k tag a ok v).mem = s.mem := by
  unfold endLoad
  dsimp only
  split <;> simp

@[simp] theorem endStore_mem (s : State) (k : Fin 4) (a : Word) (ok : Bool) : (s.endStore k a ok).mem = s.mem := by simp [endStore]

end State

end Sys2Proof.Machine
end

section
/-! SUPPORT. The canonical form of the memory (16; log entry 40) under the operations that write bytes: reads with their repairs,
the fetch of an instruction, and one instruction as a whole. -/
namespace Sys2Proof.Machine
set_option Elab.async false

namespace State

/-! ### The canonical form -/

/-- The memory has its canonical form. -/
def canon (s : State) : Prop := Memory.wf s.mem.cells = true

section
variable {s t : State}

theorem canon_of_cells (h : t.mem.cells = s.mem.cells) (hs : s.canon) : t.canon := by
  unfold canon
  rwa [h]

theorem canon_of_mem (h : t.mem = s.mem) (hs : s.canon) : t.canon := canon_of_cells (congrArg MemSt.cells h) hs

theorem canon_setFlt (hs : s.canon) (f : FltSt) : ({ s with flt := f } : State).canon := hs

theorem canon_setGov (hs : s.canon) (g : Gov) : ({ s with gov := g } : State).canon := hs

theorem canon_ite {c : Prop} [Decidable c] (ht : t.canon) (hs : s.canon) : (if c then t else s).canon := by
  split
  · exact ht
  · exact hs

theorem canon_fst_ite {β : Type} {c : Prop} [Decidable c] {t s : State × β} (ht : t.1.canon) (hs : s.1.canon) :
    (if c then t else s).1.canon := by
  split
  · exact ht
  · exact hs

theorem canon_foldl {α : Type} {f : State → α → State} (hf : ∀ u a, u.canon → (f u a).canon) (l : List α) (hs : s.canon) :
    (l.foldl f s).canon :=
  List.foldlRecOn (motive := canon) l f hs fun u hu a _ => hf u a hu

end

/-! ### Memories and queues -/

@[simp] theorem unbad_cells (s : State) (w : ℕ) : (s.unbad w).mem.cells = s.mem.cells := rfl
@[simp] theorem unsoft_cells (s : State) (w : ℕ) : (s.unsoft w).mem.cells = s.mem.cells := rfl

theorem scrubFind_cells (s : State) (e : EccErr) : (s.scrubFind e).mem.cells = s.mem.cells := by cases e <;> rfl

theorem scrubOn_canon {s : State} (h : s.canon) : s.scrubOn.canon := canon_ite h h

theorem hashSlots_canon {s : State} (h : s.canon) : s.hashSlots.canon := by
  unfold hashSlots
  extract_lets inSlot t
  exact canon_foldl (fun u w hu => canon_of_cells (s := u) (by simp) hu) _ (canon_ite (canon_of_mem (memStat_mem _ _) h) h)

/-! ### Accesses by a master (03 R68; 16 R427) -/

theorem busRead_canon {s : State} (h : s.canon) (m a k : ℕ) : (s.busRead m a k).1.canon := by
  unfold busRead
  refine canon_fst_ite h ?_
  have hm : (s.moved m a).canon := canon_of_mem (moved_mem s m a) h
  dsimp only
  split
  · exact canon_of_cells (ramRead_cells _ _ _ _) hm
  · exact canon_of_cells (ramRead_cells _ _ _ _) hm
  · exact canon_of_cells (ramRead_cells _ _ _ _) hm
  · exact canon_fst_ite (canon_of_mem (regRead_mem _ _ _) hm) hm
  · exact canon_of_mem (remoteAccess_mem _ _) hm
  · exact hm

theorem coreWord_canon {s : State} (h : s.canon) (k : Fin 4) : (s.coreWord k).1.canon := by
  unfold coreWord
  dsimp only
  split
  · exact h
  · exact busRead_canon h _ _ _
  · split
    · exact h
    · exact canon_of_mem (setCpu_mem _ _ _) h
  · exact canon_of_cells (eccRead_cells _ _ _) h

theorem fetch_canon {s : State} (h : s.canon) (p : Proc) : (s.fetch p).1.canon := by
  cases p with
  | safety => exact h
  | ac k => exact coreWord_canon h k

theorem hostFetch_canon : ∀ (k : ℕ) (f : HostFetch) {s : State}, s.canon → (hostFetch k f s).canon
  | 0, _, _, h => h
  | k + 1, f, s, h => by
    unfold hostFetch
    refine canon_ite (canon_ite ?_ h) (hostFetch_canon k _ (busRead_canon h _ _ _))
    exact canon_of_mem (s := s.remoteAlso (remoteDev f.addr) 5 f.addr [] true) rfl (canon_of_mem (remoteAlso_mem _ _ _ _ _ _) h)

theorem hostLoaded_canon {s : State} (h : s.canon) (tag : BitVec 32) (st : ℕ) (w : Word) : (s.hostLoaded tag st w).canon := by
  unfold hostLoaded
  split
  · exact canon_ite (hostFetch_canon _ _ h) h
  · exact h

theorem endPort_canon {s : State} (h : s.canon) (r : Remote) (tag : BitVec 32) (st : ℕ) (v : Word) :
    (s.endPort r tag st v).canon := by
  unfold endPort
  split
  · exact hostLoaded_canon h _ _ _
  · exact canon_of_mem (hostFail_mem _ _ _) h
  · exact canon_ite h h
  · exact h
  · exact h

theorem privRead_canon {s : State} {a : ℕ} {r : State × ℕ × Word} (hr : s.privRead a = some r) (h : s.canon) : r.1.canon := by
  unfold privRead at hr
  split at hr
  · exact Option.some.inj hr ▸ h
  · split at hr
    · exact Option.some.inj hr ▸ h
    · split at hr
      · exact Option.some.inj hr ▸ busRead_canon h _ _ _
      · split at hr
        · exact Option.some.inj hr ▸ h
        · split at hr
          · exact Option.some.inj hr ▸ h
          · cases hr
          · exact Option.some.inj hr ▸ h

theorem dbgRead_canon {s : State} (h : s.canon) : s.dbgRead.canon := by
  have hread {r : State × ℕ × Word}
      (hr : (if s.dbgPrivate then s.privRead s.dbg.addr.toNat else some (s.busRead 6 s.dbg.addr.toNat 4)) = some r) :
      r.1.canon := by
    split at hr
    · exact privRead_canon hr h
    · exact Option.some.inj hr ▸ busRead_canon h _ _ _
  unfold dbgRead
  refine canon_ite (canon_of_mem (dbgRemote_mem _) h) ?_
  dsimp only
  split
  · exact h
  next hr => exact canon_of_mem rfl (hread hr)

end State

/-! ### One instruction of a processor (04 R97, R101, R128) -/

/-- The state in which an instruction has ended. -/
def Done.state : Done → State
  | .seq s | .jump s _ | .stay s | .wait s | .fail s _ => s

namespace State

theorem finish_mem (s : State) (p : Proc) (pc : Word) (cost : ℕ) (d : Done) : (s.finish p pc cost d).mem = d.state.mem := by
  cases d with
  | seq t => simp [finish, Done.state]
  | jump t a => simp [finish, Done.state]
  | stay t => simp [finish, Done.state]
  | wait t => rfl
  | fail t e => simp [finish, Done.state]

section
variable {s : State} (h : s.canon) (p : Proc) (w : Word) (legal : Bool) (modes : List ℕ) (cost : ℕ)
include h

/-- An instruction keeps the memory's form when its operation does. -/
theorem instr_canon {op : State → Done} (hop : ∀ t, t.canon → (op t).state.canon) : (s.instr p w legal modes cost op).canon := by
  unfold instr
  refine canon_ite h ?_
  extract_lets u v r t
  have hu : u.canon := canon_of_mem (wakes_mem s p) h
  split
  · refine canon_ite (canon_of_mem (askWord_mem u p) hu) ?_
    have hr : r.1.canon := fetch_canon (canon_of_mem (passBreak_mem u p) hu) p
    have ht : t.canon := by
      clear_value r
      unfold t
      split
      · exact canon_of_mem (raiseExc_mem _ _ _) hr
      · refine canon_ite (canon_of_mem (raiseExc_mem _ _ _) hr) ?_
        split
        · exact canon_of_mem (raiseExc_mem _ _ _) hr
        · exact canon_of_mem (finish_mem _ _ _ _ _) (hop _ hr)
    exact canon_of_mem (settleStep_mem t p) ht
  next hdue => exact canon_of_mem (firstDue_mem hdue) hu
  · exact hu

/-- An instruction whose operation leaves the memory alone. -/
theorem instr_plain {op : State → Done} (hop : ∀ t, (op t).state.mem = t.mem) : (s.instr p w legal modes cost op).canon :=
  instr_canon h p w legal modes cost fun _ ht => canon_of_mem (hop _) ht

end

end State

end Sys2Proof.Machine
end

section
/-! SUPPORT. The canonical form under the recorder, the modes and the faults (02, 10, 16). -/
namespace Sys2Proof.Machine
set_option Elab.async false

namespace State

/-! ### The log, the recorder and the modes (02 R47; 10 R302; 16 R432-R434) -/

section
variable {s : State} (h : s.canon)
include h

theorem recDrain_canon (f : Staged → Bool) : (s.recDrain f).canon := foldl_recWrite_wf _ s h

theorem stageAdd_canon (e : Staged) : (s.stageAdd e).canon :=
  canon_of_mem (s := _) rfl (canon_ite (recDrain_canon h _) h)

theorem qPush_canon (q : ℕ) (bs : List Byte) : (s.qPush q bs).1.canon := qPush_wf s q bs h

theorem logCopy_canon (q : ℕ) (bs : List Byte) : (s.logCopy q bs).canon :=
  canon_ite (qPush_canon h q bs) (qPush_canon h q bs)

theorem log_canon (src cls : ℕ) (wire : Bool) (kind wcnt : ℕ) (d : BitVec 16) : (s.log src cls wire kind wcnt d).canon := by
  unfold log
  extract_lets bs t u
  have hu : u.canon := logCopy_canon (stageAdd_canon h _) _ _
  exact canon_ite (logCopy_canon hu _ _) hu

theorem recFlush_canon : s.recFlush.canon := recFlush_wf s h

theorem afterReset_canon : s.afterReset.canon := h

theorem toMode_canon (m : Mode) (cause : ℕ) : (s.toMode m cause).canon := by
  have enters (m : Mode) : (((((s.leave.abortSlice.stopJobs).putMode m cause).enter s.md.mode).gioMode s.md.mode).sesRenew.log
      0xFF 0 false 4 cause 0).canon :=
    log_canon (canon_of_mem (s := s) (by simp) h) _ _ _ _ _ _
  unfold toMode
  dsimp only
  split
  · refine log_canon ?_ _ _ _ _ _ _
    have hexit : (if cause = 3 then s.serviceExit else s).canon := canon_ite (canon_of_mem (serviceExit_mem s) h) h
    exact canon_of_mem rfl (afterReset_canon (canon_ite hexit (recFlush_canon hexit)))
  · exact canon_of_mem rfl (afterReset_canon h)
  · exact enters _

theorem leaveQuiet_canon : s.leaveQuiet.canon := canon_ite (toMode_canon h _ _) h

theorem quietDone_canon (n : ℕ) : (s.quietDone n).canon := by
  unfold quietDone
  exact canon_ite h (log_canon (canon_of_mem (setSrc_mem _ _ _) h) _ _ _ _ _ _)

theorem settleQuiet_canon : s.settleQuiet.canon := by
  unfold settleQuiet
  refine canon_foldl (fun u e hu => ?_) _ h
  split
  · exact canon_ite (quietDone_canon hu _) hu
  · exact hu

theorem leaveVerify_canon (m : Mode) (cause : ℕ) : (s.leaveVerify m cause).canon :=
  toMode_canon (canon_of_mem (s := s) (by simp) h) _ _

/-! ### Faults (10 R288, R293-R301) -/

theorem react_canon (n : ℕ) (fresh crit beyond : Bool) : (s.react n fresh crit beyond).canon := by
  unfold react
  extract_lets v t
  have ht : t.canon := canon_of_mem (setSrc_mem _ _ _) h
  split
  · exact canon_ite h h
  · exact canon_ite h h
  · exact canon_ite (toMode_canon ht _ _) h
  · exact canon_ite (toMode_canon ht _ _) h
  · exact canon_ite ht h
  · exact canon_ite h (canon_ite (toMode_canon ht _ _) (canon_ite h (toMode_canon ht _ _)))
  · exact h

theorem revoke_canon (m src cls : ℕ) : (s.revoke m src cls).canon := by
  unfold revoke
  exact log_canon (canon_of_mem ((qRevoke_mem _ m).trans (endTags_mem _ m)) (canon_setFlt h _)) src cls false 5 0 (det m)

theorem revokeSet_canon (m : ℕ) (v : Word) : (s.revokeSet m v).1.canon := by
  unfold revokeSet
  exact canon_foldl (fun u k hu => canon_ite hu (revoke_canon hu _ _ _)) _ h

theorem raise_canon (n : ℕ) (wire new : Bool) (d : BitVec 16) : (s.raise n wire new d).canon := by
  unfold raise
  extract_lets v cls rc prc fresh crit d' counts wcnt beyond t1 flt t2 t3 t4 t5 t6 t7
  have h1 : t1.canon := canon_of_mem (setSrc_mem _ _ _) h
  have h2 : t2.canon := canon_ite (canon_of_mem rfl h1) h1
  have h3 : t3.canon := canon_ite (canon_of_mem (noteRaise_mem _ _ _) h2) h2
  have h4 : t4.canon := log_canon h3 _ _ _ _ _ _
  have h5 : t5.canon := canon_ite (log_canon h4 _ _ _ _ _ _) h4
  have h6 : t6.canon := by
    refine canon_ite ?_ h5
    split
    · exact revoke_canon h5 _ _ _
    · exact h5
  exact react_canon (canon_ite (canon_of_mem (optional_mem _ _) h6) h6) _ _ _ _

theorem takeFault_canon (e : Raised) (rest : List Raised) : (s.takeFault e rest).canon := by
  refine raise_canon ?_ _ _ _ _
  exact h

theorem takeLower_canon (n time k : ℕ) : (s.takeLower n time k).canon := by
  induction k generalizing s with
  | zero => exact h
  | succ k ih =>
    unfold takeLower
    split
    · exact h
    · split
      · exact h
      · exact ih (takeFault_canon h _ _)

theorem receipt_canon (n : ℕ) (invalid : Bool) (d : BitVec 16) : (s.receipt n invalid d).canon := by
  unfold receipt
  refine canon_ite h ?_
  split
  · exact takeFault_canon h _ _
  · extract_lets t
    have ht : t.canon := canon_ite (canon_of_mem (noteOutside_mem _ _ _) h) h
    exact canon_ite (raise_canon ht _ _ _ _) (canon_ite (canon_of_mem (setSrc_mem _ _ _) ht) ht)

theorem wiringFault_canon (n : ℕ) (d : BitVec 16) : (s.wiringFault n d).canon := canon_ite (raise_canon h _ _ _ _) h

theorem clearSrc_canon (n : ℕ) : (s.clearSrc n).canon := by
  unfold clearSrc
  extract_lets v t u
  refine canon_ite h (canon_ite (canon_of_mem (withdraw_mem _ _) h) (log_canon ?_ _ _ _ _ _ _))
  have ht : t.canon := canon_of_mem (setSrc_mem _ _ _) h
  exact canon_ite (canon_of_mem (phyOk_mem _) ht) (canon_ite (canon_of_mem (linesOk_mem _ _) ht) ht)

/-! ### Mode requests (02 R51, R62, R63) -/

theorem modeReq_canon (target : ℕ) : (s.modeReq target).1.canon := by
  have refuses (k : ℕ) : (s.refuseMode k).canon := canon_of_mem (refuseMode_mem s k) h
  unfold modeReq
  refine canon_fst_ite h ?_
  dsimp only
  split
  · split
    iterate 5 exact toMode_canon h _ _
    exact refuses _
  · exact canon_fst_ite (toMode_canon h _ _) (refuses _)
  · split
    iterate 4 exact canon_fst_ite (refuses _) (canon_fst_ite (refuses _) (canon_fst_ite (refuses _) h))
    exact refuses _
  · exact refuses _

theorem serviceEntry_canon : s.serviceEntry.canon := by
  have refuses (k : ℕ) : (s.refuseMode k).canon := canon_of_mem (refuseMode_mem s k) h
  unfold serviceEntry
  refine canon_ite h ?_
  split
  iterate 4 exact canon_ite (refuses _) (canon_ite (refuses _) (toMode_canon h _ _))
  exact refuses _

theorem confirmSlot_canon : s.confirmSlot.canon := by
  refine canon_ite h (canon_ite (toMode_canon ?_ _ _) (canon_of_mem (setReg_mem _ _ _) ?_))
  · exact h
  · exact h

theorem askMode_canon (m : Fin 10) (target : ℕ) : (s.askMode m target).canon := canon_ite h (modeReq_canon h _)

theorem authEnd_canon : s.authEnd.canon := by
  unfold authEnd
  extract_lets t tru u
  have ht : t.canon := canon_of_mem (debugDrop_mem s) h
  have hu : u.canon := ht
  exact canon_ite (toMode_canon hu _ _) hu

/-! ### Memory by its masters (16 R427-R434) -/

theorem recPop_canon (q k : ℕ) : (recPop q k s).canon := by
  induction k generalizing s with
  | zero => exact h
  | succ k ih =>
    unfold recPop
    refine canon_ite h ?_
    have hpop : (s.qPop q).1.canon := canon_of_cells (qPop_cells s q) h
    split
    next e => rwa [e] at hpop
    next e =>
      rw [e] at hpop
      exact ih (stageAdd_canon hpop _)

theorem recorderDrain_canon : s.recorderDrain.canon := by
  unfold recorderDrain
  refine canon_ite (recFlush_canon h) ?_
  extract_lets r
  have hr : r.1.canon := canon_fst_ite (canon_of_mem (admitJob_mem _ _ _ _) h) h
  exact canon_ite (recFlush_canon hr) (recDrain_canon hr _)

theorem wipeDue_canon : s.wipeDue.canon := by
  refine canon_ite ?_ h
  exact wipeUser_wf s h

theorem truWrite_canon (a k : ℕ) (bs : List Byte) : (s.truWrite a k bs).1.canon := by
  induction k generalizing s a bs with
  | zero => exact h
  | succ k ih =>
    unfold truWrite
    have hw := ramWrite_wf s 9 a (bs.take 8) h
    exact canon_fst_ite h (canon_fst_ite (ih hw _ _) hw)

end

end State

end Sys2Proof.Machine
end

section
/-! SUPPORT. The canonical form under register writes, commits, the host port and the requests of the ridge link (03, 21). -/
namespace Sys2Proof.Machine
set_option Elab.async false

namespace State

/-! ### Register writes and commits (03 R68-R83) -/

section
variable {s : State} (h : s.canon)
include h

theorem truCmd_canon (op arg key : ℕ) : (s.truCmd op arg key).1.canon := by
  unfold truCmd
  refine canon_fst_ite h ?_
  split
  · exact canon_of_mem (truEnd_mem _ _ _ _) h
  · exact h

theorem truJobCmd_canon (v : Word) : (s.truJobCmd v).1.canon := truCmd_canon h _ _ _

theorem woWrite_canon (m b o : ℕ) (v : Word) : (s.woWrite m b o v).1.canon := by
  have of_mem {r : State × ℕ} (hr : r.1.mem = s.mem) : r.1.canon := canon_of_mem hr h
  have or_else {c : Prop} [Decidable c] {r r' : State × ℕ} := @canon_fst_ite ℕ c _ r r'
  unfold woWrite
  refine or_else (or_else (of_mem (startCommit_mem _ _)) (or_else (of_mem (discard_mem _ _)) (or_else (of_mem (snapAsk_mem _ _))
    (or_else (modeReq_canon h _) (of_mem (testRelBy_mem _ _ _)))))) ?_
  refine or_else (or_else (of_mem (loopTxd_mem _ _ _)) (of_mem (loopTxcmd_mem _ _ _))) (or_else (of_mem (gioKick_mem _ _)) ?_)
  refine or_else (or_else (of_mem (qPublish_mem _ _ _ _)) (of_mem (qRelease_mem _ _ _ _))) (or_else (of_mem (otpJobCmd_mem _ _)) ?_)
  exact or_else (or_else (of_mem (extCmd_mem _ _)) (truJobCmd_canon h _))
    (or_else (of_mem (hstJobCmd_mem _ _ _)) (of_mem (hstAck_mem _ _ _)))

theorem rwWrite_canon (m b a : ℕ) (kind : WriteKind) (mask v : Word) : (s.rwWrite m b a kind mask v).1.canon := by
  unfold rwWrite
  extract_lets o old t
  have ht : t.canon := canon_of_mem (setReg_mem _ _ _) h
  refine canon_fst_ite ?_ (canon_fst_ite (canon_of_mem (setUser_mem _ _) h) (canon_fst_ite h (canon_fst_ite h ?_)))
  · split
    · exact revokeSet_canon h _ _
    · exact canon_of_mem (revokeClr_mem _ _ _) h
    · exact h
  · exact canon_ite (canon_of_mem (gioNote_mem _) ht) ht

theorem lkWrite_canon (m b a : ℕ) (kind : WriteKind) (mask v : Word) : (s.lkWrite m b a kind mask v).1.canon := by
  refine canon_fst_ite (canon_of_mem (lockErr_mem _ _ _) h) ?_
  exact rwWrite_canon h m b a kind mask v

theorem writeOpen_canon (m a : ℕ) (v : Word) (k : RegKind) : (s.writeOpen m a v k).1.canon := by
  unfold writeOpen
  dsimp only
  split
  · exact h
  · exact h
  · exact h
  · exact lkWrite_canon h _ _ _ _ _ _
  · exact canon_fst_ite (woWrite_canon h _ _ _ _) h
  · exact canon_fst_ite (canon_of_mem (w1cWrite_mem _ _ _ _ _) h) h
  · exact rwWrite_canon h _ _ _ _ _ _
  · exact canon_fst_ite h (canon_of_mem (shadowWrite_mem _ _ _ _ _) h)

/-- A write of any register address keeps the memory's form. -/
theorem regWrite_canon (m a : ℕ) (v : Word) : (s.regWrite m a v).1.canon := by
  have at_kind (kind : Option RegKind) : (s.writeAt m a v kind).1.canon := by
    unfold writeAt
    split
    · exact h
    · exact canon_ite (canon_of_mem (setReg_mem _ _ _) h) h
    · exact canon_fst_ite h (writeOpen_canon h _ _ _ _)
  rw [regWrite_eq]
  exact at_kind _

theorem busWrite_canon (m a k : ℕ) (v : Word) : (s.busWrite m a k v).1.canon := by
  unfold busWrite
  refine canon_fst_ite h ?_
  have hm : (s.moved m a).canon := canon_of_mem (moved_mem s m a) h
  dsimp only
  split
  · exact ramWrite_wf _ _ _ _ hm
  · exact ramWrite_wf _ _ _ _ hm
  · exact ramWrite_wf _ _ _ _ hm
  · exact canon_fst_ite (regWrite_canon hm _ _ _) hm
  · exact canon_of_mem (remoteAccess_mem _ a) hm
  · exact hm

theorem privWrite_canon (a : ℕ) (v : Word) : (s.privWrite a v).1.canon := by
  unfold privWrite
  refine canon_fst_ite h (canon_fst_ite h (canon_fst_ite (busWrite_canon h _ _ _ _) (canon_fst_ite h ?_)))
  split
  next hio => exact canon_of_mem (ioWrite_mem hio) h
  next => exact h

theorem releaseHeld_canon : s.releaseHeld.canon := canon_foldl (fun _ _ hu => regWrite_canon hu _ _ _) _ h

theorem commitApply_canon : s.commitApply.canon := by
  unfold commitApply
  refine canon_ite h ?_
  extract_lets mask old t1 t2 t3 t4 t5 t6 t7
  have h1 : t1.canon := canon_of_mem (s := s) (by simp [t1]) h
  have h2 : t2.canon := canon_of_mem (timerApply_mem _ _ _) h1
  have h3 : t3.canon := canon_ite (canon_foldl (fun u n hu => canon_of_mem (loopApply_mem _ _ _) hu) _ h2) h2
  have h4 : t4.canon := canon_ite (canon_of_mem (gioApply_mem _ _) h3) h3
  have h5 : t5.canon := canon_ite (canon_of_mem (netApply_mem _) h4) h4
  have h6 : t6.canon := canon_ite (canon_of_mem (govApply_mem _) h5) h5
  have h7 : t7.canon := canon_foldl (fun u q hu => canon_ite (canon_of_mem (queueApply_mem _ _ _ _) hu) hu) _ h6
  refine canon_of_mem (snapNow_mem _) (releaseHeld_canon ?_)
  exact h7

theorem reach_canon (g : ℕ) : (s.reach g).canon := canon_ite (commitApply_canon (canon_of_mem (safePoint_mem s _) h)) h

/-! ### The host port, the debug port and requests of other devices (21 R523-R546) -/

theorem hostIssue_canon {a v : Word} {t : State} (ht : s.hostIssue a v = some t) : t.canon := by
  unfold hostIssue at ht
  split at ht
  · exact Option.some.inj ht ▸ h
  · split at ht
    · split at ht
      · exact Option.some.inj ht ▸ canon_of_mem (remoteAlso_mem _ _ _ _ _ _) h
      · cases ht
    · exact Option.some.inj ht ▸ canon_of_mem (hostFail_mem _ _ _) (busWrite_canon h _ _ _ _)

theorem hostDrain_canon (ws : List (Word × Word)) : (hostDrain ws s).canon := by
  induction ws generalizing s with
  | nil => exact h
  | cons w ws ih =>
    unfold hostDrain
    dsimp only
    split
    next hi => exact ih (hostIssue_canon h hi)
    next => exact h

theorem hostResume_canon : s.hostResume.canon := by
  unfold hostResume
  have ht := hostDrain_canon h s.host.wbuf
  dsimp only
  split
  · exact canon_ite (hostFetch_canon _ _ ht) ht
  · exact ht

theorem hostWord_canon (a v : Word) (full : Bool) : (s.hostWord a v full).canon := by
  have keep : (s.hostKeep a v).canon := canon_of_mem (hostKeep_mem _ _ _) h
  refine canon_ite h (canon_ite (canon_of_mem (setBits_mem _ _ _) h) (canon_ite keep ?_))
  cases hi : s.hostIssue a v with
  | none => exact keep
  | some t => exact hostIssue_canon h hi

theorem hostWords_canon (a : Word) (ws : List (Word × Bool)) : (hostWords a ws s).canon := by
  induction ws generalizing s a with
  | nil => exact h
  | cons w ws ih => exact ih (hostWord_canon h _ _ _) _

theorem sending_canon {f : State → State} (hf : ∀ t, t.canon → (f t).canon) : (s.sending f).canon := by
  have hsent := hf { s with lnk := { s.lnk with sent := [] } } h
  exact canon_ite hsent hsent

theorem endRequest_canon (d : ℕ) (tag : BitVec 32) (ok : Bool) (v : Word) : (s.endRequest d tag ok v).canon := by
  unfold endRequest
  split
  · exact h
  next r rest hr =>
    refine sending_canon ?_ fun _ ht => hostResume_canon ht
    have ht : ({ s with lnk := { s.lnk with remote := rest } } : State).canon := h
    generalize ({ s with lnk := { s.lnk with remote := rest } } : State) = t at ht
    split
    · exact canon_ite (canon_of_mem (endLoad_mem _ _ _ _ _ _) ht) (canon_of_mem (endStore_mem _ _ _ _) ht)
    · exact endPort_canon ht _ _ _ _

theorem tagTimeout_canon (m : ℕ) : (s.tagTimeout m).canon := by
  unfold tagTimeout
  split
  · split
    · exact endRequest_canon h _ _ _ _
    · exact canon_of_mem (setCpu_mem _ _ _) h
    · exact h
  · split
    · exact endRequest_canon h _ _ _ _
    · exact h

theorem dbgWrite_canon (v : Word) : (s.dbgWrite v).canon := by
  unfold dbgWrite
  extract_lets r t
  have hr : r.1.canon := canon_fst_ite (privWrite_canon h _ _) (busWrite_canon h _ _ _ _)
  clear_value r
  have ht : t.canon := canon_of_mem (s := r.1) (by simp [t]) hr
  exact canon_ite (canon_ite (canon_of_mem (s := s) (by simp) h) (canon_of_mem (dbgReply_mem _ _ _ _) h)) ht

theorem takeMessage_canon (entry : List Byte) : (s.takeMessage entry).canon :=
  canon_ite (canon_of_mem (countUp_mem _ _) h) (qPush_canon h _ _)

theorem serveRequest_canon (ld : Bool) (orig : ℕ) (write : Bool) (tag : BitVec 32) (off : ℕ) (v : Word) :
    (s.serveRequest ld orig write tag off v).canon := by
  have answers {t : State} (ht : t.canon) (ok : Bool) (w : Word) : (t.answerFrame ld orig tag ok w).canon :=
    canon_of_mem (answerFrame_mem _ _ _ _ _ _) ht
  exact canon_ite (answers h _ _) (canon_ite (answers (ramWrite_wf _ _ _ _ h) _ _)
    (answers (canon_of_cells (ramRead_cells _ _ _ _) h) _ _))

end

end State

end Sys2Proof.Machine
end

section
/-! SUPPORT. The canonical form under the trust engine, the images, the self-test, the rings and the cycle
(01, 05, 11, 12, 18, 20, 22). -/
namespace Sys2Proof.Machine
set_option Elab.async false

namespace State

/-! ### The trust engine and the images (20 R499-R522; 22 R558-R566) -/

@[simp] theorem burnLife_mem (s : State) (target : ℕ) (e : BurnEnv) (stop : Bool) : (s.burnLife target e stop).s.mem = s.mem :=
  burnAll_mem (fun b w => burnWord_mem e b w _) _ _

section
variable {s : State} (h : s.canon)
include h

theorem truEnd_canon (ok : Bool) (result : ℕ) (res : Bool) : (s.truEnd ok result res).canon := canon_of_mem (truEnd_mem _ _ _ _) h

theorem serveQuote_canon (e : List Byte) : (s.serveQuote e).canon := by
  unfold serveQuote
  extract_lets n dest len fin q w
  have answers {t : State} (ht : t.canon) (status l : ℕ) : (fin t status l).canon := qPush_canon ht _ _
  have hq : q.1.canon := canon_of_mem (quote_mem _ _ _) h
  have hw : w.1.canon := truWrite_canon hq _ _ _
  exact canon_ite (answers h _ _) (canon_ite (answers h _ _) (canon_ite (answers h _ _) (canon_ite (answers h _ _)
    (canon_ite (answers hw _ _) (answers hw _ _)))))

theorem nextQuote_canon : s.nextQuote.canon := by
  have hpop : (s.qPop 124).1.canon := canon_of_cells (qPop_cells s _) h
  unfold nextQuote
  split
  next e => rwa [e] at hpop
  next e =>
    rw [e] at hpop
    exact serveQuote_canon hpop _

theorem truAsk_canon (m : Fin 10) (op arg key : ℕ) : (s.truAsk m op arg key).canon := canon_ite h (truCmd_canon h _ _ _)

theorem runConfirm_canon (nvFail : Bool) : (s.runConfirm nvFail).canon := by
  have refused {u : State} (hu : u.canon) (result : ℕ) : (u.truEnd false result false).canon := truEnd_canon hu _ _ _
  unfold runConfirm
  extract_lets ccv faulted hd r rec_ w src upd t ext md
  have hr : r.1.canon := canon_of_mem (sign_mem s hd) h
  clear_value r rec_ faulted ccv
  have hw : w.1.canon := nvStore_wf _ _ _ hr
  clear_value w upd
  have hfail : ((w.1.memStat 3).drive 137 0).canon := canon_of_mem ((drive_mem (w.1.memStat 3) 137 0).trans (memStat_mem w.1 3)) hw
  have ht : t.canon := by exact hw
  clear_value t
  have hext : ext.canon := canon_of_mem (extend_mem t 6 (shaBytes rec_)) ht
  clear_value ext md
  refine canon_ite (refused h _) (canon_ite (refused h _)
    (canon_ite (refused h _) (canon_ite (refused h _) (canon_ite (refused h _) ?_))))
  refine canon_ite (refused hfail _) (canon_ite (refused ht _) ?_)
  exact truEnd_canon (by exact hext) _ _ _

theorem runLcadv_canon (target : ℕ) (e : BurnEnv) (stop : Bool) : (s.runLcadv target e stop).canon := by
  unfold runLcadv
  refine toMode_canon ?_ _ _
  exact wipeUser_wf _ (canon_of_mem (burnLife_mem _ _ _ _) h)

theorem runUpdata_canon (kind : ℕ) (nvFail : Bool) : (s.runUpdata kind nvFail).canon := by
  unfold runUpdata
  extract_lets n
  split
  · exact truEnd_canon h _ _ _
  · extract_lets r src upd
    have hr : r.1.canon := nvStore_wf _ _ _ h
    clear_value r
    refine canon_ite (truEnd_canon h _ _ _) (canon_ite (truEnd_canon h _ _ _) (canon_ite ?_ (truEnd_canon ?_ _ _ _)))
    · exact truEnd_canon (canon_of_mem (s := r.1) (by simp) hr) _ _ _
    · exact hr

theorem truJobEnd_canon (j : TruJob) (e : BurnEnv) (nvFail : Bool) : (s.truJobEnd j e nvFail).canon := by
  unfold truJobEnd
  refine canon_ite (canon_ite (canon_of_mem (burnLife_mem _ _ _ _) h) h) ?_
  have refused (c : ℕ) : (s.truEnd false c false).canon := truEnd_canon h _ _ _
  split
  · exact truEnd_canon (canon_of_mem (s := s) (by simp) h) _ _ _
  · exact canon_of_mem (runAuth_mem _) h
  · exact runLcadv_canon h _ _ _
  · refine canon_ite (refused _) (truEnd_canon ?_ _ _ _)
    exact wipeUser_wf s h
  · exact authEnd_canon (truEnd_canon h _ _ _)
  · exact canon_ite (canon_of_mem (runUpbegin_mem _ _) h) (refused _)
  · exact canon_ite (runUpdata_canon h _ _) (refused _)
  · exact canon_ite (canon_of_mem (runUpact_mem _ _) h) (refused _)
  · exact runConfirm_canon h _

theorem verifyImages_canon : s.verifyImages.canon := by
  have takes {t : State} (ht : t.canon) (kind : ℕ) : (t.takeKind kind).1.canon := canon_of_mem (takeKind_mem t kind) ht
  have measures {t : State} (ht : t.canon) (kind k : ℕ) : (t.measureAll kind k).canon := canon_of_mem (measureAll_mem t kind k) ht
  unfold verifyImages
  refine canon_ite h ?_
  extract_lets t1 t2 fw t3 t4 app t5 t6 cf t7
  have h1 : t1.canon := by
    unfold t1
    exact canon_of_mem (extend_mem _ _ _) (canon_of_mem (extend_mem _ _ _) h)
  clear_value t1
  have h2 : t2.canon := hashSlots_canon h1
  clear_value t2
  have h3 : t3.canon := takes h2 1
  clear_value t3 fw
  have h4 : t4.canon := by
    unfold t4
    split
    · exact h3
    · extract_lets x u
      have hu : u.canon := measures h3 _ _
      clear_value u
      exact hu
  clear_value t4
  have h5 : t5.canon := takes h4 2
  clear_value t5 app
  have h6 : t6.canon := by
    unfold t6
    split
    · exact h5
    · extract_lets b u v
      have hu : u.canon := measures h5 _ _
      clear_value u
      have hv : v.canon := overwrite_wf u _ _ hu
      clear_value v
      exact hv
  clear_value t6
  have h7 : t7.canon := takes h6 3
  clear_value t7 cf
  refine canon_ite h6 ?_
  split
  · exact h7
  · extract_lets b u v w x
    have hu : u.canon := measures h7 _ _
    clear_value u
    have hv : v.canon := canon_of_mem (loadProgram_mem u b) hu
    clear_value v
    have hw : w.canon := by
      unfold w
      refine canon_of_mem (takeSessions_mem _ b) (canon_of_mem (bindAxes_mem _) ?_)
      exact canon_of_mem (takeReactions_mem v _) hv
    clear_value w x
    exact canon_ite hw hv

theorem decideMode_canon : s.decideMode.canon := by
  unfold decideMode
  extract_lets t1 t2 tru t3 d sp t4
  have h1 : t1.canon := canon_ite h (canon_of_mem (makeKey_mem _) h)
  have h2 : t2.canon := by
    unfold t2
    split
    · exact canon_of_mem (extend_mem _ _ _) h1
    · exact h1
  have h3 : t3.canon := h2
  have h4 : t4.canon := canon_ite h3 h3
  exact canon_ite h (canon_ite (leaveVerify_canon h4 _ _) h4)

/-! ### Self-test (18 R464-R474) -/

theorem passDone_canon (n : ℕ) : (s.passDone n).canon := by
  have hset (v : SeqSt) : (s.setSeq n v).canon := canon_of_mem (setSeq_mem _ _ _) h
  exact canon_ite (qPush_canon (hset _) _ _) (hset _)

theorem stepOn_canon (n : ℕ) : (s.stepOn n).canon := canon_ite (passDone_canon h n) (canon_of_mem (setSeq_mem _ _ _) h)

theorem stepEnd_canon (n : ℕ) (r : SliceResult) : (s.stepEnd n r).canon := by
  have goesOn (v : SeqSt) : ((s.setSeq n v).stepOn n).canon := stepOn_canon (canon_of_mem (setSeq_mem _ _ _) h) n
  unfold stepEnd
  extract_lets v item t1 t2 t3
  have h1 : t1.canon := qPush_canon h _ _
  have h2 : t2.canon := canon_of_mem (setSeq_mem _ _ _) h1
  have h3 : t3.canon := canon_ite (canon_of_mem (phyBad_mem _ _) h2) h2
  refine canon_ite (goesOn _) (canon_ite (goesOn _) (canon_ite (stepOn_canon ?_ n) ?_))
  · exact canon_of_mem (s := t3) (by simp) h3
  · exact canon_of_mem (setSeq_mem _ _ _) (qPush_canon h _ _)

theorem nextInput_canon : s.nextInput.canon := by
  unfold nextInput
  exact canon_ite (passDone_canon (by exact h) _) (canon_of_mem (setSeq_mem _ _ _) (by exact h))

theorem incmpEnd_canon (r : SliceResult) : (s.incmpEnd r).canon := by
  unfold incmpEnd
  extract_lets st i part fails b v t1 t2 t3
  have h1 : t1.canon := by
    refine canon_ite (canon_of_mem (setBits_mem _ _ _) (canon_of_mem (setSeq_mem _ _ _) ?_)) h
    exact qPush_canon h _ _
  have h2 : t2.canon := canon_of_mem (limiterSeen_mem _ _ _) h1
  have h3 : t3.canon := canon_ite (canon_of_mem (cmpFail_mem _ _ _) h2) h2
  clear_value t3
  exact canon_ite h3 (canon_ite (canon_ite (nextInput_canon h3) h3) (canon_ite h3 h3))

theorem fullEnd_canon (failed : BitVec 12) : (s.fullEnd failed).canon := by
  unfold fullEnd
  extract_lets t out mem cha u code
  have ht : t.canon := canon_foldl (fun u i hu => canon_of_mem (fullEntry_mem _ _ _) hu) _ h
  have hu : u.canon := wipeCells_wf _ _ _ ht
  exact canon_of_mem (s := u) (by simp) hu

theorem hstFinish_canon (failed : BitVec 12) : (s.hstFinish failed).canon := by
  unfold hstFinish
  split
  · exact h
  · refine canon_ite (canon_ite (fullEnd_canon h _) (canon_of_mem (hstEnd_mem _ _ _) h)) ?_
    have ht : s.search.canon := canon_of_mem (search_mem s) h
    dsimp only
    split
    · exact canon_ite ht (canon_of_mem (hstEnd_mem _ _ _) ht)
    · exact ht

/-! ### Sessions and rings (11 R311-R317; 12 R337-R354) -/

theorem sesEvent_canon (n kind : ℕ) : (s.sesEvent n kind).canon := by
  unfold sesEvent
  refine canon_ite h (qPush_canon ?_ _ _)
  exact canon_ite (canon_of_mem (s := s) (by simp) h) h

theorem hsfCheck_canon (n : ℕ) (bPresent : Bool) : (s.hsfCheck n bPresent).canon := by
  unfold hsfCheck
  extract_lets v q v' head crc ok tx t
  have ht : t.canon := canon_of_mem (countUp_mem _ _) (canon_of_mem (setSess_mem _ _ _) h)
  refine canon_ite (canon_of_mem (sendPdu_mem _ _ _ _) (canon_of_mem (setSess_mem _ _ _) h)) ?_
  exact sesEvent_canon (canon_of_mem (driveIf_mem _ _ _ _) ht) _ _

theorem sesSlot1_canon (n tj cyc : ℕ) (bPresent : Bool) : (s.sesSlot1 n tj cyc bPresent).canon := by
  have compares {t : State} (ht : t.canon) (b : Bool) : (t.sesCompare n b).canon := canon_of_mem (sesCompare_mem _ _ _) ht
  unfold sesSlot1
  refine canon_ite (canon_ite h (canon_ite (canon_ite (compares (hsfCheck_canon h _ _) _) h) (compares h _))) ?_
  exact canon_ite h (canon_ite (canon_of_mem (hsfSlot_mem _ _) h) (canon_of_mem (suaneSlot_mem _ _ _ _) h))

theorem sesMirror_canon (n : ℕ) (was : Bool) : (s.sesMirror n was).canon := by
  unfold sesMirror
  extract_lets v t1 t2 t3 t4 wasLive live t5 v' t6
  have h1 : t1.canon := canon_of_mem (setSess_mem _ _ _) h
  have h2 : t2.canon := canon_ite h1 (canon_of_mem (deliver_mem _ _ _) h1)
  have h3 : t3.canon := canon_ite (sesEvent_canon h2 _ _) h2
  have h4 : t4.canon := canon_ite (sesEvent_canon h3 _ _) h3
  have h5 : t5.canon := canon_ite (sesEvent_canon h4 _ _) (canon_ite (sesEvent_canon h4 _ _) h4)
  have h6 : t6.canon := canon_of_mem (setSess_mem _ _ _) h5
  exact h6

theorem sesColSlot_canon (tj cyc : ℕ) (bPresent : Bool) : (s.sesColSlot tj cyc bPresent).canon :=
  canon_of_mem (noteSesfs_mem _) (canon_foldl (fun _ n hu => sesMirror_canon (sesSlot1_canon hu n _ _ _) n _) _ h)

theorem toRxQueue_canon (r2 pB fail : Bool) (q : ℕ) (bs : List Byte) : (s.toRxQueue r2 pB fail q bs).canon := by
  have hpush := qPush_canon h q (s.rxEntry pB bs)
  have counts {t : State} (ht : t.canon) (o : ℕ) : (t.ringCount r2 o).canon := canon_of_mem (ringCount_mem _ _ _) ht
  exact canon_ite (counts h _) (canon_ite (canon_of_mem (s := s) (by simp) h) (canon_ite (counts hpush _) (counts hpush _)))

theorem ringDeliver_canon (r2 pB fail : Bool) (f : RingFrame) : (s.ringDeliver r2 pB fail f).canon := by
  have counts (o : ℕ) : (s.ringCount r2 o).canon := canon_of_mem (ringCount_mem _ _ _) h
  unfold ringDeliver
  refine canon_ite h (canon_ite (counts _)
    (canon_ite (canon_of_mem (checkSeen_mem _ _ _ _) h) (canon_ite ?_ (toRxQueue_canon h _ _ _ _ _))))
  exact canon_of_mem (sesArrive_mem _ _ _ _) (canon_ite (counts _) h)

theorem ringReceive_canon (r2 pB fail : Bool) (f : RingFrame) : (s.ringReceive r2 pB fail f).canon := by
  have counts {t : State} (ht : t.canon) (o : ℕ) : (t.ringCount r2 o).canon := canon_of_mem (ringCount_mem _ _ _) ht
  have stops {t : State} (ht : t.canon) : (t.ringStop r2 pB f).canon := canon_of_mem (ringStop_mem _ _ _ _) ht
  unfold ringReceive
  extract_lets et cls mine t1 p t2 t3
  have h1 : t1.canon := stops h
  have h2 : t2.canon := canon_ite (canon_of_mem (setPort_mem _ _ _ _) h) h
  have h3 : t3.canon := canon_of_mem (ringForward_mem _ _ _ _) (canon_ite (counts h _) h)
  refine canon_ite h (canon_ite (counts h _) (canon_ite (canon_ite (counts h1 _) (toRxQueue_canon h1 _ _ _ _ _)) ?_))
  exact canon_ite (stops (counts h _)) (canon_ite (stops (counts h2 _)) (canon_ite (ringDeliver_canon h3 _ _ _ _) h3))

/-! ### The cycle (01 R21-R42) -/

theorem spareStrobe_canon (chB : Bool) : (s.spareStrobe chB).canon := by
  unfold spareStrobe
  refine canon_ite h ?_
  dsimp only
  split
  · exact h
  · exact h
  · exact canon_of_mem (setSpare_mem _ _) (by exact h)
  · exact canon_of_mem (s := s) (by simp) h
  · exact canon_ite (canon_of_mem (spareBad_mem _ _) h) (canon_of_mem (setSpare_mem _ _) h)
  · exact canon_ite (canon_of_mem (spareBad_mem _ _) h)
      (canon_ite (canon_of_mem (setSpare_mem _ _) h) (canon_ite (nextInput_canon h) h))

theorem latchInputs_canon (chB : Bool) (rev : BitVec 32) : (s.latchInputs chB rev).canon := by
  unfold latchInputs
  extract_lets t1 img ok t2 t3 tps p
  have h1 : t1.canon := spareStrobe_canon h _
  have h2 : t2.canon := canon_foldl (fun u n hu => canon_of_mem (setInp_mem _ _ _) hu) _ h1
  have h3 : t3.canon := by
    unfold t3
    split
    · exact canon_of_mem (drive_mem _ _ _) h2
    · exact h2
  exact canon_ite h3 h3

theorem canon_latched (cha : ChanA) (b : BstSt) (c : ColSt) (n : SesSt) :
    ({ s with chA := cha, bst := b, col := c, ses := n } : State).canon := h

theorem latchA_canon (e : StrobeEnv) : (s.latchA e).canon := by
  unfold latchA
  extract_lets resumes t1 t2 a mode entry toRun cycle t3 t4 t5 col chA ses bst
  have h1 : t1.canon := canon_of_mem (senseOutputs_mem _ _ _ _ _) (latchInputs_canon h _ _)
  clear_value t1
  have h2 : t2.canon := canon_of_mem (sesStrobeA_mem _) (canon_of_mem (captureAxes_mem _) h1)
  clear_value t2
  have h3 : t3.canon := canon_of_mem (latchImage_mem _ _) h2
  clear_value t3
  have h4 : t4.canon := canon_of_mem (setIo_mem _ _ _) (canon_of_mem (setIo_mem _ _ _) (canon_of_mem (setIo_mem _ _ _) h3))
  clear_value t4
  have h5 : t5.canon := canon_of_mem (setIo_mem _ _ _) (canon_of_mem (setIo_mem _ _ _) (canon_of_mem (setIo_mem _ _ _) h4))
  clear_value t5
  exact canon_of_mem (resumeA_mem _) (canon_latched h5 _ _ _ _)

theorem strobeA_canon (e : StrobeEnv) : (s.strobeA e).canon := by
  unfold strobeA
  refine latchA_canon (leaveQuiet_canon (canon_of_mem (outPointA_mem _) ?_)) e
  exact canon_of_mem (noVerdictA_mem _) (canon_of_mem (wcFire_mem _ _) (canon_of_mem (advanceTo_mem _ _) h))

theorem strobeB_canon (e : StrobeEnvB) (rc : ℕ) : (s.strobeB e rc).canon := by
  unfold strobeB
  extract_lets prev t1 t2 l last mode entry toRun cycle inp inok t3 t4 latB t5 latC t6 r t7 latD
  have h1 : t1.canon := canon_of_mem (outPointB_mem _ _) h
  clear_value t1
  have h2 : t2.canon := canon_of_mem (senseOutputs_mem _ _ _ _ _) (latchInputs_canon h1 _ _)
  clear_value t2
  have h3 : t3.canon := h2
  clear_value t3
  have h4 : t4.canon := canon_of_mem (sesStrobeB_mem t3) h3
  clear_value t4
  have h5 : t5.canon := canon_ite h4 (canon_ite (canon_of_mem (evalCells_mem _ _ _) h4) h4)
  clear_value t5
  have h6 : t6.canon := h5
  clear_value t6
  have h7 : t7.canon := canon_of_mem (buildPayloads_mem t6 _) h6
  clear_value t7
  refine canon_of_mem (scanBank_mem _) ?_
  exact h7

theorem closeWindow_canon (e : StrobeEnvB) : (s.closeWindow e).canon := by
  unfold closeWindow
  extract_lets missing cnt t1 lat t2 t3 col t4
  have h1 : t1.canon := canon_of_mem (noVerdictB_mem _) h
  have h2 : t2.canon := canon_of_mem (drive_mem _ _ _) (by exact h1)
  have h3 : t3.canon := canon_ite (canon_of_mem (applyDemands_mem _ _ _) h2) h2
  exact strobeB_canon (by exact h3) e _

theorem colSlot_canon (paceA paceB : ℕ) (reactDiff modeDiff : Bool) : (s.colSlot paceA paceB reactDiff modeDiff).canon := by
  unfold colSlot
  extract_lets t1 ra rb both due col t2 t3 t4 t5 t6 t7 t8 colB c chA t9
  have h1 : t1.canon := canon_of_mem (advanceTo_mem _ _) h
  have h2 : t2.canon := h1
  have h3 : t3.canon := canon_ite (canon_of_mem (compareRecords_mem _ _ _) h2) h2
  have h4 : t4.canon := canon_ite (sesColSlot_canon h3 _ _ _) h3
  have h5 : t5.canon := canon_ite (canon_of_mem (s := t4) (by simp) h4) h4
  have h6 : t6.canon := canon_of_mem (outSlot_mem _) (canon_of_mem (lineReadback_mem _ _ _) h5)
  have h7 : t7.canon := canon_ite (canon_of_mem (mirrors_mem _ _ _ _ _) h6) h6
  have h8 : t8.canon := confirmSlot_canon (canon_of_mem (trelSlot_mem _) (serviceEntry_canon h7))
  have h9 : t9.canon := h8
  exact canon_of_mem (safePoint_mem _ _) (canon_of_mem (prologue_mem _) (canon_of_mem (wakeRead_mem _) h9))

end

end State

end Sys2Proof.Machine
end

section
/-! SUPPORT. The canonical form under the instructions of the processors (04, 09). -/
namespace Sys2Proof.Machine
set_option Elab.async false

@[simp] theorem Done.state_seq (s : State) : (Done.seq s).state = s := rfl
@[simp] theorem Done.state_jump (s : State) (t : Word) : (Done.jump s t).state = s := rfl
@[simp] theorem Done.state_stay (s : State) : (Done.stay s).state = s := rfl
@[simp] theorem Done.state_wait (s : State) : (Done.wait s).state = s := rfl
@[simp] theorem Done.state_fail (s : State) (e : Exc) : (Done.fail s e).state = s := rfl

/-- Every state that an outcome goes on in has the memory's form. -/
def Keeps (o : Out) : Prop := ∀ t, o = .next t → t.canon

theorem keeps_next {t : State} (h : t.canon) : Keeps (.next t) := fun _ e => Host.Outcome.next.inj e ▸ h

namespace State

/-! ### The operations of the instructions -/

section
variable {s : State} (h : s.canon) (p : Proc)
include h

theorem alu_canon (f : FmtR) (fn cost : ℕ) (op : Word → Word → Word) : (s.alu p f fn cost op).canon :=
  instr_plain h _ _ _ _ _ fun t => by simp

theorem shiftImm_canon (f : FmtR) (fn : ℕ) (op : Word → ℕ → Word) : (s.shiftImm p f fn op).canon :=
  instr_plain h _ _ _ _ _ fun t => by simp

theorem compare_canon (f : FmtR) (fn : ℕ) (flags : StBits → Word → Word → StBits) : (s.compare p f fn flags).canon :=
  instr_plain h _ _ _ _ _ fun t => by simp

theorem aluImm_canon (f : FmtI) (op : ℕ) (g : Word → Word) : (s.aluImm p f op g).canon :=
  instr_plain h _ _ _ _ _ fun t => by simp

theorem div_canon (f : FmtR) (fn : ℕ) (signed : Bool) (op : Bool → Word → Word → Word) : (s.div p f fn signed op).canon :=
  instr_plain h _ _ _ _ _ fun t => by simp

theorem divc_canon (f : FmtR) (fn : ℕ) (signed : Bool) (op : Bool → Word → Word → Word) : (s.divc p f fn signed op).canon :=
  instr_plain h _ _ _ _ _ fun t => by simp

theorem dualOp_canon (f : FmtR) (fn : ℕ) (g : Int → Int → Int) : (s.dualOp p f fn g).canon :=
  instr_plain h _ _ _ _ _ fun t => by simp

theorem sbop_canon (fn : ℕ) (f : FmtX) (useB useC : Bool) (g : Option Bool → Option Bool → Option Bool → BitVec 2) :
    (s.sbop p fn f useB useC g).canon :=
  instr_plain h _ _ _ _ _ fun t => by simp

theorem branchSb_canon (op : ℕ) (f : FmtJ) (want : Bool) : (s.branchSb p op f want).canon :=
  instr_plain h _ _ _ _ _ fun t => by
    split
    · rfl
    · split <;> rfl

/-- A context instruction: the safety processor has no contexts. -/
theorem taskInstr_canon (f : FmtR) (fn cost : ℕ) (legal : Bool) (modes : List ℕ) {op : State → ℕ → Done}
    (hop : ∀ t k, (op t k).state.mem = t.mem) : (s.taskInstr p f fn cost legal modes op).canon :=
  instr_plain h _ _ _ _ _ fun t => by
    cases p with
    | ac k => exact hop t k
    | safety => rfl

/-- A session instruction: SSEND or SRECV. -/
theorem sesInstr_canon (fn : ℕ) (f : FmtS) (tx : Bool) {op : State → ℕ → ℕ → State} (hop : ∀ t a n, (op t a n).mem = t.mem) :
    (s.sesInstr p fn f tx op).canon :=
  instr_plain h _ _ _ _ _ fun t => by
    dsimp only
    split
    · rfl
    · split
      · rfl
      · exact hop _ _ _

end

theorem withCtx_mem (s : State) (p : Proc) (f : FmtR) (op : ℕ → Done) (hop : ∀ x, (op x).state.mem = s.mem) :
    (s.withCtx p f op).state.mem = s.mem := by
  unfold withCtx
  dsimp only
  split
  · rfl
  · exact hop _

theorem doneZ_mem (s : State) (p : Proc) (z : Bool) {next : State → State} (hn : ∀ t, (next t).mem = t.mem) :
    (s.doneZ p z next).state.mem = s.mem := by
  simp [doneZ, hn]

/-! ### Loads, stores and atomic operations (04 R109-R113) -/

theorem remoteLoad_mem (s : State) (k : Fin 4) (rd code : ℕ) (a : Word) : (s.remoteLoad k rd code a).state.mem = s.mem := by
  unfold remoteLoad
  dsimp only
  split
  · rfl
  · split <;> simp

theorem remoteStore_mem (s : State) (k : Fin 4) (a : Word) (data : List Byte) : (s.remoteStore k a data).state.mem = s.mem := by
  unfold remoteStore
  dsimp only
  split
  · simp
  · split <;> simp

theorem winPosted_mem (s : State) (p : Proc) (status : ℕ) (a : Word) : (s.winPosted p status a).state.mem = s.mem := by
  unfold winPosted
  split <;> simp

section
variable {s : State} (h : s.canon)
include h

theorem coreLoad_canon (k : Fin 4) (rd : BitVec 4) (code : ℕ) (a : Word) : (s.coreLoad k rd code a).state.canon := by
  unfold coreLoad
  split
  · exact canon_of_mem (remoteLoad_mem _ _ _ _ _) h
  · split
    · exact h
    · split
      · exact h
      · have hr := busRead_canon h k a.toNat (memSize code)
        dsimp only
        split
        · exact canon_of_mem (setGr_mem _ _ _ _) hr
        · exact hr

theorem coreRegStore_canon (k : Fin 4) (n : ℕ) (a v : Word) : (s.coreRegStore k n a v).state.canon := by
  have hw := busWrite_canon h k a.toNat n v
  unfold coreRegStore
  split
  · exact h
  · dsimp only
    split
    · exact hw
    · split
      · split <;> exact hw
      · exact hw

theorem coreStore_canon (k : Fin 4) (n : ℕ) (a v : Word) : (s.coreStore k n a v).state.canon := by
  unfold coreStore
  dsimp only
  split
  · exact canon_of_mem (remoteStore_mem _ _ _ _) h
  · split
    · exact h
    · exact coreRegStore_canon h _ _ _ _
  · split
    · exact h
    · refine canon_of_mem (postResponse_mem _ _ _ _) ?_
      split
      · exact canon_of_mem (satUp_mem _ _ _ _) h
      · exact busWrite_canon h _ _ _ _

theorem load_canon (p : Proc) (f : FmtI) (code : ℕ) : (s.load p f code).canon :=
  instr_canon h _ _ _ _ _ fun t ht => by
    dsimp only
    split
    · exact ht
    · cases p with
      | safety => dsimp only; split
                  · exact canon_of_mem (setGr_mem _ _ _ _) ht
                  · exact ht
      | ac k => exact coreLoad_canon ht _ _ _ _

theorem store_canon (p : Proc) (f : FmtI) (code : ℕ) : (s.store p f code).canon :=
  instr_canon h _ _ _ _ _ fun t ht => by
    dsimp only
    split
    · exact ht
    · cases p with
      | safety => dsimp only; split
                  · exact canon_of_mem (tcmPut_mem _ _ _) ht
                  · exact ht
      | ac k => exact coreStore_canon ht _ _ _ _

theorem amo_canon (p : Proc) (fn : ℕ) (f : FmtR) (new : Word → Option Word) (setsZ : Bool) : (s.amo p fn f new setsZ).canon :=
  instr_canon h _ _ _ _ _ fun t ht => by
    dsimp only
    split
    · exact ht
    split
    · exact ht
    cases p with
    | safety => exact ht
    | ac k =>
      have hr := busRead_canon ht k (t.gr (.ac k) f.ra).toNat 4
      dsimp only
      split
      · exact ht
      split
      · exact hr
      have hu : (match new (t.busRead k (t.gr (.ac k) f.ra).toNat 4).2.2 with
          | some w => ((t.busRead k (t.gr (.ac k) f.ra).toNat 4).1.busWrite k (t.gr (.ac k) f.ra).toNat 4 w).1
          | none => (t.busRead k (t.gr (.ac k) f.ra).toNat 4).1).canon := by
        split
        · exact busWrite_canon hr _ _ _ _
        · exact hr
      have hg := canon_of_mem (setGr_mem _ (.ac k) f.rd (t.busRead k (t.gr (.ac k) f.ra).toNat 4).2.2) hu
      refine canon_ite (canon_of_mem (setZ_mem _ _ _) hg) hg

end
end State

/-! ### The instructions by their families (04 R105-R130) -/

/-- An instruction whose operation leaves the memory alone. -/
theorem keeps_instr {s : State} (h : s.canon) {p : Proc} {w : Word} {legal : Bool} {modes : List ℕ} {cost : ℕ} {op : State → Done}
    (hop : ∀ t, (op t).state.mem = t.mem) : Keeps (.next (s.instr p w legal modes cost op)) :=
  keeps_next (State.instr_plain h _ _ _ _ _ hop)

/-- A context instruction whose operation leaves the memory alone. -/
theorem keeps_taskInstr {s : State} (h : s.canon) {p : Proc} {f : FmtR} {fn cost : ℕ} {legal : Bool} {modes : List ℕ}
    {op : State → ℕ → Done} (hop : ∀ t k, (op t k).state.mem = t.mem) :
    Keeps (.next (s.taskInstr p f fn cost legal modes op)) :=
  keeps_next (State.taskInstr_canon h _ _ _ _ _ _ hop)

section
variable {s : State} (h : s.canon) (p : Proc)
include h

theorem dwlo_keeps (f : FmtR) : Keeps (exec (.dwlo p f) s) :=
  keeps_instr h fun t => by
    split <;> simp

theorem iold_keeps (f : FmtI) : Keeps (exec (.iold p f) s) :=
  keeps_instr h fun t => by
    dsimp only
    split
    · rfl
    · split <;> simp

theorem iost_keeps (f : FmtI) : Keeps (exec (.iost p f) s) :=
  keeps_instr h fun t => by
    dsimp only
    split
    · rfl
    · split
      next hw => exact State.ioWrite_mem hw
      next => rfl

theorem fwld_keeps (f : FmtI) : Keeps (exec (.fwld p f) s) :=
  keeps_next <| State.instr_canon h _ _ _ _ _ fun t ht => by
    have hr := State.busRead_canon ht 4 (t.winAddr p f).toNat 4
    dsimp only
    split
    · exact ht
    split
    · exact ht
    split
    · exact State.canon_of_mem (State.setGr_mem _ _ _ _) hr
    · exact hr

theorem fwst_keeps (f : FmtI) : Keeps (exec (.fwst p f) s) :=
  keeps_next <| State.instr_canon h _ _ _ _ _ fun t ht => by
    dsimp only
    split
    · exact ht
    split
    · exact ht
    exact State.canon_of_mem (State.winPosted_mem _ _ _ _) (State.busWrite_canon ht _ _ _ _)

theorem fabricWindowTimeout_keeps (x : WindowAccess) : Keeps (exec (.fabricWindowTimeout x) s) :=
  keeps_instr h fun t => by
    dsimp only
    split
    · rfl
    split
    · rfl
    split
    · exact State.winPosted_mem _ _ _ _
    · rfl

theorem br_keeps (f : FmtJ) : Keeps (exec (.br p f) s) :=
  keeps_instr h fun t => by
    split <;> rfl

theorem bl_keeps (f : FmtJ) : Keeps (exec (.bl p f) s) :=
  keeps_instr h fun t => by simp

theorem call_keeps (f : FmtJ) : Keeps (exec (.call p f) s) :=
  keeps_instr h fun t => by
    dsimp only
    split <;> simp

theorem jr_keeps (f : FmtR) (fn : BitVec 6) : Keeps (exec (.jr p f fn) s) :=
  keeps_instr h fun t => by
    dsimp only
    split <;> rfl

theorem jlr_keeps (f : FmtR) (fn : BitVec 6) : Keeps (exec (.jlr p f fn) s) :=
  keeps_instr h fun t => by
    dsimp only
    split <;> simp

theorem loop_keeps (f : FmtL) : Keeps (exec (.loop p f) s) :=
  keeps_instr h fun t => by
    dsimp only
    split <;> simp

theorem ret_keeps (f : FmtR) : Keeps (exec (.ret p f) s) :=
  keeps_instr h fun t => by
    dsimp only
    split <;> simp

theorem sbtog_keeps (f : FmtX) : Keeps (exec (.sbtog p f) s) :=
  keeps_instr h fun t => by
    split <;> simp

theorem sconst_keeps (f : FmtX) : Keeps (exec (.sconst p f) s) :=
  keeps_instr h fun t => by simp

theorem scmp_keeps (f : FmtX) (fn : BitVec 6) : Keeps (exec (.scmp p f fn) s) :=
  keeps_instr h fun t => by simp

theorem sbin_keeps (f : FmtX) : Keeps (exec (.sbin p f) s) :=
  keeps_instr h fun t => by
    dsimp only
    split <;> simp

theorem sbout_keeps (f : FmtX) : Keeps (exec (.sbout p f) s) :=
  keeps_instr h fun t => by
    dsimp only
    split
    · exact State.setImgSb_mem _ _ _
    · rfl

theorem ssend_keeps (f : FmtS) : Keeps (exec (.ssend p f) s) :=
  keeps_next (State.sesInstr_canon h _ _ _ _ fun _ _ _ => rfl)

theorem srecv_keeps (f : FmtS) : Keeps (exec (.srecv p f) s) :=
  keeps_next (State.sesInstr_canon h _ _ _ _ fun t a n => by simp)

/-! The system instructions (04 R123-R130). -/

theorem rfe_keeps (f : FmtR) : Keeps (exec (.rfe p f) s) :=
  keeps_instr h fun t => by
    dsimp only
    split
    · rfl
    split
    · rfl
    cases p <;> simp

theorem mtsr_keeps (f : FmtR) : Keeps (exec (.mtsr p f) s) :=
  keeps_instr h fun t => by
    dsimp only
    split
    · rfl
    split
    next hw => exact State.setSpecial_mem hw
    next => simp

theorem fence_keeps (f : FmtR) : Keeps (exec (.fence p f) s) :=
  keeps_instr h fun t => by
    cases p with
    | safety => rfl
    | ac k =>
      dsimp only
      split <;> simp

theorem wfi_keeps (f : FmtR) : Keeps (exec (.wfi p f) s) :=
  keeps_instr h fun t => by simp

theorem brk_keeps (f : FmtR) : Keeps (exec (.brk p f) s) :=
  keeps_instr h fun t => by
    split <;> simp

theorem cycend_keeps (f : FmtR) : Keeps (exec (.cycend p f) s) :=
  keeps_instr h fun t => by simp

/-! The instructions of the contexts (08 R198-R219). -/

theorem tnew_keeps (f : FmtR) : Keeps (exec (.tnew p f) s) :=
  keeps_taskInstr h fun t k => by
    dsimp only
    split
    · simp
    · split <;> simp

theorem trun_keeps (f : FmtR) : Keeps (exec (.trun p f) s) :=
  keeps_taskInstr h fun t k => State.withCtx_mem _ _ _ _ fun x => by
    split
    · exact State.doneZ_mem _ _ _ fun u => State.makeReady_mem u x
    · exact State.doneZ_mem _ _ _ fun _ => rfl

theorem tyield_keeps (f : FmtR) : Keeps (exec (.tyield p f) s) :=
  keeps_taskInstr h fun t k => by
    dsimp only
    split <;> simp

theorem twaitq_keeps (f : FmtR) : Keeps (exec (.twaitq p f) s) :=
  keeps_taskInstr h fun t k => by
    dsimp only
    split
    · rfl
    split
    · rfl
    split <;> simp

theorem tkill_keeps (f : FmtR) : Keeps (exec (.tkill p f) s) :=
  keeps_taskInstr h fun t k => State.withCtx_mem _ _ _ _ fun x => by
    split
    · exact State.doneZ_mem _ _ _ fun _ => rfl
    split
    · simp
    · exact State.doneZ_mem _ _ _ fun u => State.kill_mem u x

theorem tget_keeps (f : FmtR) : Keeps (exec (.tget p f) s) :=
  keeps_taskInstr h fun t k => State.withCtx_mem _ _ _ _ fun x => by
    split
    · simp
    split <;> simp

theorem tset_keeps (f : FmtR) : Keeps (exec (.tset p f) s) :=
  keeps_taskInstr h fun t k => State.withCtx_mem _ _ _ _ fun x => by
    dsimp only
    split
    · simp
    split
    · exact State.doneZ_mem _ _ _ fun u => (State.settleReady_mem _).trans (State.setCtxField_mem _ _ _ _)
    · simp

theorem texit_keeps (f : FmtR) : Keeps (exec (.texit p f) s) :=
  keeps_taskInstr h fun t k => by simp

theorem tself_keeps (f : FmtR) : Keeps (exec (.tself p f) s) :=
  keeps_taskInstr h fun t k => by simp

end

end Sys2Proof.Machine
end

section
/-! SUPPORT. The canonical form under every command, and O60. -/
namespace Sys2Proof.Machine
set_option Elab.async false

namespace State

section
variable {s : State} (h : s.canon)
include h

theorem underGrant_canon {f : State → State} (hf : ∀ t, t.canon → (f t).canon) (n cls : ℕ) : (s.underGrant n cls f).canon := by
  have hr := canon_of_mem (admitJob_mem s n cls false) h
  exact canon_ite (hf _ hr) hr

theorem qPop_canon (q : ℕ) : (s.qPop q).1.canon := canon_of_cells (qPop_cells s q) h

theorem sendMessage_canon (q : ℕ) : (s.sendMessage q).canon := by
  have hpop := qPop_canon h (88 + q)
  unfold sendMessage
  refine canon_ite h ?_
  split
  next e => rwa [e] at hpop
  next e =>
    rw [e] at hpop
    exact canon_ite (canon_of_mem (countUp_mem _ _) hpop) (canon_of_mem (linkSend_mem _ _) hpop)

theorem patrol_canon (err : EccErr) : ((s.scrubFind err).eccRead (s.scrubFind err).mem.scrubAt 15).1.scrubOn.canon :=
  scrubOn_canon (canon_of_cells (eccRead_cells _ _ _) (canon_of_cells (scrubFind_cells s err) h))

theorem govWindow_canon (e : GovEnv) :
    (if s.waitsApply 5 govB (govB + 0x10000) then s else s.govWindow e).canon :=
  canon_ite h (canon_of_mem (govWindow_mem s e) h)

end

theorem pullQueues_canon (r2 pB : Bool) : ∀ (k : ℕ) {s : State}, s.canon → (pullQueues r2 pB k s).canon
  | 0, _, h => h
  | k + 1, s, h => by
    unfold pullQueues
    split
    · exact h
    next q _ =>
      have hpop := qPop_canon h q
      split
      next e =>
        rw [e] at hpop
        exact pullQueues_canon r2 pB k hpop
      next e =>
        rw [e] at hpop
        exact pullQueues_canon r2 pB k (canon_of_mem (sendEntry_mem _ _ _ _) hpop)

theorem ringSend_canon {s : State} (h : s.canon) (r2 pB : Bool) : (s.ringSend r2 pB).canon := by
  have hp : (s.pullGranted r2 pB).canon := canon_ite (underGrant_canon h (fun _ ht => pullQueues_canon r2 pB 64 ht) 2 2) h
  unfold ringSend
  refine canon_ite h ?_
  extract_lets t
  split
  · exact hp
  next f rest _ =>
    extract_lets u
    have hu : u.canon := canon_of_mem (setPort_mem _ _ _ _) hp
    clear_value u
    split
    · exact canon_of_mem (stampTx_mem _ _ _ _) hu
    · exact hu

end State

/-! ### The commands of the units -/

section
open State
variable {s : State} (h : s.canon)
include h

/-- A command that leaves the memory alone. -/
theorem keeps_mem {t : State} (e : t.mem = s.mem) : Keeps (.next t) := keeps_next (canon_of_mem e h)

/-- A register access of a master: refused when the master is revoked. -/
theorem keeps_access {t : State} (ht : t.canon) {c : Bool} {st e : ℕ} {ws ws' : List Word} :
    Keeps (.next (if c then s.answer e ws else t.answer st ws')) :=
  keeps_next (canon_ite h ht)

theorem keeps_access_mem {t : State} (e : t.mem = s.mem) {c : Bool} {st st' : ℕ} {ws ws' : List Word} :
    Keeps (.next (if c then s.answer st' ws else t.answer st ws')) :=
  keeps_access h (canon_of_mem e h)

/-! Modes (02). -/

theorem powerUp_keeps : Keeps (exec .powerUp s) := keeps_next (canon_ite (toMode_canon h _ _) h)

theorem logicRailFail_keeps : Keeps (exec .logicRailFail s) := keeps_next <| by
  split
  · exact toMode_canon h _ _
  · exact toMode_canon h _ _
  · exact toMode_canon h _ _
  · exact h

theorem rstNLow_keeps : Keeps (exec .rstNLow s) :=
  keeps_next (canon_ite h (toMode_canon (canon_of_mem (latchNow_mem s) h) _ _))

theorem resetRelease_keeps (straps : BitVec 3) (pll : Bool) (weak : List WeakWord) :
    Keeps (exec (.resetRelease straps pll weak) s) := by
  have hm := canon_of_mem (startClock_mem (s.toMode .start 5) straps pll) (toMode_canon h _ _)
  have hs := canon_of_mem (otpSense_mem _ weak) hm
  have hw := wipeStart_wf _ hs
  exact keeps_next (canon_ite (canon_of_mem (recResume_mem _) (wipeDue_canon hw)) h)

theorem powerOnRunComplete_keeps (e : PostEnv) : Keeps (exec (.powerOnRunComplete e) s) := by
  refine keeps_next (canon_ite h ?_)
  extract_lets t
  have ht : t.canon := canon_of_mem (s := s) (by simp [t]) h
  clear_value t
  have hw : (t.firstWindow 3).canon := canon_of_mem (firstWindow_mem t 3) ht
  exact canon_ite (toMode_canon hw _ _) (canon_ite (toMode_canon hw _ _) (verifyImages_canon (toMode_canon ht _ _)))

theorem vholdCharged_keeps : Keeps (exec .vholdCharged s) := by
  refine keeps_next ?_
  extract_lets md t
  have ht : t.canon := h
  clear_value t
  split
  · exact leaveVerify_canon ht _ _
  · exact ht

theorem vholdChargeTimeout_keeps : Keeps (exec .vholdChargeTimeout s) := by
  refine keeps_next (canon_ite ?_ h)
  split
  · exact leaveVerify_canon (canon_of_mem (drive_mem s 85 1) h) _ _
  · exact h

theorem holdupEntry_keeps : Keeps (exec .holdupEntry s) := keeps_next <| by
  split
  · exact h
  · exact h
  · exact h
  · exact h
  · extract_lets t md
    have ht : t.canon := toMode_canon (canon_of_mem (latchNow_mem s) h) _ _
    clear_value t
    exact ht

theorem holdupFlushComplete_keeps : Keeps (exec .holdupFlushComplete s) := by
  refine keeps_next (canon_ite h ?_)
  extract_lets t md u
  have ht : t.canon := recFlush_canon h
  clear_value t
  have hu : u.canon := by exact ht
  clear_value u
  exact canon_ite (toMode_canon hu _ _) hu

theorem powerValid_keeps : Keeps (exec .powerValid s) := by
  refine keeps_next ?_
  extract_lets md t
  have ht : t.canon := h
  clear_value t
  exact canon_ite (toMode_canon ht _ _) ht

theorem powerCycleDetect_keeps : Keeps (exec .powerCycleDetect s) := keeps_mem h rfl

theorem loaderRun_keeps (slot : Bool) : Keeps (exec (.loaderRun slot) s) := keeps_mem h <| by
  split
  · rfl
  · split
    · rfl
    · exact runLoader_mem _ _ _

theorem outputsConfirmedOff_keeps : Keeps (exec .outputsConfirmedOff s) :=
  keeps_next (canon_ite h (canon_ite (toMode_canon h _ _) (toMode_canon h _ _)))

theorem quietPeriodComplete_keeps (n : BitVec 8) : Keeps (exec (.quietPeriodComplete n) s) := keeps_next <| by
  split
  · exact h
  next t _ =>
    extract_lets u
    have hu : u.canon := canon_of_mem (advanceTo_mem s t) h
    exact canon_ite h (quietDone_canon hu _)

theorem testReleaseExpire_keeps : Keeps (exec .testReleaseExpire s) := keeps_mem h <| by
  split
  · rfl
  · simp

/-! Faults (10). -/

theorem faultReceipt_keeps (n : BitVec 8) (wiring : Bool) (detail : BitVec 16) : Keeps (exec (.faultReceipt n wiring detail) s) := by
  refine keeps_next ?_
  extract_lets t u v
  have ht : t.canon := settleQuiet_canon h
  clear_value t
  have hu : u.canon := by
    unfold u
    split
    · exact takeLower_canon (canon_foldl (fun _ r hx => canon_of_mem (noteEdm_mem _ _) hx) _ ht) _ _ _
    · exact ht
  clear_value u
  exact receipt_canon (canon_ite (canon_of_mem (noteEdm_mem u _) hu) hu) _ _ _

theorem wiringFault_keeps (n : BitVec 8) (detail : BitVec 16) : Keeps (exec (.wiringFault n detail) s) :=
  keeps_next (wiringFault_canon (settleQuiet_canon h) _ _)

/-! The cycle (01, 05, 06). -/

theorem channelBStrobeLocked_keeps (e : StrobeEnvB) : Keeps (exec (.channelBStrobeLocked e) s) := keeps_next <| by
  split
  · exact h
  · refine canon_ite ?_ h
    extract_lets t lat col
    have ht : t.canon := canon_of_mem (noVerdictB_mem s) h
    exact strobeB_canon (by exact ht) _ _

theorem earlyStrobeIgnored_keeps : Keeps (exec .earlyStrobeIgnored s) := keeps_mem h <| by
  split
  · rfl
  · split <;> simp

theorem recDone_keeps : Keeps (exec .recDone s) := keeps_mem h <| by
  split
  · rfl
  split
  · exact handler_mem s
  · exact epilogue_mem s

theorem restoreComplete_keeps : Keeps (exec .restoreComplete s) := keeps_mem h <| by
  split
  · rfl
  · simp

theorem encoderRateInterval_keeps (axis : Fin 4) (enc : Fin 2) (lv : List (BitVec 16)) :
    Keeps (exec (.encoderRateInterval axis enc lv) s) := keeps_mem h <| by
  dsimp only
  split
  · split <;> simp
  · simp

/-! Registers (03). -/

/-- A write that is refused in two ways. -/
theorem keeps_write {r : State × ℕ} (hr : r.1.canon) {c : Bool} {d : Prop} [Decidable d] {st st' : ℕ} {ws ws' : List Word} :
    Keeps (.next (if c then s.answer st ws else if d then s.answer st' ws' else r.1.answer r.2 [])) :=
  keeps_next (canon_ite h (canon_ite h hr))

theorem registerWrite_keeps (m : Fin 10) (addr v : Word) (size : AccessSize) :
    Keeps (exec (.registerWrite m addr v size) s) := by
  show Keeps (execRegisterWrite m addr v size s)
  unfold execRegisterWrite
  exact keeps_write h (regWrite_canon h m.val addr.toNat v)

theorem timeBaseLowRead_keeps (m : Fin 10) : Keeps (exec (.timeBaseLowRead m) s) := keeps_access_mem h (readLow_mem s m)

/-! The processors (04, 08). -/

theorem impreciseBus_keeps (core : Fin 4) : Keeps (exec (.impreciseBus core) s) := keeps_mem h <| by
  extract_lets p c t
  have ht : t.mem = s.mem := by
    unfold t
    split <;> simp
  clear_value t
  split
  · exact ht
  · split <;> simp [ht]

/-! Queues, memories and the governor (16, 17). -/

theorem fabricTimeout_keeps (m : Fin 10) (unit : BitVec 16) : Keeps (exec (.fabricTimeout m unit) s) := keeps_next <| by
  split
  · exact h
  · exact tagTimeout_canon (canon_of_mem (drive_mem s 132 unit) h) _

theorem recorderDrain_keeps : Keeps (exec .recorderDrain s) := keeps_next <| by
  split
  · exact h
  · exact h
  · exact recorderDrain_canon (canon_foldl (fun _ q hu => recPop_canon hu q 64) _ h)

theorem captureSpill_keeps (n : Fin 16) : Keeps (exec (.captureSpill n) s) := by
  refine keeps_next (canon_ite h ?_)
  split
  · exact h
  · exact qPush_canon (canon_of_mem (setTc_mem s _ _) h) _ _

theorem governorWindow_keeps (e : GovEnv) : Keeps (exec (.governorWindow e) s) :=
  keeps_next (canon_ite h (govWindow_canon (reach_canon (canon_of_mem (advanceTo_mem s _) h) 5) e))

theorem reserveRelease_keeps : Keeps (exec .reserveRelease s) :=
  keeps_next (canon_ite h (canon_setGov (canon_ite (canon_of_mem (advanceTo_mem s _) h) h) _))

theorem hotEntry_keeps (sensor : Fin 8) (temp : BitVec 10) : Keeps (exec (.hotEntry sensor temp) s) :=
  keeps_mem h (keeps_ite State.mem (by simp) rfl)

theorem loopDacUpdate_keeps (s0 s1 s2 s3 : LoopSample) (vlLow : Bool) : Keeps (exec (.loopDacUpdate s0 s1 s2 s3 vlLow) s) :=
  keeps_next (canon_of_mem (dacUpdate_mem _ _ _ _ _ _) (reach_canon h 1))

/-! Self-test (18). -/

theorem sliceEnd_keeps (r : SliceResult) : Keeps (exec (.sliceEnd r) s) := keeps_next <| by
  split
  · exact h
  · extract_lets bst t
    have ht : t.canon := canon_of_mem (s := s) (by simp [t]) h
    exact canon_ite (incmpEnd_canon ht r) (stepEnd_canon ht _ r)

theorem debtExpire_keeps (n : Fin 11) : Keeps (exec (.debtExpire n) s) := by
  refine keeps_next (canon_ite h ?_)
  extract_lets t sq u v
  have ht : t.canon := canon_of_mem (advanceTo_mem s _) h
  clear_value t
  have hu : u.canon := canon_of_mem (setSeq_mem t _ _) ht
  clear_value u
  have hv : v.canon := qPush_canon hu _ _
  exact canon_of_mem (by simp) hv

/-! Permanent memory, trust and images (19, 20, 22). -/

theorem otpJobEnd_keeps (e : BurnEnv) : Keeps (exec (.otpJobEnd e) s) := keeps_mem h <| by
  split
  · rfl
  · extract_lets b u otp t
    have hb : b.s.mem = s.mem := otpBurn_mem _ _ _
    split
    · exact hb
    · have ht : t.mem = s.mem := (noteMargin_mem _).trans hb
      clear_value t
      split <;> simp [ht]

theorem truJobEnd_keeps (e : BurnEnv) (nvFail : Bool) : Keeps (exec (.truJobEnd e nvFail) s) := keeps_next <| by
  split
  · exact h
  next j _ =>
    have ends (t : State) (ht : t.canon) : (t.truJobEnd j e nvFail).canon := truJobEnd_canon ht j e nvFail
    exact canon_ite (ends s h) (canon_ite (underGrant_canon h ends 4 3) (underGrant_canon h ends 5 4))

theorem authorisationExpire_keeps : Keeps (exec .authorisationExpire s) := keeps_next <| by
  split
  · exact h
  · exact authEnd_canon (canon_of_mem (advanceTo_mem s _) h)

theorem extendComplete_keeps : Keeps (exec .extendComplete s) := keeps_mem h <| by
  split
  · rfl
  · extract_lets t tru
    have ht : t.mem = s.mem := extend_mem s _ _
    exact ht

theorem antiRollbackAdvance_keeps (e : BurnEnv) : Keeps (exec (.antiRollbackAdvance e) s) :=
  keeps_mem h (keeps_ite State.mem (advance_mem s e) rfl)

/-! The host port and the debug port (21). -/

theorem hostWrite_keeps (addr : Word) (words : List (Word × Bool)) : Keeps (exec (.hostWrite addr words) s) :=
  keeps_next (sending_canon (s := s.hostBegin) (by exact h) fun _ ht => hostWords_canon ht addr words)

theorem hostRead_keeps (addr : Word) (count : BitVec 8) : Keeps (exec (.hostRead addr count) s) := by
  refine keeps_next ?_
  extract_lets t
  have ht : t.canon := h
  refine canon_ite ht (canon_ite (canon_of_mem (hostProtErr_mem t) ht) ?_)
  exact sending_canon ht fun _ hu => hostFetch_canon _ _ hu

theorem hostReadStartByte_keeps : Keeps (exec .hostReadStartByte s) := keeps_mem h <| by
  split <;> rfl

theorem hostStatus_keeps : Keeps (exec .hostStatus s) := keeps_mem h (keeps_ite State.mem rfl rfl)

theorem hostProtocolError_keeps : Keeps (exec .hostProtocolError s) :=
  keeps_mem h (keeps_ite State.mem (hostProtErr_mem s.hostBegin) rfl)

theorem dbgSelect_keeps (operand : Word) (crc : Byte) : Keeps (exec (.dbgSelect operand crc) s) :=
  keeps_mem h (dbgRun_mem (by simp) _ _ _ _)

theorem dbgRdreg_keeps (operand : Word) (crc : Byte) : Keeps (exec (.dbgRdreg operand crc) s) :=
  keeps_mem h (dbgAt_mem (fun p => by split <;> simp) _ _ _)

theorem dbgWrreg_keeps (operand : Word) (crc : Byte) : Keeps (exec (.dbgWrreg operand crc) s) :=
  keeps_mem h (dbgAt_mem (fun p => by split <;> simp) _ _ _)

theorem dbgRun_canon {op : State → State} (hop : (op s).canon) (cmd : Byte) (operand : Word) (crc : Byte) (allowed : Bool) :
    (s.dbgRun cmd operand crc allowed op).canon :=
  canon_ite h (canon_ite (canon_of_mem (dbgReply_mem s _ _ _) h) (canon_ite hop (canon_of_mem (dbgReply_mem s _ _ _) h)))

/-! The ridge link (21 R539-R549). -/

theorem ridgeMreq_keeps (ld : Bool) (err : LinkErr) (orig : Fin 8) (write : Bool) (tag : BitVec 32) (offset : BitVec 28)
    (v : Word) : Keeps (exec (.ridgeMreq ld err orig write tag offset v) s) := by
  have hr := canon_of_mem (linkTake_mem s ld err orig) h
  exact keeps_next (canon_ite (serveRequest_canon hr _ _ _ _ _ _) hr)

theorem ridgeMrsp_keeps (ld : Bool) (err : LinkErr) (orig : Fin 8) (tag : BitVec 32) (ok : Bool) (v : Word) :
    Keeps (exec (.ridgeMrsp ld err orig tag ok v) s) := by
  have hr := canon_of_mem (linkTake_mem s ld err orig) h
  exact keeps_next (canon_ite (endRequest_canon hr _ _ _ _) hr)

theorem ridgeQmsg_keeps (ld : Bool) (err : LinkErr) (orig : Fin 8) (entry : List Byte) :
    Keeps (exec (.ridgeQmsg ld err orig entry) s) := by
  have hr := canon_of_mem (linkTake_mem s ld err orig) h
  exact keeps_next (canon_ite (takeMessage_canon hr _) hr)

end

section
open State

/-! ### Every command -/

/-- The commands of the field units, which O55 frames. -/
def unitCommand (i : Instr) : Bool :=
  inputCommand i || outputCommand i || loopCommand i || gioCommand i || timerCommand i || ringCommand i || linkCommand i

theorem unitCommand_keeps {s : State} (h : s.canon) {i : Instr} (hi : unitCommand i = true) : Keeps (exec i s) := by
  intro t ht
  refine canon_of_mem ?_ h
  simp only [unitCommand, Bool.or_eq_true, or_assoc] at hi
  rcases hi with hi | hi | hi | hi | hi | hi | hi
  · exact keeps_of_finer (g := State.mem) (h := besidesInputs) (exec_inputCommand ht hi) fun _ => rfl
  · have ho : t = { s with outputs := t.outputs, flt := t.flt } := exec_outputCommand ht hi
    rw [ho]
  · exact keeps_of_finer (g := State.mem) (h := besidesLoops) (exec_loopCommand ht hi) fun _ => rfl
  · exact keeps_of_finer (g := State.mem) (h := besidesGio) (exec_gioCommand ht hi) fun _ => rfl
  · exact keeps_of_finer (g := State.mem) (h := besidesTimers) (exec_timerCommand ht hi) fun _ => rfl
  · exact keeps_of_finer (g := State.mem) (h := besidesRings) (exec_ringCommand ht hi) fun _ => rfl
  · exact keeps_of_finer (g := State.mem) (h := besidesLink) (exec_linkCommand ht hi) fun _ => rfl

/-- The instructions of the processors (04). -/
def instrCommand : Instr → Bool
  | .add _ _ | .sub _ _ | .and_ _ _ | .or_ _ _ | .xor_ _ _ | .sll _ _ | .srl _ _ | .sra _ _ | .slli _ _ | .srli _ _ | .srai _ _
  | .mul _ _ | .mulh _ _ | .mulhu _ _ | .cmp _ _ | .tst _ _ | .min_ _ _ | .max_ _ _ | .minu _ _ | .maxu _ _
  | .divcSq _ _ | .divcUq _ _ | .divcSr _ _ | .divcUr _ _ | .divSq _ _ | .divUq _ _ | .divSr _ _ | .divUr _ _
  | .addi _ _ | .andi _ _ | .ori _ _ | .xori _ _ | .cmpi _ _ | .lui _ _ | .dwmk _ _ | .dwadd _ _ | .dwsub _ _ | .dwlo _ _
  | .ldw _ _ | .ldh _ _ | .ldhu _ _ | .ldb _ _ | .ldbu _ _ | .stw _ _ | .sth _ _ | .stb _ _ | .iold _ _ | .iost _ _
  | .fwld _ _ | .fwst _ _ | .fabricWindowTimeout _ | .amoswap _ _ | .amoadd _ _ | .amocas _ _
  | .br _ _ | .bl _ _ | .call _ _ | .jr _ _ _ | .jlr _ _ _ | .bsbt _ _ | .bsbf _ _ | .loop _ _
  | .smov _ _ | .snot _ _ | .sand _ _ | .sor _ _ | .sxor _ _ | .sand3 _ _ | .sor3 _ _ | .ssel _ _ | .sconst _ _ | .svalid _ _
  | .sbtog _ _ | .scmp _ _ _ | .sbin _ _ | .sbout _ _ | .ssend _ _ | .srecv _ _ | .nop _ _ | .trap _ _ | .rfe _ _ | .ret _ _
  | .mfst _ _ | .mtst _ _ | .mfsr _ _ | .mtsr _ _ | .fence _ _ | .wfi _ _ | .brk _ _ | .cycend _ _
  | .tnew _ _ | .trun _ _ | .tyield _ _ | .twaitq _ _ | .texit _ _ | .tkill _ _ | .tget _ _ | .tset _ _ | .tself _ _ => true
  | _ => false

theorem instrCommand_keeps {s : State} (h : s.canon) {i : Instr} (hi : instrCommand i = true) : Keeps (exec i s) := by
  cases i with
  | add p f | sub p f | and_ p f | or_ p f | xor_ p f | sll p f | srl p f | sra p f | mul p f | mulh p f | mulhu p f | min_ p f
  | max_ p f | minu p f | maxu p f => exact keeps_next (alu_canon h p f _ _ _)
  | slli p f | srli p f | srai p f => exact keeps_next (shiftImm_canon h p f _ _)
  | cmp p f | tst p f => exact keeps_next (compare_canon h p f _ _)
  | divcSq p f | divcUq p f | divcSr p f | divcUr p f => exact keeps_next (divc_canon h p f _ _ _)
  | divSq p f | divUq p f | divSr p f | divUr p f => exact keeps_next (div_canon h p f _ _ _)
  | addi p f | andi p f | ori p f | xori p f => exact keeps_next (aluImm_canon h p f _ _)
  | cmpi p f => exact keeps_instr h fun t => setSt_mem t p _
  | lui p f | dwmk p f => exact keeps_instr h fun t => setGr_mem t p _ _
  | dwadd p f | dwsub p f => exact keeps_next (dualOp_canon h p f _ _)
  | dwlo p f => exact dwlo_keeps h p f
  | ldw p f | ldh p f | ldhu p f | ldb p f | ldbu p f => exact keeps_next (load_canon h p f _)
  | stw p f | sth p f | stb p f => exact keeps_next (store_canon h p f _)
  | iold p f => exact iold_keeps h p f
  | iost p f => exact iost_keeps h p f
  | fwld p f => exact fwld_keeps h p f
  | fwst p f => exact fwst_keeps h p f
  | fabricWindowTimeout x => exact fabricWindowTimeout_keeps h x
  | amoswap p f | amoadd p f | amocas p f => exact keeps_next (amo_canon h p _ f _ _)
  | br p f => exact br_keeps h p f
  | bl p f => exact bl_keeps h p f
  | call p f => exact call_keeps h p f
  | jr p f fn => exact jr_keeps h p f fn
  | jlr p f fn => exact jlr_keeps h p f fn
  | bsbt p f | bsbf p f => exact keeps_next (branchSb_canon h p _ f _)
  | loop p f => exact loop_keeps h p f
  | smov p f | snot p f | sand p f | sor p f | sxor p f | sand3 p f | sor3 p f | ssel p f | svalid p f =>
    exact keeps_next (sbop_canon h p _ f _ _ _)
  | sconst p f => exact sconst_keeps h p f
  | sbtog p f => exact sbtog_keeps h p f
  | scmp p f fn => exact scmp_keeps h p f fn
  | sbin p f => exact sbin_keeps h p f
  | sbout p f => exact sbout_keeps h p f
  | ssend p f => exact ssend_keeps h p f
  | srecv p f => exact srecv_keeps h p f
  | nop p f => exact keeps_instr h fun _ => rfl
  | trap p f => exact keeps_instr h fun _ => rfl
  | rfe p f => exact rfe_keeps h p f
  | ret p f => exact ret_keeps h p f
  | mfst p f | mfsr p f => exact keeps_instr h fun t => setGr_mem t p _ _
  | mtst p f => exact keeps_instr h fun t => setSt_mem t p _
  | mtsr p f => exact mtsr_keeps h p f
  | fence p f => exact fence_keeps h p f
  | wfi p f => exact wfi_keeps h p f
  | brk p f => exact brk_keeps h p f
  | cycend p f => exact cycend_keeps h p f
  | tnew p f => exact tnew_keeps h p f
  | trun p f => exact trun_keeps h p f
  | tyield p f => exact tyield_keeps h p f
  | twaitq p f => exact twaitq_keeps h p f
  | texit p f => exact texit_keeps h p f
  | tkill p f => exact tkill_keeps h p f
  | tget p f => exact tget_keeps h p f
  | tset p f => exact tset_keeps h p f
  | tself p f => exact tself_keeps h p f
  | _ => exact absurd hi Bool.false_ne_true

/-- The commands that are neither an instruction nor of a field unit. -/
theorem otherCommand_keeps {s : State} (h : s.canon) {i : Instr} (hi : ¬ (unitCommand i || instrCommand i) = true) :
    Keeps (exec i s) := by
  cases i with
  | powerUp => exact powerUp_keeps h
  | logicRailFail => exact logicRailFail_keeps h
  | rstNLow => exact rstNLow_keeps h
  | resetRelease straps pll weak => exact resetRelease_keeps h straps pll weak
  | powerOnRunComplete e => exact powerOnRunComplete_keeps h e
  | modeDecision => exact keeps_next (decideMode_canon h)
  | loaderRun slot => exact loaderRun_keeps h slot
  | vholdCharged => exact vholdCharged_keeps h
  | vholdChargeTimeout => exact vholdChargeTimeout_keeps h
  | holdupEntry => exact holdupEntry_keeps h
  | holdupFlushComplete => exact holdupFlushComplete_keeps h
  | powerCycleDetect => exact powerCycleDetect_keeps h
  | powerValid => exact powerValid_keeps h
  | vlOvervoltage _ | junctionOvertemp _ _ | vioFault _ => exact keeps_mem h (driveIf_mem s _ _ _)
  | coreRailFault railB bad => exact keeps_mem h (keeps_ite State.mem rfl ((driveIf_mem _ _ _ _).trans (driverRail_mem s railB bad)))
  | cycleStrobe e => exact keeps_next (canon_ite (strobeA_canon h e) h)
  | channelBStrobeLocked e => exact channelBStrobeLocked_keeps h e
  | acceptanceWindowClose e => exact keeps_next (canon_ite (closeWindow_canon h e) h)
  | earlyStrobeIgnored => exact earlyStrobeIgnored_keeps h
  | colSlotEnd paceA paceB reactDiff modeDiff => exact keeps_next (canon_ite (colSlot_canon h _ _ _ _) h)
  | faultReceipt n wiring detail => exact faultReceipt_keeps h n wiring detail
  | wiringFault n detail => exact wiringFault_keeps h n detail
  | sourceClear n => exact keeps_next (clearSrc_canon h _)
  | outputsConfirmedOff => exact outputsConfirmedOff_keeps h
  | reactConfirmTimeout => exact keeps_next (canon_ite (toMode_canon h _ _) h)
  | quietPeriodComplete n => exact quietPeriodComplete_keeps h n
  | softwareRestart m | serviceExit m | serviceRequest m => exact keeps_next (askMode_canon h m _)
  | testReleaseStart m v => exact keeps_access_mem h (testRelBy_mem s m (v ||| 0x10))
  | testReleaseStop m v => exact keeps_access_mem h (testRelBy_mem s m (v ||| 0x20))
  | testReleaseExpire => exact testReleaseExpire_keeps h
  | commit m mask => exact keeps_access_mem h (startCommit_mem s mask)
  | commitApply => exact keeps_next (commitApply_canon h)
  | discard m mask => exact keeps_access_mem h (discard_mem s mask)
  | snapshotRequest m v => exact keeps_access_mem h (snapAsk_mem s v)
  | snapshot => exact keeps_mem h (takeSnapshot_mem s)
  | timeBaseLowRead m => exact timeBaseLowRead_keeps h m
  | registerWrite m addr v size => exact registerWrite_keeps h m addr v size
  | usrraise m kind v => exact keeps_access_mem h (setUser_mem s _)
  | revokeSet m v => exact keeps_access h (revokeSet_canon h m v)
  | revokeClear m v => exact keeps_access_mem h (revokeClr_mem s m v)
  | recDone => exact recDone_keeps h
  | cycset code => exact keeps_mem h (keeps_ite State.mem rfl (runtimeWrites_mem s _ _))
  | restore => exact keeps_mem h (runtimeWrites_mem s _ _)
  | restoreComplete => exact restoreComplete_keeps h
  | flta v => exact keeps_mem h (runtimeWrites_mem s _ _)
  | taskWake k => exact keeps_mem h (keeps_ite State.mem (makeReady_mem s k) rfl)
  | interrupt core n => exact keeps_mem h (keeps_ite State.mem (takeIrq_mem s core _) rfl)
  | impreciseBus core => exact impreciseBus_keeps h core
  | breakpointHit p slot => exact keeps_mem h (keeps_ite State.mem (breakNow_mem s p) rfl)
  | encoderRateInterval axis enc lv => exact encoderRateInterval_keeps h axis enc lv
  | ringFrameReceive ring2 portB f | netDmaWriteFailure ring2 portB f => exact keeps_next (ringReceive_canon h ring2 portB _ f)
  | ringTransmit ring2 portB => exact keeps_next (canon_ite h (ringSend_canon h ring2 portB))
  | captureSpill n => exact captureSpill_keeps h n
  | loopDacUpdate s0 s1 s2 s3 vlLow => exact loopDacUpdate_keeps h s0 s1 s2 s3 vlLow
  | queueReserve m q => exact keeps_access_mem h (qReserve_mem s q m)
  | queuePublish m q addr => exact keeps_access_mem h (qPublish_mem s q m addr)
  | queueTake m q => exact keeps_access_mem h (qTake_mem s q m)
  | queueRelease m q addr => exact keeps_access_mem h (qRelease_mem s q m addr)
  | fabricTimeout m unit => exact fabricTimeout_keeps h m unit
  | patrolScrubRead err => exact keeps_next (canon_ite h (underGrant_canon h (fun _ ht => patrol_canon ht err) 6 4))
  | recorderDrain => exact recorderDrain_keeps h
  | governorWindow e => exact governorWindow_keeps h e
  | reserveRelease => exact reserveRelease_keeps h
  | grantEnd who energy => exact keeps_mem h (settleGrant_mem s _ _)
  | hotEntry sensor temp => exact hotEntry_keeps h sensor temp
  | selfTestSlice e => exact keeps_mem h (keeps_ite State.mem rfl (pickSlice_mem e _ s))
  | sliceEnd r => exact sliceEnd_keeps h r
  | debtExpire n => exact debtExpire_keeps h n
  | otpProg m word key => exact keeps_access_mem h (otpStartProg_mem s _ _)
  | otpFinal m region key => exact keeps_access_mem h (otpStartFinal_mem s _ _)
  | otpStrengthen m word repair key => exact keeps_access_mem h (otpStartStrengthen_mem s _ _ _)
  | otpJobEnd e => exact otpJobEnd_keeps h e
  | truQuote m key | truAuth m key | truNvwipe m key | truDeauth m key | truConfirm m key => exact keeps_next (truAsk_canon h m _ _ _)
  | truLcadv m x key | truUpbegin m x key | truUpdata m x key | truUpact m x key => exact keeps_next (truAsk_canon h m _ _ _)
  | quoteQueueRequest => exact keeps_next (canon_ite h (underGrant_canon h (fun _ ht => nextQuote_canon ht) 4 3))
  | truJobEnd e nvFail => exact truJobEnd_keeps h e nvFail
  | challenge m => exact keeps_access_mem h (newChal_mem s)
  | cairnExtend m v => exact keeps_access_mem h (extCmd_mem s v)
  | extendComplete => exact extendComplete_keeps h
  | antiRollbackAdvance e => exact antiRollbackAdvance_keeps h e
  | authorisationExpire => exact authorisationExpire_keeps h
  | hostWrite addr words => exact hostWrite_keeps h addr words
  | hostRead addr count => exact hostRead_keeps h addr count
  | hostReadStartByte => exact hostReadStartByte_keeps h
  | hostStatus => exact hostStatus_keeps h
  | hostProtocolError => exact hostProtocolError_keeps h
  | hstFulltest m key | hstRecsearch m key | hstAbort m key => exact keeps_access_mem h (hstCmd_mem s m _ _)
  | hstJobEnd failed => exact keeps_next (hstFinish_canon h failed)
  | joback m v => exact keeps_access_mem h (hstAck_mem s m v)
  | dbgIdent operand crc => exact keeps_mem h (dbgRun_mem (dbgReply_mem s _ _ _) _ _ _ _)
  | dbgSelect operand crc => exact dbgSelect_keeps h operand crc
  | dbgHalt operand crc => exact keeps_mem h (dbgAt_mem (fun p => dbgHalt_mem s p) _ _ _)
  | dbgResume operand crc => exact keeps_mem h (dbgAt_mem (fun p => dbgResume_mem s p) _ _ _)
  | dbgStep operand crc => exact keeps_mem h (dbgAt_mem (fun p => dbgStep_mem s p) _ _ _)
  | dbgArg operand crc | dbgBpset operand crc | dbgBpclr operand crc =>
    exact keeps_mem h (dbgAt_mem (fun p => dbgReply_mem _ _ _ _) _ _ _)
  | dbgRdreg operand crc => exact dbgRdreg_keeps h operand crc
  | dbgWrreg operand crc => exact dbgWrreg_keeps h operand crc
  | dbgAddr operand crc => exact keeps_mem h (dbgRun_mem ((dbgReply_mem (s.dbgTo operand) _ _ _).trans (dbgTo_mem s operand)) _ _ _ _)
  | dbgRdmem operand crc => exact keeps_next (dbgRun_canon h (dbgRead_canon h) _ _ _ _)
  | dbgWrmem operand crc => exact keeps_next (dbgRun_canon h (dbgWrite_canon h operand) _ _ _ _)
  | debugPortReset => exact keeps_mem h (dbgTo_mem s 0)
  | ridgeMreq ld err orig write tag offset v => exact ridgeMreq_keeps h ld err orig write tag offset v
  | ridgeMrsp ld err orig tag ok v => exact ridgeMrsp_keeps h ld err orig tag ok v
  | ridgeRequestTimeout dest tag => exact keeps_next (endRequest_canon h _ _ _ _)
  | ridgeQmsg ld err orig entry => exact ridgeQmsg_keeps h ld err orig entry
  | ridgeQmsgSend q => exact keeps_next (canon_ite (underGrant_canon h (fun _ ht => sendMessage_canon ht q) 3 2) h)
  | _ => exact (hi rfl).elim

theorem exec_keeps {s : State} (h : s.canon) (i : Instr) : Keeps (exec i s) := by
  by_cases hi : (unitCommand i || instrCommand i) = true
  · exact (Bool.or_eq_true_iff.1 hi).elim (unitCommand_keeps h) (instrCommand_keeps h)
  · exact otherCommand_keeps h hi

theorem step_keeps {s : State} (h : s.canon) : Keeps (step s) := by
  unfold step
  split
  · exact keeps_next (canon_of_mem (idleTick_mem s) h)
  · exact exec_keeps (by exact h) _

end

/-- Settles O60: a step is a tick or the front command, and every command keeps the memory or writes its bytes by the operations that
keep its form. -/
theorem memoryCanonicalKept : Obligations.MemoryCanonicalKept := by
  unfold Obligations.MemoryCanonicalKept
  intro s t h ht
  exact step_keeps h t ht

end Sys2Proof.Machine
end

section
/-! SUPPORT. The general I/O bank (15 R405-R412): what the note of a condition changes, when a driver is on, and the bank's own
commands. -/
namespace Sys2Proof.Machine

/-! ### Bits of a word that is built bit by bit -/

theorem testBit_ofBits (n : Nat) (p : Nat → Bool) (k i : Nat) : (ofBits n p k).testBit i = (decide (i < k) && p i) := by
  induction k with
  | zero => simp [ofBits]
  | succ k ih =>
    have hk : (if p k then 1 <<< k else 0 : Nat).testBit i = (decide (k = i) && p k) := by
      split
      next hp => simp [hp, Nat.one_shiftLeft, Nat.testBit_two_pow]
      next hp => simp [hp]
    rw [ofBits, Nat.testBit_or, ih, hk]
    by_cases h : k = i
    · subst h
      simp
    · have hlt : i < k + 1 ↔ i < k := by omega
      simp [h, hlt]

theorem ne_zero_of_bit {n : Nat} {w : BitVec n} {i : Nat} (h : w.getLsbD i = true) : w ≠ 0 := by
  rintro rfl
  simp at h

theorem getLsbD_putBit_same {n : Nat} (w : BitVec n) {i : Nat} (hi : i < n) (b : Bool) : (putBit w i b).getLsbD i = b := by
  rw [getLsbD_putBit, if_pos rfl, decide_eq_true hi, Bool.true_and]

namespace State

/-! ### A condition of the bank is noted (15 R405, R407, R412) -/

theorem gioNote_gio (s : State) : s.gioNote.gio = { s.gio with mism := s.gio.mism &&& s.gioDiffers } := by
  unfold gioNote
  dsimp only
  split
  · exact drive_keeps State.gio _ 118 0
  · rfl

/-- The bank with the conditions of g, noted. -/
def gioNoted (s : State) (g : GioSt) : State := { s with gio := g }.gioNote

section
variable (s : State) (g : GioSt)

theorem gioNoted_gio : (s.gioNoted g).gio = { g with mism := g.mism &&& ({ s with gio := g } : State).gioDiffers } := gioNote_gio _

@[simp] theorem gioNoted_lv : (s.gioNoted g).gio.lv = g.lv := by rw [gioNoted_gio]
@[simp] theorem gioNoted_trip : (s.gioNoted g).gio.trip = g.trip := by rw [gioNoted_gio]
@[simp] theorem gioNoted_tpTrip : (s.gioNoted g).gio.tpTrip = g.tpTrip := by rw [gioNoted_gio]
@[simp] theorem gioNoted_hot : (s.gioNoted g).gio.hot = g.hot := by rw [gioNoted_gio]
@[simp] theorem gioNoted_tripAt : (s.gioNoted g).gio.tripAt = g.tripAt := by rw [gioNoted_gio]
@[simp] theorem gioNoted_wdexp : (s.gioNoted g).gio.wdexp = g.wdexp := by rw [gioNoted_gio]
@[simp] theorem gioNoted_wdAt : (s.gioNoted g).gio.wdAt = g.wdAt := by rw [gioNoted_gio]

theorem gioNoted_mism : (s.gioNoted g).gio.mism = g.mism &&& ({ s with gio := g } : State).gioDiffers :=
  congrArg GioSt.mism (gioNoted_gio s g)

end

theorem gioNote_reg (s : State) {a : Nat} (h : a ≠ gioB) : s.gioNote.reg a = s.reg a := by
  unfold gioNote
  dsimp only
  split
  · exact (drive_keeps (fun t => t.reg a) _ 118 0).trans (reg_setReg_ne _ _ _ _ h)
  · rfl

/-- FAULT and F118 while any condition stands. -/
theorem gioNoted_faults {s : State} {g : GioSt}
    (h : g.trip ≠ 0 ∨ g.tpTrip ≠ 0 ∨ g.hot ≠ 0 ∨ (s.gioNoted g).gio.mism ≠ 0) :
    ((s.gioNoted g).reg gioB).getLsbD 1 = true ∧ ((s.gioNoted g).src 118).rail ≠ .ok := by
  rw [gioNoted_mism] at h
  have hfault :
      ({ s with gio := { g with mism := g.mism &&& ({ s with gio := g } : State).gioDiffers } } : State).gioFault = true := by
    simp only [gioFault, Bool.or_eq_true, bne_iff_ne]
    tauto
  unfold gioNoted gioNote
  dsimp only
  rw [if_pos hfault]
  refine ⟨?_, drive_rail _ 118 0 rfl⟩
  rw [drive_keeps (fun t => t.reg gioB) _ 118 0]
  exact setBits_sets _ _ rfl

theorem gioDiffers_bit (s : State) (n : Fin 16) :
    s.gioDiffers.getLsbD n = (decide (s.gioPin n = 2) && (s.gioOn n != s.gio.lv.getLsbD n)) := by
  rw [gioDiffers, BitVec.getLsbD_ofNat, testBit_ofBits, decide_eq_true n.isLt, Bool.true_and, Bool.true_and]
  rfl

/-! ### Drivers (15 R405, R407) -/

theorem gioOn_tripped {s : State} {n : Nat} (h : s.gio.trip.getLsbD n = true) : s.gioOn n = false := by
  have hb : bit s.gio.trip n = true := h
  simp [gioOn, hb]

theorem gioOn_hot {s : State} {n : Nat} (h : s.gio.hot.getLsbD n = true) : s.gioOn n = false := by
  have hb : bit s.gio.hot n = true := h
  simp [gioOn, hb]

theorem tpDrive_tripped {s : State} {n : Nat} (h : s.gio.tpTrip.getLsbD n = true) : s.tpDrive n = false := by
  have hb : bit s.gio.tpTrip n = true := h
  simp [tpDrive, hb]

/-- The filter times of 15 R406, in ticks. -/
theorem gioFilt_eq (s : State) (n : Nat) : s.gioFilt n
    = if (s.reg (gioB + 0x40 + 4 * n)).extractLsb' 2 2 = 0 then 10
      else if (s.reg (gioB + 0x40 + 4 * n)).extractLsb' 2 2 = 1 then 100
      else if (s.reg (gioB + 0x40 + 4 * n)).extractLsb' 2 2 = 2 then 1000 else 10000 := by
  have hlen : ∀ v : BitVec 2, (match v.toNat with | 0 => 10 | 1 => 100 | 2 => 1000 | _ => 10000)
      = if v = 0 then 10 else if v = 1 then 100 else if v = 2 then 1000 else 10000 := by decide
  exact hlen ((s.reg (gioB + 0x40 + 4 * n)).extractLsb' 2 2)

theorem advanceTo_gio (s : State) (t : Nat) : (s.advanceTo t).gio = s.gio :=
  keeps_of_finer (advanceTo_besides s t) (g := State.gio) fun _ => rfl

end State

/-! ### The commands of the bank -/

section
open State
variable (s : State) (n : Fin 16)

theorem exec_gioInputChange_held {x : HeldLevel}
    (h : s.gioPin n = 0 ∨ s.gio.lv.getLsbD n = x.level ∨ x.held.toNat < s.gioFilt n) : exec (.gioInputChange n x) s = .next s :=
  congrArg Host.Outcome.next (if_pos h)

/-- The bank after pin n has taken level b. -/
def gioLevelled (b : Bool) : State := s.gioNoted { s.gio with lv := putBit s.gio.lv n b }

/-- Whether CEDGE of pin n selects the edge to level b. -/
theorem edge_testBit (w : Word) (b : Bool) :
    (if b then (fld w 4 2).testBit 0 else (fld w 4 2).testBit 1) = w.getLsbD (if b then 4 else 5) := by
  have hbit (k : Nat) (hk : k < 2) : (fld w 4 2).testBit k = w.getLsbD (4 + k) := by
    rw [fld, Nat.testBit_mod_two_pow, Nat.testBit_shiftRight, decide_eq_true hk, Bool.true_and]
    rfl
  cases b
  · exact hbit 1 (by decide)
  · exact hbit 0 (by decide)

theorem exec_gioInputChange_taken {x : HeldLevel}
    (h : ¬ (s.gioPin n = 0 ∨ s.gio.lv.getLsbD n = x.level ∨ x.held.toNat < s.gioFilt n)) :
    exec (.gioInputChange n x) s = .next (if (s.reg (gioB + 0x40 + 4 * n)).getLsbD (if x.level then 4 else 5)
      then ((gioLevelled s n x.level).countUp (gioB + 0x100 + 4 * n)).setBits (gioB + 0x28) (flag n true)
      else gioLevelled s n x.level) := by
  refine congrArg Host.Outcome.next ((if_neg h).trans ?_)
  dsimp only
  rw [edge_testBit]
  rfl

theorem gioLevelled_lv (b : Bool) : (gioLevelled s n b).gio.lv.getLsbD n = b := by
  rw [gioLevelled, gioNoted_lv]
  exact getLsbD_putBit_same _ n.isLt b

theorem gioInputChange_takes {x : HeldLevel}
    (h : ¬ (s.gioPin n = 0 ∨ s.gio.lv.getLsbD n = x.level ∨ x.held.toNat < s.gioFilt n)) :
    ∃ t, exec (.gioInputChange n x) s = .next t ∧ t.gio.lv.getLsbD n = x.level
      ∧ t.reg (gioB + 0x100 + 4 * n) = (if (s.reg (gioB + 0x40 + 4 * n)).getLsbD (if x.level then 4 else 5)
          then s.reg (gioB + 0x100 + 4 * n) + 1 else s.reg (gioB + 0x100 + 4 * n))
      ∧ ((s.reg (gioB + 0x40 + 4 * n)).getLsbD (if x.level then 4 else 5) = true →
          (t.reg (gioB + 0x28)).getLsbD n = true) := by
  have hcnt : (gioLevelled s n x.level).reg (gioB + 0x100 + 4 * n) = s.reg (gioB + 0x100 + 4 * n) := gioNote_reg _ (by omega)
  refine ⟨_, exec_gioInputChange_taken s n h, ?_⟩
  cases (s.reg (gioB + 0x40 + 4 * n)).getLsbD (if x.level then 4 else 5)
  · exact ⟨gioLevelled_lv s n _, hcnt, fun hf => absurd hf Bool.false_ne_true⟩
  · refine ⟨gioLevelled_lv s n _, ?_, fun _ => setBits_sets _ _ ?_⟩
    · refine (reg_setReg_ne _ _ _ _ (by omega)).trans ?_
      exact (reg_setReg _ _ _).trans (congrArg (· + 1) hcnt)
    · rw [getLsbD_flag, decide_eq_true (n.isLt.trans (by decide)), decide_eq_true rfl]
      rfl

theorem exec_gioCurrentLimitTrip_pin (h : s.gioOn n = true) : exec (.gioCurrentLimitTrip false n) s
    = .next (s.gioNoted { s.gio with trip := putBit s.gio.trip n true, tripAt := put 0 s.gio.tripAt n s.now }) :=
  congrArg Host.Outcome.next (if_pos h)

theorem gioCurrentLimitTrip_pin (h : s.gioOn n = true) :
    ∃ t, exec (.gioCurrentLimitTrip false n) s = .next t ∧ t.gio.trip.getLsbD n = true ∧ t.gioOn n = false
      ∧ look 0 t.gio.tripAt n = s.now ∧ (t.reg gioB).getLsbD 1 = true ∧ (t.src 118).rail ≠ .ok := by
  have hbit := getLsbD_putBit_same s.gio.trip n.isLt true
  refine ⟨_, exec_gioCurrentLimitTrip_pin s n h, ?_, gioOn_tripped ?_, ?_, gioNoted_faults (.inl (ne_zero_of_bit hbit))⟩
  · rwa [gioNoted_trip]
  · rwa [gioNoted_trip]
  · rw [gioNoted_tripAt]
    exact look_put _ _ _ _

theorem exec_gioCurrentLimitTrip_tp (hn : n.val < 8) (h : s.tpDrive n = true) : exec (.gioCurrentLimitTrip true n) s
    = .next (s.gioNoted { s.gio with tpTrip := putBit s.gio.tpTrip n true, tripAt := put 0 s.gio.tripAt (16 + n) s.now }) :=
  congrArg Host.Outcome.next (if_pos (And.intro hn h))

theorem gioCurrentLimitTrip_tp (hn : n.val < 8) (h : s.tpDrive n = true) :
    ∃ t, exec (.gioCurrentLimitTrip true n) s = .next t ∧ t.gio.tpTrip.getLsbD n = true ∧ t.tpDrive n = false
      ∧ (t.reg gioB).getLsbD 1 = true := by
  have hbit := getLsbD_putBit_same s.gio.tpTrip hn true
  refine ⟨_, exec_gioCurrentLimitTrip_tp s n hn h, ?_, tpDrive_tripped ?_, (gioNoted_faults (.inr (.inl (ne_zero_of_bit hbit)))).1⟩
  · rwa [gioNoted_tpTrip]
  · rwa [gioNoted_tpTrip]

theorem exec_gioCurrentLimitTrip_pinOff (h : s.gioOn n = false) : exec (.gioCurrentLimitTrip false n) s = .next s :=
  congrArg Host.Outcome.next (if_neg (Bool.eq_false_iff.1 h))

theorem exec_gioCurrentLimitTrip_tpOff (h : 8 ≤ n.val ∨ s.tpDrive n = false) : exec (.gioCurrentLimitTrip true n) s = .next s := by
  have hn : ¬ (n.val < 8 ∧ s.tpDrive n = true) := by
    rintro ⟨hn, hd⟩
    rcases h with h | h
    · omega
    · exact absurd (h.symm.trans hd) Bool.false_ne_true
  exact congrArg Host.Outcome.next (if_neg hn)

theorem exec_gioOvertemp (h : s.gioPin n = 2) (b : Bool) :
    exec (.gioOvertemp n b) s = .next (s.gioNoted { s.gio with hot := putBit s.gio.hot n b }) :=
  congrArg Host.Outcome.next (if_pos h)

theorem gioOvertemp_hot (h : s.gioPin n = 2) :
    ∃ t, exec (.gioOvertemp n true) s = .next t ∧ t.gio.hot.getLsbD n = true ∧ t.gioOn n = false
      ∧ (t.reg gioB).getLsbD 1 = true ∧ (t.src 118).rail ≠ .ok := by
  have hbit := getLsbD_putBit_same s.gio.hot n.isLt true
  refine ⟨_, exec_gioOvertemp s n h true, ?_, gioOn_hot ?_, gioNoted_faults (.inr (.inr (.inl (ne_zero_of_bit hbit))))⟩
  · rwa [gioNoted_hot]
  · rwa [gioNoted_hot]

theorem gioOvertemp_cool (h : s.gioPin n = 2) :
    ∃ t, exec (.gioOvertemp n false) s = .next t ∧ t.gio.hot.getLsbD n = false := by
  refine ⟨_, exec_gioOvertemp s n h false, ?_⟩
  rw [gioNoted_hot]
  exact getLsbD_putBit_same _ n.isLt false

theorem gioReadbackMismatch_holds (bad : Bool) : ∃ t, exec (.gioReadbackMismatch n bad) s = .next t
    ∧ t.gio.mism.getLsbD n = (bad && decide (s.gioPin n = 2) && (s.gioOn n != s.gio.lv.getLsbD n))
    ∧ (t.gio.mism.getLsbD n = true → (t.reg gioB).getLsbD 1 = true ∧ (t.src 118).rail ≠ .ok) := by
  have hexec : exec (.gioReadbackMismatch n bad) s = .next (s.gioNoted { s.gio with mism := putBit s.gio.mism n bad }) := rfl
  refine ⟨_, hexec, ?_, fun hm => gioNoted_faults (.inr (.inr (.inr (ne_zero_of_bit hm))))⟩
  rw [gioNoted_mism, BitVec.getLsbD_and, getLsbD_putBit_same _ n.isLt, gioDiffers_bit, Bool.and_assoc]
  rfl

theorem exec_gioDriverRestore_pin (h : s.gio.trip.getLsbD n = true) : exec (.gioDriverRestore false n) s
    = .next (let t := s.advanceTo (look 0 s.gio.tripAt n + 20000000)
      t.gioNoted { t.gio with trip := putBit t.gio.trip n false }) := by
  have hb : bit s.gio.trip n = true := h
  exact congrArg Host.Outcome.next (if_neg (by simp [hb]))

theorem gioDriverRestore_pin (h : s.gio.trip.getLsbD n = true) : ∃ t, exec (.gioDriverRestore false n) s = .next t
    ∧ t.gio.trip.getLsbD n = false ∧ t.gio.tpTrip = s.gio.tpTrip := by
  refine ⟨_, exec_gioDriverRestore_pin s n h, ?_, ?_⟩
  · rw [gioNoted_trip]
    exact getLsbD_putBit_same _ n.isLt false
  · rw [gioNoted_tpTrip, advanceTo_gio]

theorem exec_gioDriverRestore_tp (hn : n.val < 8) (h : bit s.gio.tpTrip n = true) : exec (.gioDriverRestore true n) s
    = .next (let t := s.advanceTo (look 0 s.gio.tripAt (16 + n) + 20000000)
      t.gioNoted { t.gio with tpTrip := putBit t.gio.tpTrip n false }) :=
  congrArg Host.Outcome.next (if_neg (by simp [h, hn]))

theorem gioDriverRestore_tp (hn : n.val < 8) (h : bit s.gio.tpTrip n = true) : ∃ t, exec (.gioDriverRestore true n) s = .next t
    ∧ bit t.gio.tpTrip n = false ∧ t.gio.trip = s.gio.trip := by
  refine ⟨_, exec_gioDriverRestore_tp s n hn h, ?_, ?_⟩
  · rw [gioNoted_tpTrip]
    exact getLsbD_putBit_same _ hn false
  · rw [gioNoted_trip, advanceTo_gio]

theorem exec_gioDriverRestore_idle {tp : Bool}
    (h : (if tp then decide (n.val < 8) && bit s.gio.tpTrip n else bit s.gio.trip n) = false) :
    exec (.gioDriverRestore tp n) s = .next s :=
  congrArg Host.Outcome.next (if_pos (by rw [h]; rfl))

end

/-! ### The bank's watchdog (15 R408-R410) -/

section
open State
variable (s : State) (m : Fin 10)

theorem exec_wdkick (hm : s.revoked m = false) (v : Word) :
    exec (.wdkick m v) s = .next ((s.gioKick v).1.answer (s.gioKick v).2 []) :=
  congrArg Host.Outcome.next (if_neg (by simp [hm]))

theorem fld_eq_key {v : Word} : fld v 0 16 = 0xA55A ↔ v.extractLsb' 0 16 = 0xA55A :=
  ⟨fun h => BitVec.eq_of_toNat_eq h, fun h => congrArg BitVec.toNat h⟩

theorem gioKick_badKey {v : Word} (h : v.extractLsb' 0 16 ≠ 0xA55A) : s.gioKick v = (s, stIgnored) := if_pos (mt fld_eq_key.1 h)

theorem gioKick_opens {v : Word} (h : v.extractLsb' 0 16 = 0xA55A) (ht : s.gioTime ≠ 0) (hf : s.md.mode.follows = true)
    (hx : s.gio.wdexp = false) (hw : s.gio.wdAt = none ∨ ∃ u, s.gio.wdAt = some u ∧ s.now < u + s.gioTime) :
    s.gioKick v = ({ s with gio := { s.gio with wdAt := some s.now } }, stOk) := by
  unfold gioKick
  rw [if_neg (not_not.2 (fld_eq_key.2 h)), if_neg (by simp [ht, hf, hx])]
  rcases hw with hw | ⟨u, hw, hlt⟩
  · rw [hw]
  · rw [hw]
    exact if_pos hlt

theorem gioKick_noWindow {v : Word} (h : v.extractLsb' 0 16 = 0xA55A)
    (hw : s.gioTime = 0 ∨ s.gio.wdexp = true ∨ ∃ u, s.gio.wdAt = some u ∧ u + s.gioTime ≤ s.now) : s.gioKick v = (s, stOk) := by
  unfold gioKick
  rw [if_neg (not_not.2 (fld_eq_key.2 h))]
  split
  · rfl
  next hrun =>
    rcases hw with hw | hw | ⟨u, hw, hle⟩
    · exact absurd (.inl hw) hrun
    · exact absurd (.inr (.inr hw)) hrun
    · rw [hw]
      exact if_neg (by omega)

/-- The state at the end of the window that opened at u: F119 and the safe pattern. -/
def wdExpired (u : Nat) : State :=
  let t := s.advanceTo (u + s.gioTime)
  { t with gio := { t.gio with wdexp := true, wdAt := none } }.drive 119 0

theorem wdExpired_gio (u : Nat) : (wdExpired s u).gio.wdexp = true ∧ (wdExpired s u).gio.wdAt = none := by
  rw [wdExpired, drive_keeps State.gio _ 119 0]
  exact ⟨rfl, rfl⟩

theorem gioNote_keeps_fault {t : State} {k : Nat} (h : (t.src k).rail ≠ .ok) : (t.gioNote.src k).rail ≠ .ok := by
  unfold gioNote
  dsimp only
  split
  · exact drive_keeps_fault _ _ _ _ h
  · exact h

theorem exec_gioWatchdogExpire {u : Nat} (hu : s.gio.wdAt = some u) (ht : s.gioTime ≠ 0) :
    exec .gioWatchdogExpire s = .next (wdExpired s u).gioNote := by
  show execGioWatchdogExpire s = _
  unfold execGioWatchdogExpire
  rw [hu]
  exact congrArg Host.Outcome.next (if_neg ht)

theorem gioWatchdogExpire_expires {u : Nat} (hu : s.gio.wdAt = some u) (ht : s.gioTime ≠ 0) :
    ∃ t, exec .gioWatchdogExpire s = .next t ∧ t.gio.wdexp = true ∧ t.gio.wdAt = none ∧ t.gioSafe = true
      ∧ (t.src 119).rail ≠ .ok := by
  obtain ⟨hexp, hat⟩ := wdExpired_gio s u
  have hexp' : (wdExpired s u).gioNote.gio.wdexp = true := by rwa [gioNote_gio]
  refine ⟨_, exec_gioWatchdogExpire s hu ht, hexp', ?_, by simp [gioSafe, hexp'], gioNote_keeps_fault (drive_rail _ 119 0 rfl)⟩
  rwa [gioNote_gio]

theorem exec_gioWatchdogExpire_stopped (h : s.gio.wdAt = none) : exec .gioWatchdogExpire s = .next s := by
  show execGioWatchdogExpire s = _
  unfold execGioWatchdogExpire
  rw [h]

theorem exec_gioWatchdogClear (hm : s.revoked m = false) : exec (.gioWatchdogClear m) s = .next (s.gioClearWd.answer stOk []) :=
  congrArg Host.Outcome.next (if_neg (by simp [hm]))

theorem gioClearWd_idle (h : s.gio.wdexp = false) : s.gioClearWd = s := if_pos (by simp [h])

theorem gioClearWd_gio (h : s.gio.wdexp = true) : s.gioClearWd.gio.wdexp = false
    ∧ s.gioClearWd.gio.wdAt = (if s.gioTime ≠ 0 ∧ s.md.mode.follows = true then some s.now else none) := by
  unfold gioClearWd
  rw [if_neg (by simp [h]), gioNote_gio]
  refine ⟨rfl, ?_⟩
  by_cases ht : s.gioTime = 0 <;> cases hf : s.md.mode.follows <;> simp [ht]

end

/-- Settles O50: each command of the bank by its equation; a trip, a temperature or a mismatch that stands is a fault of the bank, and
what is noted leaves the other conditions. -/
theorem gioCommands : Obligations.GioCommands := by
  unfold Obligations.GioCommands
  intro s n cfg filt
  have hfilt : s.gioFilt n = filt := State.gioFilt_eq s n
  refine ⟨fun x => ⟨fun h => exec_gioInputChange_held s n (by rwa [hfilt]), fun hp hl hf => gioInputChange_takes s n ?_⟩,
    gioCurrentLimitTrip_pin s n, exec_gioCurrentLimitTrip_pinOff s n,
    fun h => ⟨gioOvertemp_hot s n h, gioOvertemp_cool s n h⟩, fun h _ => congrArg Host.Outcome.next (if_neg h),
    gioReadbackMismatch_holds s n, gioCurrentLimitTrip_tp s n,
    exec_gioCurrentLimitTrip_tpOff s n,
    gioDriverRestore_pin s n, fun h => exec_gioDriverRestore_idle s n (tp := false) h, fun hn b hb => ⟨?_, ?_⟩, ?_, ?_, ?_,
    exec_gioWatchdogExpire_stopped s, ?_⟩
  · rw [hfilt]
    rintro (h | h | h)
    · exact hp h
    · exact hl h
    · omega
  · exact fun h => gioDriverRestore_tp s n hn (hb.trans h)
  · exact fun h => exec_gioDriverRestore_idle s n (tp := true) (by simp [hb.trans h])
  · exact fun low => ⟨_, rfl, congrArg GioSt.vgLow (State.gioNote_gio _)⟩
  · intro m v hm
    rw [exec_wdkick s m hm]
    refine ⟨fun h => ?_, fun h ht hf hx hw => ?_, fun h hw => ?_⟩
    · rw [gioKick_badKey s h]
    · rw [gioKick_opens s h ht hf hx hw]
    · rw [gioKick_noWindow s h hw]
  · exact fun u hu ht => gioWatchdogExpire_expires s hu ht
  · intro m hm
    rw [exec_gioWatchdogClear s m hm]
    refine ⟨fun h => ?_, fun h => ?_⟩
    · obtain ⟨hexp, hat⟩ := gioClearWd_gio s h
      exact ⟨_, rfl, hexp, rfl, hat⟩
    · rw [gioClearWd_idle s h]

end Sys2Proof.Machine
end

section
/-! SUPPORT. The queue registers of a master, a fabric timeout, the scrubber and the drain of the recorder (16 R417-R434; 23 R576). -/
namespace Sys2Proof.Machine

namespace State

/-! ### Queue registers (16 R420, R421) -/

section
variable {s : State} {q m : Nat}

theorem qReserve_free (hfull : s.qFull q = false) (hen : s.qEn q = true) (hown : s.qOwned q = true)
    (hpush : (s.qPushM q).testBit m = true) : s.qReserve q m
      = (s.setQueue q { s.queue q with
          slots := (s.queue q).slots ++ [{ idx := (s.queue q).next, st := .reserved m }]
          next := ((s.queue q).next + 1) % s.qDepth q }, w32 (s.qSlotAddr q (s.queue q).next) ||| 1) := by
  simp [qReserve, hfull, hen, hown, hpush]

theorem qReserve_refused (h : s.qFull q = true ∨ s.qEn q = false ∨ s.qOwned q = false ∨ (s.qPushM q).testBit m = false) :
    s.qReserve q m = (s, 0) := by
  refine if_pos ?_
  rcases h with h | h | h | h <;> simp [h]

theorem qFind_none {a : Nat} {st : SlotSt} (h : ∀ e ∈ (s.queue q).slots, ¬ (s.qSlotAddr q e.idx = a ∧ e.st = st)) :
    s.qFind q a st = none := by
  have hfind : (s.queue q).slots.find? (fun e => s.qSlotAddr q e.idx == a && e.st == st) = none := by
    simpa using h
  rw [qFind, hfind]

theorem qPublish_found {a : Word} {i : Nat} (h : s.qFind q a.toNat (.reserved m) = some i) : s.qPublish q m a
    = (s.setQueue q { s.queue q with slots := Queue.mark i .published (s.queue q).slots }, stOk) := by
  rw [qPublish, h]

theorem qPublish_refused {a : Word} (h : ∀ e ∈ (s.queue q).slots, ¬ (s.qSlotAddr q e.idx = a.toNat ∧ e.st = .reserved m)) :
    s.qPublish q m a = (s, stIgnored) := by
  rw [qPublish, qFind_none h]

theorem qRelease_found {a : Word} {i : Nat} (h : s.qFind q a.toNat (.taken m) = some i) : s.qRelease q m a
    = (s.setQueue q (Queue.trim { s.queue q with slots := Queue.mark i .released (s.queue q).slots }), stOk) := by
  rw [qRelease, h]

theorem qRelease_refused {a : Word} (h : ∀ e ∈ (s.queue q).slots, ¬ (s.qSlotAddr q e.idx = a.toNat ∧ e.st = .taken m)) :
    s.qRelease q m a = (s, stIgnored) := by
  rw [qRelease, qFind_none h]

theorem qTake_front {e : Slot} (h : Queue.front (s.queue q).slots = some e) (hpop : (s.qPopM q).testBit m = true) : s.qTake q m
    = (s.setQueue q { s.queue q with slots := Queue.mark e.idx (.taken m) (s.queue q).slots },
      w32 (s.qSlotAddr q e.idx) ||| 1) := by
  rw [qTake, h]
  exact if_pos hpop

theorem qTake_refused (h : Queue.front (s.queue q).slots = none ∨ (s.qPopM q).testBit m = false) : s.qTake q m = (s, 0) := by
  unfold qTake
  dsimp only
  split
  · rfl
  next e he =>
    rcases h with h | h
    · rw [h] at he
      cases he
    · exact if_neg (Bool.eq_false_iff.1 h)

end

/-! ### A fabric timeout (16 R417) -/

/-- A timeout of a master without an access to another device completes its oldest posted store alone. -/
theorem tagTimeout_local {s : State} {m : Nat} (h : ∀ x ∈ s.lnk.remote, x.core ≠ m) : s.tagTimeout m = s
    ∨ ∃ hm : m < 4, ∃ e rest, (s.cpu (.ac ⟨m, hm⟩)).posted = e :: rest
      ∧ s.tagTimeout m = s.setCpu (.ac ⟨m, hm⟩) { s.cpu (.ac ⟨m, hm⟩) with posted := (stError, e.2) :: rest } := by
  have hone : s.lnk.remote.find? (fun r => r.core == m) = none := by simpa using h
  have hload : s.lnk.remote.find? (fun r => r.core == m && r.isLoad) = none := by
    simp only [List.find?_eq_none] at hone ⊢
    exact fun x hx hc => hone x hx (Bool.and_eq_true_iff.1 hc).1
  unfold tagTimeout
  split
  next hm =>
    have hcore : s.core m = s.cpu (.ac ⟨m, hm⟩) := by
      interval_cases m <;> rfl
    rw [hload, hcore]
    split
    next hr => cases hr
    next e rest hp _ => exact .inr ⟨hm, e, rest, hp, rfl⟩
    · exact .inl rfl
  · rw [hone]
    exact .inl rfl

theorem tagTimeout_posted {s : State} {k : Fin 4} (h : ∀ x ∈ s.lnk.remote, x.core ≠ k.val) {e : Nat × Word}
    {rest : List (Nat × Word)} (hp : (s.cpu (.ac k)).posted = e :: rest) :
    ((s.tagTimeout k).cpu (.ac k)).posted = (stError, e.2) :: rest := by
  have hload : s.lnk.remote.find? (fun r => r.core == k.val && r.isLoad) = none := by
    simp only [List.find?_eq_none]
    exact fun x hx hc => h x hx (beq_iff_eq.1 (Bool.and_eq_true_iff.1 hc).1)
  have hcore : s.core k = s.cpu (.ac k) := by
    fin_cases k <;> rfl
  unfold tagTimeout
  rw [dif_pos k.isLt, hload, hcore, hp]
  split
  next hr => cases hr
  next he _ =>
    cases he
    rw [cpu_setCpu]
  next he _ => cases he

/-! ### The admission of a hardware job (17 R442, R443) -/

/-- A job that has its grant goes on under it. -/
theorem admitJob_granted {s : State} {n : Nat} (hgov : s.governs = true)
    (hg : ∃ g ∈ s.gov.grants, g.who = .job n ∧ g.ended = false) (cls : Nat) (forced : Bool) :
    s.admitJob n cls forced = (s, true) := by
  have hany : s.gov.grants.any (fun g => g.who == .job n && !g.ended) = true := by
    obtain ⟨g, hmem, hwho, hend⟩ := hg
    exact List.any_eq_true.2 ⟨g, hmem, by simp [hwho, hend]⟩
  exact if_pos (by rw [hgov, hany]; rfl)

theorem underGrant_granted {s : State} {n : Nat} (hgov : s.governs = true)
    (hg : ∃ g ∈ s.gov.grants, g.who = .job n ∧ g.ended = false) (cls : Nat) (f : State → State) :
    s.underGrant n cls f = f s := by
  rw [underGrant, admitJob_granted hgov hg]
  rfl

/-- A job is denied outside the governor's modes, and while HOT stands without a grant of its own. -/
theorem admitJob_denied {s : State} {n : Nat}
    (h : s.governs = false ∨ (s.gov.hot = true ∧ ∀ g ∈ s.gov.grants, g.who = .job n → g.ended = true)) (cls : Nat) :
    s.admitJob n cls false = (s, false) ∨ s.admitJob n cls false = (s.deny (.job n) cls (Config.jobCost n), false) := by
  have hno : (s.governs && s.gov.grants.any (fun g => g.who == .job n && !g.ended)) = false := by
    rcases h with h | ⟨-, h⟩
    · rw [h]
      rfl
    · rw [Bool.and_eq_false_iff]
      refine .inr (List.any_eq_false.2 fun g hg => ?_)
      by_cases hw : g.who = .job n
      · simp [h g hg hw]
      · simp [hw]
  have hask : s.decideAsk (.job n) cls (Config.jobCost n) false = none := by
    unfold decideAsk
    refine (if_neg Bool.false_ne_true).trans (if_pos ?_)
    rcases h with h | ⟨h, -⟩ <;> simp [h]
  unfold admitJob
  rw [if_neg (Bool.eq_false_iff.1 hno), hask]
  split
  · exact .inl rfl
  · exact .inr rfl

/-- The denial of a job is noted in the governor alone. -/
theorem deny_job (s : State) (n cls : Nat) (cost : Int) : ∃ g, s.deny (.job n) cls cost = { s with gov := g } := by
  unfold deny
  dsimp only
  split
  · split
    · exact ⟨s.gov, rfl⟩
    · exact ⟨_, rfl⟩
  · split
    · exact ⟨_, rfl⟩
    · exact ⟨_, rfl⟩

theorem underGrant_denied {s : State} {n : Nat}
    (h : s.governs = false ∨ (s.gov.hot = true ∧ ∀ g ∈ s.gov.grants, g.who = .job n → g.ended = true)) (cls : Nat)
    (f : State → State) : ∃ g, s.underGrant n cls f = { s with gov := g } := by
  unfold underGrant
  rcases admitJob_denied h cls with hr | hr
  · rw [hr]
    exact ⟨s.gov, rfl⟩
  · rw [hr]
    exact deny_job s n cls _

/-! ### The scrubber (16 R427, R428) -/

@[simp] theorem eccRead_scrubAt (s : State) (a m : Nat) : (s.eccRead a m).1.mem.scrubAt = s.mem.scrubAt := by
  unfold eccRead
  dsimp only
  repeat' split
  all_goals simp [unsoft]

theorem scrubFind_scrubAt (s : State) (e : EccErr) : (s.scrubFind e).mem.scrubAt = s.mem.scrubAt := by cases e <;> rfl

theorem scrubOn_mem (s : State) : s.scrubOn.mem = { s.mem with
    scrubAt := if 0x10000000 ≤ s.mem.scrubAt + 8 then 0 else s.mem.scrubAt + 8 } := by
  unfold scrubOn
  dsimp only
  split <;> rfl

/-- What the scrubber does to the word that it has reached. -/
def patrolled (s : State) (e : EccErr) : State := ((s.scrubFind e).eccRead (s.scrubFind e).mem.scrubAt 15).1.scrubOn

theorem patrolled_mem (s : State) (e : EccErr) : (s.patrolled e).mem.cells = s.mem.cells
    ∧ (s.patrolled e).mem.scrubAt = if 0x10000000 ≤ s.mem.scrubAt + 8 then 0 else s.mem.scrubAt + 8 := by
  rw [patrolled, scrubOn_mem]
  refine ⟨(eccRead_cells _ _ _).trans (scrubFind_cells s e), ?_⟩
  simp only [eccRead_scrubAt, scrubFind_scrubAt]

/-! ### The drain of the recorder (16 R432-R434) -/

theorem eccSpan_only (s : State) (a k m : Nat) : s.onlyLog (s.eccSpan a k m).1 := by
  refine List.foldlRecOn (motive := fun r : State × Bool => s.onlyLog r.1) _ _ (onlyLog_rfl s) fun r hr w _ => ?_
  exact onlyLog_trans hr (eccRead_only r.1 w m)

theorem qPopN_only (q k : Nat) : ∀ s : State, s.onlyLog (qPopN q k s).1 := by
  induction k with
  | zero => exact onlyLog_rfl
  | succ k ih =>
    intro s
    unfold qPopN
    extract_lets v
    split
    · exact onlyLog_rfl s
    next e _ =>
      extract_lets t r
      have ht : s.onlyLog t := rfl
      have hr : s.onlyLog r.1 := onlyLog_trans ht (eccSpan_only _ _ _ _)
      split
      · exact hr
      · exact onlyLog_trans hr (ih _)

theorem qPop_only (s : State) (q : Nat) : s.onlyLog (s.qPop q).1 := qPopN_only q _ s

theorem recPop_only (q k : Nat) : ∀ s : State, s.onlyLog (recPop q k s) := by
  induction k with
  | zero => exact onlyLog_rfl
  | succ k ih =>
    intro s
    unfold recPop
    have hpop := qPop_only s q
    split
    · exact onlyLog_rfl s
    · split
      next he => rwa [he] at hpop
      next he =>
        rw [he] at hpop
        exact onlyLog_trans (onlyLog_trans hpop (stageAdd_only _ _)) (ih _)

theorem recDrain_stage (s : State) (f : Staged → Bool) : (s.recDrain f).mem.stage = s.mem.stage.filter (fun e => !f e) := rfl

/-- An ask that is granted is noted in the governor alone. -/
theorem decideAsk_only {s t : State} {w : Worker} {cls : Nat} {cost : Int} {forced : Bool}
    (h : s.decideAsk w cls cost forced = some t) : ∃ g, t = { s with gov := g } := by
  unfold decideAsk at h
  dsimp only at h
  split at h
  · exact ⟨_, (Option.some.inj h).symm⟩
  split at h
  · cases h
  split at h
  · exact ⟨_, (Option.some.inj h).symm⟩
  split at h
  · exact ⟨_, (Option.some.inj h).symm⟩
  · cases h

theorem admitJob_only (s : State) (n cls : Nat) (forced : Bool) : ∃ g, (s.admitJob n cls forced).1 = { s with gov := g } := by
  unfold admitJob
  split
  · exact ⟨s.gov, rfl⟩
  split
  · exact ⟨s.gov, rfl⟩
  · split
    next ht =>
      obtain ⟨g, rfl⟩ := decideAsk_only ht
      exact ⟨_, rfl⟩
    next => exact deny_job s n cls _

theorem admitJob_md (s : State) (n cls : Nat) (forced : Bool) : (s.admitJob n cls forced).1.md = s.md := by
  obtain ⟨g, hg⟩ := admitJob_only s n cls forced
  rw [hg]

theorem recorderDrain_md (s : State) : s.recorderDrain.md = s.md := by
  have hr : (if s.mem.stage.any (fun e => !e.fromCollector) then s.admitJob 1 s.flushClass false else (s, true)).1.md = s.md := by
    split
    · exact admitJob_md s _ _ _
    · rfl
  unfold recorderDrain
  split
  · exact onlyLog_md (recFlush_only s)
  · extract_lets r
    split
    · exact (onlyLog_md (recFlush_only _)).trans hr
    · exact (onlyLog_md (recDrain_only _ _)).trans hr

/-- No entry of the collector stays behind. -/
theorem recorderDrain_collector (s : State) : ∀ e ∈ s.recorderDrain.mem.stage, e.fromCollector = false := by
  have hflush (t : State) : ∀ e ∈ t.recFlush.mem.stage, e.fromCollector = false := by simp [recFlush_stage]
  unfold recorderDrain
  split
  · exact hflush s
  · extract_lets r
    split
    · exact hflush r.1
    · intro e he
      rw [recDrain_stage, List.mem_filter] at he
      simpa using he.2

theorem recorderDrain_empties {s : State} (h : s.md.mode = .holdup
    ∨ (s.governs = true ∧ ∃ g ∈ s.gov.grants, g.who = .job 1 ∧ g.ended = false)) : s.recorderDrain.mem.stage = [] := by
  unfold recorderDrain
  split
  · exact recFlush_stage s
  next hm =>
    rcases h with h | ⟨hgov, hg⟩
    · exact absurd (by rw [h]; rfl) hm
    · extract_lets r
      have hr : r.2 = true := by
        unfold r
        split
        · rw [admitJob_granted hgov hg]
        · rfl
      rw [if_pos hr]
      exact recFlush_stage _

end State

/-! ### The commands -/

section
open State
variable {s : State} (m : Fin 10)

theorem exec_fabricTimeout (hm : m ≠ 4) (u : BitVec 16) :
    exec (.fabricTimeout m u) s = .next (((s.drive 132 u).tagTimeout m).answer stError []) := by
  show execFabricTimeout m u s = _
  unfold execFabricTimeout
  split
  next h4 => exact absurd (Fin.ext h4) hm
  · rfl

theorem fabricTimeout_ends (hm : m ≠ 4) (u : BitVec 16) :
    ∃ t, exec (.fabricTimeout m u) s = .next t ∧ t.resp.status = stError ∧ t.resp.data = []
      ∧ ((∀ x ∈ s.lnk.remote, x.core ≠ m.val) → (t.src 132).rail ≠ .ok ∧ t.mem = s.mem
        ∧ (∀ (k : Fin 4) e rest, k.val = m.val → (s.cpu (.ac k)).posted = e :: rest →
            (t.cpu (.ac k)).posted = (stError, e.2) :: rest)) := by
  refine ⟨_, exec_fabricTimeout m hm u, rfl, rfl, fun hr => ?_⟩
  have hlnk : (s.drive 132 u).lnk = s.lnk := drive_keeps State.lnk s 132 u
  have hcpu (p : Proc) : (s.drive 132 u).cpu p = s.cpu p := onlyLog_cpu (drive_only s 132 u) p
  have hrail := drive_rail s 132 u rfl
  have hmem : (s.drive 132 u).mem = s.mem := drive_mem s 132 u
  have hd : ∀ x ∈ (s.drive 132 u).lnk.remote, x.core ≠ m.val := by rwa [hlnk]
  generalize s.drive 132 u = d at hcpu hrail hmem hd
  refine ⟨?_, ?_, fun k e rest hk hp => ?_⟩
  · rcases tagTimeout_local hd with ht | ⟨hlt, e, rest, -, ht⟩
    · exact ht.symm ▸ hrail
    · have hsrc : (d.tagTimeout m).src 132 = d.src 132 := by
        rw [ht, src, setCpu_flt, src]
      exact hsrc.symm ▸ hrail
  · show (d.tagTimeout m).mem = s.mem
    rcases tagTimeout_local hd with ht | ⟨hlt, e, rest, -, ht⟩
    · rw [ht, hmem]
    · rw [ht, setCpu_mem, hmem]
  · show ((d.tagTimeout m).cpu (.ac k)).posted = _
    rw [← hk] at hd ⊢
    exact tagTimeout_posted hd (by rw [hcpu, hp])

theorem exec_fabricTimeout_debug (u : BitVec 16) : exec (.fabricTimeout 4 u) s = .next s := rfl

theorem exec_patrolScrubRead (h : (s.reg (memB + 0x10)).getLsbD 0 = false) (err : EccErr) :
    exec (.patrolScrubRead err) s = .next (s.underGrant 6 4 (fun t => t.patrolled err)) :=
  congrArg Host.Outcome.next (if_neg (Bool.eq_false_iff.1 h))

theorem exec_patrolScrubRead_off (h : (s.reg (memB + 0x10)).getLsbD 0 = true) (err : EccErr) :
    exec (.patrolScrubRead err) s = .next s := congrArg Host.Outcome.next (if_pos h)

theorem patrolScrubRead_waits (err : EccErr)
    (h : s.governs = false ∨ (s.gov.hot = true ∧ ∀ g ∈ s.gov.grants, g.who = .job 6 → g.ended = true)) :
    ∃ t, exec (.patrolScrubRead err) s = .next t ∧ t.mem = s.mem ∧ t.regs = s.regs := by
  cases hoff : (s.reg (memB + 0x10)).getLsbD 0 with
  | true => exact ⟨s, exec_patrolScrubRead_off hoff err, rfl, rfl⟩
  | false =>
    obtain ⟨g, hg⟩ := underGrant_denied h 4 (fun t => t.patrolled err)
    exact ⟨_, (exec_patrolScrubRead hoff err).trans (congrArg _ hg), rfl, rfl⟩

/-- The entries of Q96-Q99 move to the staging buffer. -/
def stagedQueues (s : State) : State := [96, 97, 98, 99].foldl (fun (t : State) q => recPop q 64 t) s

theorem stagedQueues_only (s : State) : s.onlyLog (stagedQueues s) := onlyLog_foldl _ (fun t q => recPop_only q 64 t) _ s

theorem exec_recorderDrain (hoff : s.md.mode ≠ .off) (hreset : s.md.mode ≠ .reset) :
    exec .recorderDrain s = .next (stagedQueues s).recorderDrain := by
  show execRecorderDrain s = _
  unfold execRecorderDrain
  split
  · contradiction
  · contradiction
  · rfl

theorem recorderDrain_drains (hoff : s.md.mode ≠ .off) (hreset : s.md.mode ≠ .reset) :
    ∃ t, exec .recorderDrain s = .next t ∧ t.md = s.md ∧ (∀ e ∈ t.mem.stage, e.fromCollector = false)
      ∧ ((s.md.mode = .holdup ∨ (s.governs = true ∧ ∃ g ∈ s.gov.grants, g.who = .job 1 ∧ g.ended = false)) →
          t.mem.stage = []) := by
  have hq := stagedQueues_only s
  have hmd := onlyLog_md hq
  refine ⟨_, exec_recorderDrain hoff hreset, (recorderDrain_md _).trans hmd, recorderDrain_collector _, fun h => ?_⟩
  refine recorderDrain_empties ?_
  rwa [governs, hmd, show (stagedQueues s).gov = s.gov by rw [hq]]

end

/-- Settles O51: the queue registers by what they find, a timeout by the access it completes, and the scrubber and the recorder by the
grant of their job. -/
theorem queuesAndMemories : Obligations.QueuesAndMemories := by
  unfold Obligations.QueuesAndMemories
  intro s m q v
  refine ⟨fun hm => ?_, fun u hm => fabricTimeout_ends m hm u, ?_, fun err => ⟨fun hoff hgov hg => ?_, patrolScrubRead_waits err, ?_⟩,
    recorderDrain_drains, ?_, fun n hot => ⟨_, rfl, getLsbD_putBit_same _ n.isLt hot, fun k hk => ?_⟩⟩
  · have access {r : State × Word} : (if s.revoked m then s.answer stError [0] else r.1.answer stOk [r.2]) = r.1.answer stOk [r.2] :=
      if_neg (by simp [hm])
    have write {r : State × Nat} : (if s.revoked m then s.answer stError [] else r.1.answer r.2 []) = r.1.answer r.2 [] :=
      if_neg (by simp [hm])
    have reserve : exec (.queueReserve m q) s = .next ((s.qReserve q m).1.answer stOk [(s.qReserve q m).2]) := congrArg _ access
    have take : exec (.queueTake m q) s = .next ((s.qTake q m).1.answer stOk [(s.qTake q m).2]) := congrArg _ access
    have publish (a : Word) : exec (.queuePublish m q a) s = .next ((s.qPublish q m a).1.answer (s.qPublish q m a).2 []) :=
      congrArg _ write
    have release (a : Word) : exec (.queueRelease m q a) s = .next ((s.qRelease q m a).1.answer (s.qRelease q m a).2 []) :=
      congrArg _ write
    refine ⟨fun hfull hen hown hpush => ?_, fun h => ?_, fun a => ⟨fun i hi => ?_, fun h => ?_, fun i hi => ?_, fun h => ?_⟩,
      fun e he hpop => ?_, fun h => ?_⟩
    · rw [reserve, State.qReserve_free hfull hen hown hpush]
      rfl
    · rw [reserve, State.qReserve_refused h]
    · rw [publish, State.qPublish_found hi]
    · rw [publish, State.qPublish_refused h]
    · rw [release, State.qRelease_found hi]
    · rw [release, State.qRelease_refused h]
    · rw [take, State.qTake_front he hpop]
      rfl
    · rw [take, State.qTake_refused h]
  · rintro u rfl
    exact exec_fabricTimeout_debug u
  · obtain ⟨hcells, hat⟩ := State.patrolled_mem s err
    exact ⟨_, (exec_patrolScrubRead hoff err).trans (congrArg _ (State.underGrant_granted hgov hg 4 _)), hcells, hat⟩
  · exact fun hoff => exec_patrolScrubRead_off hoff err
  · intro h
    show execRecorderDrain s = _
    unfold execRecorderDrain
    rcases h with h | h <;> rw [h]
  · exact (getLsbD_putBit _ _ _ _).trans (if_neg fun h => hk (Fin.ext h))

end Sys2Proof.Machine
end

section
/-! SUPPORT. The OTP jobs (19 R489-R497): the job status word, the start and the end of a job, and the burn of one word. -/
namespace Sys2Proof.Machine

/-! ### The word of a job status register (18 R474; 19 R489; 20 R502) -/

theorem testBit_at_ (lo len v i : Nat) (hi : i < 32) :
    (at_ lo len v).toNat.testBit i = (decide (lo ≤ i) && (decide (i - lo < len) && v.testBit (i - lo))) := by
  rw [at_, BitVec.toNat_ofNat, Nat.testBit_mod_two_pow, Nat.testBit_shiftLeft, Nat.testBit_mod_two_pow, decide_eq_true hi,
    Bool.true_and]

/-- The state of a job stands in the low four bits, its result in the high half. -/
theorem jobWord_state {c : Nat} (hc : c < 16) (x r : Nat) : (at_ 0 4 c ||| at_ 4 12 x ||| at_ 16 16 r).toNat % 16 = c := by
  rw [show 16 = 2 ^ 4 from rfl]
  refine Nat.eq_of_testBit_eq fun i => ?_
  rw [Nat.testBit_mod_two_pow]
  by_cases hi : i < 4
  · simp only [BitVec.toNat_or, Nat.testBit_or, testBit_at_ _ _ _ _ (show i < 32 by omega), hi]
    simp [hi, show ¬ 4 ≤ i by omega, show ¬ 16 ≤ i by omega]
  · have hbig : c < 2 ^ i := hc.trans_le (Nat.pow_le_pow_right (n := 2) (i := 4) (by decide) (by omega))
    simp [hi, Nat.testBit_lt_two_pow hbig]

theorem jobWord_result (c x r : Nat) : (at_ 0 4 c ||| at_ 4 12 x ||| at_ 16 16 r).toNat / 65536 = r % 65536 := by
  rw [show 65536 = 2 ^ 16 from rfl]
  refine Nat.eq_of_testBit_eq fun i => ?_
  rw [Nat.testBit_div_two_pow, Nat.testBit_mod_two_pow]
  by_cases hi : i < 16
  · simp only [BitVec.toNat_or, Nat.testBit_or, testBit_at_ _ _ _ _ (show i + 16 < 32 by omega), hi]
    simp [show ¬ i + 16 < 4 by omega, hi]
  · have hbig (w : Word) : w.toNat.testBit (i + 16) = false :=
      Nat.testBit_lt_two_pow (w.isLt.trans_le (Nat.pow_le_pow_right (by decide) (by omega)))
    simp [hi, hbig]

namespace State

theorem jobStat_state (s : State) (a : Nat) (ok : Bool) (result : Nat) :
    ((s.jobStat a ok result).reg a).toNat % 16 = if ok then 3 else 4 := by
  show ((s.setReg a _).reg a).toNat % 16 = _
  rw [reg_setReg]
  exact jobWord_state (by cases ok <;> decide) _ _

theorem jobStat_result (s : State) (a : Nat) (ok : Bool) (result : Nat) :
    ((s.jobStat a ok result).reg a).toNat / 65536 = result % 65536 := by
  show ((s.setReg a _).reg a).toNat / 65536 = _
  rw [reg_setReg]
  exact jobWord_result _ _ _

theorem jobStat_reg_ne (s : State) {a b : Nat} (h : b ≠ a) (ok : Bool) (result : Nat) : (s.jobStat a ok result).reg b = s.reg b :=
  reg_setReg_ne _ _ _ _ h

/-! ### The start of a job (19 R489) -/

section
variable {s : State}

theorem otpCmd_ignored {key : Nat} (h : key ≠ 0x5A ∨ s.otpBusy = true) (op arg : Nat) (repair : Bool) (r : Option (Nat × Nat)) :
    s.otpCmd op arg repair key r = (s, stIgnored) := if_pos h

theorem otpCmd_starts (h : s.otpBusy = false) (op arg : Nat) (repair : Bool) : s.otpCmd op arg repair 0x5A none
    = ({ s.setReg (otpB + 0x28) 1 with
          otp := { s.otp with job := some { op := op, arg := arg, repair := repair, data := s.reg (otpB + 0x24) } } }, stOk) :=
  if_neg (by simp [h])

theorem otpCmd_refused (h : s.otpBusy = false) (op arg : Nat) (repair : Bool) (code w : Nat) :
    s.otpCmd op arg repair 0x5A (some (code, w)) = (s.otpFail code w, stOk) := if_neg (by simp [h])

theorem otpFail_stat (result w : Nat) : ((s.otpFail result w).reg (otpB + 0x28)).toNat % 16 = 4
    ∧ ((s.otpFail result w).reg (otpB + 0x28)).toNat / 65536 = result % 65536
    ∧ (s.otpFail result w).reg (otpB + 0x2C) = w32 w := by
  have hstat : (s.otpFail result w).reg (otpB + 0x28) = (s.jobStat (otpB + 0x28) false result).reg (otpB + 0x28) :=
    (reg_setReg_ne _ _ _ _ (by decide)).trans (reg_setReg_ne _ _ _ _ (by decide))
  rw [hstat]
  exact ⟨jobStat_state s _ false result, jobStat_result s _ false result, reg_setReg _ _ _⟩

theorem otpDone_stat : (s.otpDone.reg (otpB + 0x28)).toNat % 16 = 3 := jobStat_state s _ true 0

end

/-! ### The burn of a word (19 R492) -/

theorem senseWord_strict (s : State) (w k : Nat) : (s.senseWord w).otpT k = s.otpT k := by
  unfold senseWord
  dsimp only
  split <;> rfl

/-- With nothing that fails, every missing bit of the code is pulsed. -/
theorem burnBits_all {e : BurnEnv} (h : e.fails = []) (s : State) (w : Nat) (code : BitVec 39) :
    (s.burnBits e w code).2 = true ∧ (s.burnBits e w code).1.otpT w = s.otpT w ||| code := by
  have hf : burnFails e w = (0, 0) := by rw [burnFails, h, List.find?_nil]
  unfold burnBits
  dsimp only
  rw [hf]
  refine ⟨by simp, ?_⟩
  rw [senseWord_strict]
  refine (look_put _ _ _ _).trans ?_
  ext i hi
  simp only [BitVec.getElem_or, BitVec.getElem_and, BitVec.getElem_not]
  cases (s.otpT w)[i] <;> simp

theorem noteMargin_otp (s : State) : s.noteMargin.otp = s.otp := by
  unfold noteMargin
  split
  · rfl
  · exact drive_keeps State.otp _ _ _

/-! ### The end of a job (19 R492, R493, R497) -/

/-- How a job that no reset has ended leaves the engine after its burns. -/
def otpEnds (s : State) (j : OtpJob) (e : BurnEnv) (b : Burn) : State :=
  let t := s.noteMargin
  match b.failed, b.refused with
  | some w, _ => t.otpFail 0x0005 w
  | none, some (code, w) => t.otpFail code w
  | none, none =>
    if b.stopped ∨ j.stopped ∨ e.vlBad then t.otpFail 0x0006 (if j.op = 2 then (otpSpan j.arg).1 else j.arg) else t.otpDone

theorem otpEnds_stat (s : State) (j : OtpJob) (e : BurnEnv) (b : Burn) : (s.otpEnds j e b).otp.job = none
    ∧ (((s.otpEnds j e b).reg (otpB + 0x28)).toNat % 16 = 3 ∨ ((s.otpEnds j e b).reg (otpB + 0x28)).toNat % 16 = 4) := by
  have failed (result w : Nat) : (s.noteMargin.otpFail result w).otp.job = none
      ∧ (((s.noteMargin.otpFail result w).reg (otpB + 0x28)).toNat % 16 = 3
        ∨ ((s.noteMargin.otpFail result w).reg (otpB + 0x28)).toNat % 16 = 4) := ⟨rfl, .inr (otpFail_stat result w).1⟩
  unfold otpEnds
  dsimp only
  split
  · exact failed _ _
  · exact failed _ _
  · split
    · exact failed _ _
    · exact ⟨rfl, .inl otpDone_stat⟩

theorem otpEnds_done {s : State} {j : OtpJob} {e : BurnEnv} {b : Burn} (hf : b.failed = none) (hr : b.refused = none)
    (hb : b.stopped = false) (hj : j.stopped = false) (he : e.vlBad = false) : s.otpEnds j e b = s.noteMargin.otpDone := by
  unfold otpEnds
  rw [hf, hr]
  exact if_neg (by simp [hb, hj, he])

/-- A programming that nothing stops burns its whole word. -/
theorem otpBurn_prog (s : State) {j : OtpJob} {e : BurnEnv} (hl : j.lost = false) (hs : j.stopped = false) (hv : e.vlBad = false)
    (hf : e.fails = []) (hop : j.op = 1) : ∃ t, s.otpBurn j e = { s := t, left := none }
      ∧ t.otpT j.arg = s.otpT j.arg ||| otpCode j.data := by
  obtain ⟨hgood, hbits⟩ := burnBits_all hf s j.arg (otpCode j.data)
  refine ⟨(s.burnBits e j.arg (otpCode j.data)).1, ?_, hbits⟩
  unfold otpBurn
  simp only [hl, hs, hv, hop]
  show Burn.word e { s := s, left := none } j.arg (otpCode j.data) = _
  unfold Burn.word
  rw [if_neg (by simp [Burn.goes]), if_neg (by simp)]
  simp [hgood]

end State

/-! ### The commands -/

section
open State
variable {s : State}

theorem exec_otpJobEnd_lost {j : OtpJob} (hj : s.otp.job = some j) (h : j.lost = true) (e : BurnEnv) :
    ∃ t, exec (.otpJobEnd e) s = .next t ∧ t.otp.job = none := by
  refine ⟨{ (s.otpBurn j e).s with otp := { (s.otpBurn j e).s.otp with job := none, vals := [], marg := [], ue := [] } }, ?_, rfl⟩
  show execOtpJobEnd e s = _
  unfold execOtpJobEnd
  rw [hj]
  exact congrArg Host.Outcome.next (if_pos h)

theorem exec_otpJobEnd {j : OtpJob} (hj : s.otp.job = some j) (h : j.lost = false) (e : BurnEnv) :
    exec (.otpJobEnd e) s = .next ((s.otpBurn j e).s.otpEnds j e (s.otpBurn j e)) := by
  show execOtpJobEnd e s = _
  unfold execOtpJobEnd
  rw [hj]
  exact congrArg Host.Outcome.next (if_neg (Bool.eq_false_iff.1 h))

theorem exec_otpJobEnd_none (hj : s.otp.job = none) (e : BurnEnv) : exec (.otpJobEnd e) s = .next s := by
  show execOtpJobEnd e s = _
  unfold execOtpJobEnd
  rw [hj]

theorem otpJobEnd_prog {j : OtpJob} (hj : s.otp.job = some j) {e : BurnEnv} (hl : j.lost = false) (hs : j.stopped = false)
    (hv : e.vlBad = false) (hf : e.fails = []) (hop : j.op = 1) : ∃ t, exec (.otpJobEnd e) s = .next t ∧ t.otp.job = none
      ∧ (t.reg (otpB + 0x28)).toNat % 16 = 3 ∧ t.otpT j.arg = s.otpT j.arg ||| otpCode j.data := by
  obtain ⟨t, hb, ht⟩ := otpBurn_prog s hl hs hv hf hop
  refine ⟨t.noteMargin.otpDone, ?_, rfl, otpDone_stat, ?_⟩
  · rw [exec_otpJobEnd hj hl, hb, otpEnds_done rfl rfl rfl hs hv]
  · rw [← ht]
    show look 0 t.noteMargin.otp.strict j.arg = _
    rw [noteMargin_otp]
    rfl

theorem otpJobEnd_ends {j : OtpJob} (hj : s.otp.job = some j) (e : BurnEnv) : ∃ t, exec (.otpJobEnd e) s = .next t ∧ t.otp.job = none
    ∧ (j.lost = false → (t.reg (otpB + 0x28)).toNat % 16 = 3 ∨ (t.reg (otpB + 0x28)).toNat % 16 = 4)
    ∧ (j.lost = false → j.stopped = false → e.vlBad = false → e.fails = [] → j.op = 1 →
        (t.reg (otpB + 0x28)).toNat % 16 = 3 ∧ t.otpT j.arg = s.otpT j.arg ||| otpCode j.data) := by
  cases hl : j.lost with
  | true =>
    obtain ⟨t, ht, hn⟩ := exec_otpJobEnd_lost hj hl e
    exact ⟨t, ht, hn, nofun, nofun⟩
  | false =>
    obtain ⟨hn, hstat⟩ := otpEnds_stat (s.otpBurn j e).s j e (s.otpBurn j e)
    refine ⟨_, exec_otpJobEnd hj hl e, hn, fun _ => hstat, fun _ hs hv hf hop => ?_⟩
    obtain ⟨t, ht, -, hprog⟩ := otpJobEnd_prog hj hl hs hv hf hop
    rwa [Host.Outcome.next.inj ((exec_otpJobEnd hj hl e).symm.trans ht)]

/-- What a JOBCMD of the OTP engine does, by its refusal. -/
theorem otpCmd_asks {i : Instr} {m : Fin 10} (hm : s.revoked m = false) {key : BitVec 8} {op arg : Nat} {repair : Bool}
    {refusal : Option (Nat × Nat)}
    (hi : exec i s = .next (if s.revoked m then s.answer stError []
      else let r := s.otpCmd op arg repair key.toNat refusal; r.1.answer r.2 [])) :
    ((key ≠ 0x5A ∨ s.otpBusy = true) → exec i s = .next (s.answer stIgnored []))
    ∧ (key = 0x5A → s.otpBusy = false →
      (refusal = none → ∃ t, exec i s = .next t ∧ t.reg (otpB + 0x28) = 1 ∧ t.resp.status = stOk
        ∧ t.otp.job = some { op := op, arg := arg, repair := repair, data := s.reg (otpB + 0x24) })
      ∧ (∀ code w, refusal = some (code, w) → ∃ t, exec i s = .next t ∧ t.otp.job = none ∧ t.resp.status = stOk
        ∧ (t.reg (otpB + 0x28)).toNat % 16 = 4 ∧ (t.reg (otpB + 0x28)).toNat / 65536 = code % 65536
        ∧ t.reg (otpB + 0x2C) = BitVec.ofNat 32 w ∧ t.otp.normal = s.otp.normal ∧ t.otp.strict = s.otp.strict)) := by
  rw [if_neg (by simp [hm])] at hi
  rw [hi]
  refine ⟨fun h => ?_, ?_⟩
  · rw [otpCmd_ignored (h.imp_left fun hk hn => hk (BitVec.eq_of_toNat_eq hn))]
  · rintro rfl hbusy
    refine ⟨?_, ?_⟩
    · rintro rfl
      rw [show (0x5A : BitVec 8).toNat = 0x5A from rfl, otpCmd_starts hbusy]
      exact ⟨_, rfl, reg_setReg _ _ _, rfl, rfl⟩
    · rintro code w rfl
      rw [show (0x5A : BitVec 8).toNat = 0x5A from rfl, otpCmd_refused hbusy]
      obtain ⟨hstate, hresult, hword⟩ := otpFail_stat (s := s) code w
      exact ⟨_, rfl, rfl, rfl, hstate, hresult, hword, rfl, rfl⟩

end

/-- Settles O53: a JOBCMD by its refusal, and the end of a job by what stopped its burns. -/
theorem otpJobs : Obligations.OtpJobs := by
  unfold Obligations.OtpJobs
  intro s m key hm asks
  refine ⟨fun w => otpCmd_asks hm rfl, fun r => otpCmd_asks hm rfl, fun w rep => otpCmd_asks hm rfl, fun h w => ?_,
    fun e => ⟨fun h => exec_otpJobEnd_none h e, fun j hj => otpJobEnd_ends hj e⟩⟩
  simp [State.progRefusal, h]

end Sys2Proof.Machine
end

section
/-! SUPPORT. The governor's window (17 R444-R452): what passing time, the deciding of waiting requests and the entry of HOT leave of
the governor's registers, and the settling of a job's grant. -/
namespace Sys2Proof.Machine
namespace State

/-! ### Passing time stores nothing in GOV (13 R361; 03 R87) -/

theorem tick_reg_gov (s : State) {a : Nat} (hlo : govB ≤ a) (hhi : a < tmrB) : s.tick.reg a = s.reg a := by
  cases hl : s.tmr.lock with
  | false => rw [tick_unlocked hl]
  | true =>
    refine ((snapNow_keeps _).2 a (le_trans (by decide) hlo) hhi).trans ?_
    rw [tickWith_locked hl]
    exact foldl_keeps (fun t => t.reg a) _ (fun t n => tcTick_reg_ne t (by simp only [tcA, tmrB] at hhi ⊢; omega)) _ _

theorem ticks_reg_gov {a : Nat} (hlo : govB ≤ a) (hhi : a < tmrB) (k : Nat) : ∀ s : State, (ticks k s).reg a = s.reg a := by
  induction k with
  | zero => exact fun s => rfl
  | succ k ih => exact fun s => (ih s.tick).trans (tick_reg_gov s hlo hhi)

theorem advanceTo_reg_gov (s : State) (t : Nat) {a : Nat} (hlo : govB ≤ a) (hhi : a < tmrB) : (s.advanceTo t).reg a = s.reg a := by
  unfold advanceTo
  refine keeps_ite (fun t => t.reg a) rfl (keeps_ite (fun t => t.reg a) (ticks_reg_gov hlo hhi _ s) ?_)
  exact (snapNow_keeps (s.skipTicks 1)).2 a (le_trans (by decide) hlo) hhi

theorem advanceTo_gov (s : State) (t : Nat) : (s.advanceTo t).gov = s.gov :=
  keeps_of_finer (advanceTo_besides s t) (g := State.gov) fun _ => rfl

theorem advanceTo_commit (s : State) (t : Nat) : (s.advanceTo t).conv.cstate = s.conv.cstate
    ∧ (s.advanceTo t).conv.cmask = s.conv.cmask :=
  ⟨keeps_of_finer (advanceTo_besides s t) (g := fun u => u.conv.cstate) fun _ => rfl,
    keeps_of_finer (advanceTo_besides s t) (g := fun u => u.conv.cmask) fun _ => rfl⟩

/-! ### What the deciding of requests leaves (17 R442, R449) -/

@[simp] theorem onCore_regs (s : State) (k : Nat) (f : Cpu → Cpu) : (s.onCore k f).regs = s.regs := by
  unfold onCore
  split <;> rfl

@[simp] theorem onCore_gov (s : State) (k : Nat) (f : Cpu → Cpu) : (s.onCore k f).gov = s.gov := by
  unfold onCore
  split <;> rfl

theorem loadCtx_regs (s : State) (k x : Nat) : (s.loadCtx k x).regs = s.regs := onCore_regs s k _
theorem requeueHead_regs (s : State) (k x : Nat) : (s.requeueHead k x).regs = s.regs := rfl
theorem unready_regs (s : State) (x : Nat) : (s.unready x).regs = s.regs := rfl
theorem endGrant_regs (s : State) (w : Worker) : (s.endGrant w).regs = s.regs := rfl
theorem saveCtx_regs (s : State) (k x : Nat) : (s.saveCtx k x).regs = s.regs := rfl
theorem unwait_regs (s : State) (w : Worker) : (s.unwait w).regs = s.regs := rfl

theorem reg_setGov (s : State) (g : Gov) (a : Nat) : ({ s with gov := g } : State).reg a = s.reg a := rfl

theorem reg_of_regs {s t : State} (h : t.regs = s.regs) (a : Nat) : t.reg a = s.reg a := by rw [reg, h, reg]

/-- A denial counts for a core alone, in its own register; HOT stays. -/
theorem deny_keeps (s : State) (w : Worker) (cls : Nat) (cost : Int) : (s.deny w cls cost).gov.hot = s.gov.hot
    ∧ ∀ a, a < govB + 0x80 → (s.deny w cls cost).reg a = s.reg a := by
  unfold deny
  extract_lets asks stands g t
  split
  · split
    · exact ⟨rfl, fun _ _ => rfl⟩
    · exact ⟨rfl, fun _ _ => rfl⟩
  · split
    · exact ⟨rfl, fun _ _ => rfl⟩
    · cases w with
      | core k => exact ⟨rfl, fun a ha => reg_setReg_ne t _ _ _ (by omega)⟩
      | job n => exact ⟨rfl, fun _ _ => rfl⟩

section
variable {a : Nat} (ha : a < govB + 0x80)
include ha

theorem dispatch_reg (s : State) (k : Nat) : (s.dispatch k).reg a = s.reg a := by
  unfold dispatch
  split
  · rfl
  · dsimp only
    split
    next ht =>
      obtain ⟨g, rfl⟩ := decideAsk_only ht
      exact reg_of_regs (by rw [loadCtx_regs, unready_regs, unwait_regs]) a
    next => exact (deny_keeps s _ _ _).2 a ha

theorem preempt_reg (s : State) (k : Nat) : (s.preempt k).reg a = s.reg a := by
  unfold preempt
  extract_lets p
  split
  · extract_lets c cost
    split
    · rfl
    · split
      next => exact (deny_keeps s _ _ _).2 a ha
      next ht =>
        obtain ⟨g, rfl⟩ := decideAsk_only ht
        exact reg_of_regs (by rw [loadCtx_regs, requeueHead_regs, unready_regs, saveCtx_regs, unwait_regs, endGrant_regs]) a
  · rfl

theorem redecide_reg (s : State) : s.redecide.reg a = s.reg a := by
  unfold redecide
  refine foldl_keeps (fun t => t.reg a) _ (fun t b => ?_) _ s
  split
  · unfold redecideCore
    exact keeps_ite (fun t => t.reg a) (dispatch_reg ha t _) (keeps_ite (fun t => t.reg a) (preempt_reg ha t _) rfl)
  · unfold redecideJob
    split
    next ht =>
      obtain ⟨g, rfl⟩ := decideAsk_only ht
      rfl
    next => rfl

end

/-! ### The entry of HOT (17 R451) -/

theorem goHot_keeps (s : State) : s.goHot.gov.hot = true ∧ ∀ a, a < govB + 0x80 → s.goHot.reg a = s.reg a := by
  unfold goHot
  extract_lets g t
  have ht : t.gov.hot = true ∧ ∀ a, a < govB + 0x80 → t.reg a = s.reg a := ⟨rfl, fun _ _ => rfl⟩
  clear_value t
  refine List.foldlRecOn (motive := fun u : State => u.gov.hot = true ∧ ∀ a, a < govB + 0x80 → u.reg a = s.reg a) _ _ ht
    fun u hu k _ => ?_
  obtain ⟨hhot, hreg⟩ := hu
  have ends : (u.endGrant (.core k)).gov.hot = true ∧ ∀ a, a < govB + 0x80 → (u.endGrant (.core k)).reg a = s.reg a :=
    ⟨hhot, hreg⟩
  split
  · exact ⟨hhot, hreg⟩
  · exact ⟨hhot, hreg⟩
  next x _ _ =>
    split
    · exact ⟨hhot, hreg⟩
    · extract_lets c
      have hidle : ((((u.saveCtx k x).requeueHead k x).endGrant (.core k)).idleCore k).gov.hot = true
          ∧ ∀ a, a < govB + 0x80 → ((((u.saveCtx k x).requeueHead k x).endGrant (.core k)).idleCore k).reg a = s.reg a :=
        ⟨(congrArg Gov.hot (onCore_gov _ _ _)).trans hhot, fun a ha => (reg_of_regs (onCore_regs _ _ _) a).trans (hreg a ha)⟩
      generalize (((u.saveCtx k x).requeueHead k x).endGrant (.core k)).idleCore k = v at hidle
      obtain ⟨hvhot, hvreg⟩ := hidle
      obtain ⟨hdhot, hdreg⟩ := deny_keeps v (.core k) c.cls.toNat (u.taskCost c.energy.toNat)
      exact ⟨hdhot.trans hvhot, fun a ha => (hdreg a ha).trans (hvreg a ha)⟩
  · exact ends

/-! ### A window's report (17 R444, R448) -/

theorem govSensors_reg (s : State) (e : GovEnv) {a : Nat} (hlo : govB < a) (hhi : a < govB + 0x40) :
    (s.govSensors e).reg a = s.reg a := by
  unfold govSensors
  extract_lets t bad calm okRun err g u sel v
  have ht : t.reg a = s.reg a := by
    unfold t
    refine foldl_keeps (fun t => t.reg a) _ (fun u n => ?_) _ s
    extract_lets x w
    have hw : w.reg a = u.reg a := reg_setReg_ne u _ _ _ (by omega)
    exact (reg_setGov w _ a).trans hw
  have hu : u.reg a = s.reg a := (reg_setGov t _ a).trans ht
  clear_value sel u
  have hv : v.reg a = s.reg a := keeps_ite (fun t => t.reg a) ((reg_setReg_ne u _ _ _ (by omega)).trans hu) hu
  refine (foldl_keeps (fun t => t.reg a) _ (fun w n => ?_) _ v).trans hv
  exact keeps_ite (fun t => t.reg a) (drive_keeps (fun t => t.reg a) w 148 (det n)) rfl

theorem govCap_reg (s : State) (pPkg cap : Nat) {a : Nat} (hlo : govB < a) : (s.govCap pPkg cap).reg a = s.reg a := by
  unfold govCap
  extract_lets g t
  have ht : t.reg a = s.reg a := rfl
  refine keeps_ite (fun t => t.reg a) ((drive_keeps (fun t => t.reg a) _ 147 0).trans ?_) ht
  exact (reg_setReg_ne t _ _ _ (by omega)).trans ht

theorem at_low16 (p q : Nat) : (at_ 0 16 p ||| at_ 16 16 q).toNat % 65536 = p % 65536 := by
  rw [show 65536 = 2 ^ 16 from rfl]
  refine Nat.eq_of_testBit_eq fun i => ?_
  rw [Nat.testBit_mod_two_pow, Nat.testBit_mod_two_pow]
  by_cases hi : i < 16
  · simp only [BitVec.toNat_or, Nat.testBit_or, testBit_at_ _ _ _ _ (show i < 32 by omega), hi]
    simp [hi, show ¬ 16 ≤ i by omega]
  · simp [hi]

theorem govWindow_reports (s : State) (e : GovEnv) : (s.govWindow e).reg (govB + 0x20) = s.reg (govB + 0x20) + 1
    ∧ ((s.govWindow e).reg (govB + 0x24)).toNat % 65536 = (e.pLogic.toNat + e.dField.toNat) % 65536
    ∧ (s.govWindow e).reg (govB + 0x28) = e.dField.setWidth 32 := by
  unfold govWindow
  extract_lets pPkg cap e0 e1 k t1 tm tlim theta excess peff res left t2 t3 t4 t5 t6 t7 t8 t9 g t10
  have h1 : t1.reg (govB + 0x20) = s.reg (govB + 0x20) :=
    (govCap_reg _ _ _ (by decide)).trans (govSensors_reg s e (by decide) (by decide))
  clear_value t1 cap e0 e1 k tm peff left
  have h2 : t2.reg (govB + 0x20) = t1.reg (govB + 0x20) + 1 := reg_setReg _ _ _
  clear_value t2
  have h3 : t3.reg (govB + 0x20) = t2.reg (govB + 0x20) ∧ t3.reg (govB + 0x24) = at_ 0 16 pPkg ||| at_ 16 16 peff.toNat :=
    ⟨reg_setReg_ne _ _ _ _ (by decide), reg_setReg _ _ _⟩
  clear_value t3
  have h4 : t4.reg (govB + 0x28) = at_ 0 16 e.dField.toNat := reg_setReg _ _ _
  have keeps (b : Nat) (hlo : b = govB + 0x20 ∨ b = govB + 0x24) : t4.reg b = t3.reg b :=
    reg_setReg_ne _ _ _ _ (by omega)
  clear_value t4
  have later (b : Nat) (hb : b < govB + 0x2C) : t10.redecide.reg b = t4.reg b := by
    refine (redecide_reg (by omega) t10).trans ?_
    have h9 : t9.reg b = t8.reg b := foldl_setReg_reg _ (fun n => govB + 0x70 + 4 * n) _ (fun n => by omega) t8
    refine (reg_setGov t9 _ b).trans (h9.trans ?_)
    have h8 : t8.reg b = t7.reg b := reg_setReg_ne t7 _ _ _ (by omega)
    have h7 : t7.reg b = t6.reg b := reg_setReg_ne t6 _ _ _ (by omega)
    have h6 : t6.reg b = t5.reg b := reg_setReg_ne t5 _ _ _ (by omega)
    have h5 : t5.reg b = t4.reg b := reg_setReg_ne t4 _ _ _ (by omega)
    rw [h8, h7, h6, h5]
  refine ⟨?_, ?_, ?_⟩
  · rw [later _ (by decide), keeps _ (.inl rfl), h3.1, h2, h1]
  · rw [later _ (by decide), keeps _ (.inr rfl), h3.2]
    exact at_low16 _ _
  · rw [later _ (by decide), h4]
    refine BitVec.eq_of_toNat_eq ?_
    have hlt : e.dField.toNat < 65536 := e.dField.isLt
    simp [at_, Nat.mod_eq_of_lt hlt]

/-! ### The settling of a grant (17 R449) -/

theorem takeGrant_none {w : Worker} : ∀ {gs : List Grant}, (∀ g ∈ gs, g.who ≠ w) → takeGrant w gs = none
  | [], _ => rfl
  | g :: gs, h => by
    have hrest := takeGrant_none fun x hx => h x (List.mem_cons_of_mem g hx)
    rw [takeGrant, if_neg (h g List.mem_cons_self), hrest]

theorem settleGrant_none {s : State} {w : Worker} (h : ∀ g ∈ s.gov.grants, g.who ≠ w) (e : Int) : s.settleGrant w e = s := by
  rw [settleGrant, takeGrant_none h]

theorem settleGrant_job {s : State} {n : Nat} {g : Grant} {rest : List Grant} (h : takeGrant (.job n) s.gov.grants = some (g, rest))
    {e : Int} (hcost : g.cost ≤ e) :
    s.settleGrant (.job n) e = ({ s with gov := { s.gov with grants := rest } }.giveBack g.fromRes (g.cost - e)) := by
  rw [settleGrant, h]
  exact if_neg (by omega)

theorem giveBack_window {s : State} (h : s.boundaryDue = false) (r : Bool) (b : Int) : s.giveBack r b = { s with gov := { s.gov with
    left := if r then s.gov.left else s.gov.left + b
    res := if r then s.gov.res + b else s.gov.res } } := by
  unfold giveBack
  dsimp only
  rw [if_neg (Bool.eq_false_iff.1 h)]
  cases r <;> rfl

theorem giveBack_boundary {s : State} (h : s.boundaryDue = true) (r : Bool) (b : Int) : s.giveBack r b = { s with gov := { s.gov with
    carry := if r then s.gov.carry else s.gov.carry + b
    carryRes := if r then s.gov.carryRes + b else s.gov.carryRes } } := by
  unfold giveBack
  dsimp only
  rw [if_pos h]
  cases r <;> rfl

end State

/-! ### The governor's commands -/

section
open State
variable {s : State}

/-- With no commit that waits for the safe point of GOV, a boundary is the window itself. -/
theorem exec_governorWindow (hl : s.tmr.lock = true) (hc : s.conv.cstate ≠ 1 ∨ s.conv.cmask.testBit 5 = false) (e : GovEnv) :
    exec (.governorWindow e) s = .next ((s.advanceTo s.nextBoundary).govWindow e) := by
  obtain ⟨hstate, hmask⟩ := advanceTo_commit s s.nextBoundary
  refine congrArg Host.Outcome.next ((if_neg (by simp [hl])).trans ?_)
  dsimp only
  generalize s.advanceTo s.nextBoundary = t at hstate hmask
  rw [← hstate, ← hmask] at hc
  have hreach : t.reach 5 = t := if_neg fun h => hc.elim (fun h1 => h1 h.1) fun h2 => Bool.eq_false_iff.1 h2 h.2
  have hwaits : t.waitsApply 5 govB (govB + 0x10000) = false := by
    unfold waitsApply
    rcases hc with hc | hc
    · simp [hc]
    · simp [Nat.testBit_and, hc]
  rw [hreach, hwaits]
  rfl

theorem governorWindow_reports (hl : s.tmr.lock = true) (hc : s.conv.cstate ≠ 1 ∨ s.conv.cmask.testBit 5 = false) (e : GovEnv) :
    ∃ t, exec (.governorWindow e) s = .next t ∧ t.reg (govB + 0x20) = s.reg (govB + 0x20) + 1
      ∧ (t.reg (govB + 0x24)).toNat % 65536 = (e.pLogic.toNat + e.dField.toNat) % 65536
      ∧ t.reg (govB + 0x28) = e.dField.setWidth 32 := by
  obtain ⟨hcount, hpkg, hfield⟩ := govWindow_reports (s.advanceTo s.nextBoundary) e
  refine ⟨_, exec_governorWindow hl hc e, ?_, hpkg, hfield⟩
  rw [hcount, advanceTo_reg_gov s _ (by decide) (by decide)]

theorem exec_governorWindow_unlocked (hl : s.tmr.lock = false) (e : GovEnv) : exec (.governorWindow e) s = .next s :=
  congrArg Host.Outcome.next (if_pos (by simp [hl]))

theorem exec_reserveRelease_unlocked (hl : s.tmr.lock = false) : exec .reserveRelease s = .next s :=
  congrArg Host.Outcome.next (if_pos (by simp [hl]))

theorem reserveRelease_joins (hl : s.tmr.lock = true) :
    ∃ t, exec .reserveRelease s = .next t ∧ t.gov.left = s.gov.left + s.gov.res ∧ t.gov.res = 0 := by
  have hgov : ∀ t, (if s.now < t then s.advanceTo t else s).gov = s.gov := fun t => keeps_ite State.gov (advanceTo_gov s t) rfl
  refine ⟨_, congrArg Host.Outcome.next (if_neg (by simp [hl])), ?_, rfl⟩
  dsimp only
  rw [hgov]

theorem exec_hotEntry_below {k : Fin 8} {c : BitVec 10} (h : c.toInt < ((s.reg (govB + 8)).toNat % 256 : Nat) + 5) :
    exec (.hotEntry k c) s = .next s := by
  have hc : ¬ ((fld (s.reg (govB + 8)) 0 8 : Int) + 5 ≤ c.toInt) := by
    rw [fld_lowByte]
    omega
  exact congrArg Host.Outcome.next (if_neg (by simpa using hc))

theorem hotEntry_sets {k : Fin 8} {c : BitVec 10} (h : ((s.reg (govB + 8)).toNat % 256 : Nat) + 5 ≤ c.toInt) :
    ∃ t, exec (.hotEntry k c) s = .next t ∧ t.gov.hot = true ∧ (t.reg (govB + 0x40 + 4 * k)).extractLsb' 0 10 = c := by
  have hc : (fld (s.reg (govB + 8)) 0 8 : Int) + 5 ≤ c.toInt := by
    rw [fld_lowByte]
    exact h
  obtain ⟨hhot, hreg⟩ := goHot_keeps
    (s.setReg (govB + 0x40 + 4 * k) (putFld (s.reg (govB + 0x40 + 4 * k)) 0 10 c.toNat))
  refine ⟨_, congrArg Host.Outcome.next (if_pos (decide_eq_true hc)), hhot, ?_⟩
  rw [hreg _ (by omega), reg_setReg]
  ext i hi
  rw [BitVec.getElem_extractLsb', Nat.zero_add, getLsbD_putFld, if_pos (by omega), decide_eq_true (by omega : i < 32), Bool.true_and,
    Nat.sub_zero]
  rfl

end

end Sys2Proof.Machine
end

section
/-! SUPPORT. Self-test slices (18 R461-R466): the slice that a cycle starts, and what the end of a slice makes of its sequence. -/
namespace Sys2Proof.Machine
namespace State

theorem seq_setSeq (s : State) (n k : Nat) (v : SeqSt) : (s.setSeq n v).seq k = if k = n then v else s.seq k := look_put_eq _ _ _ _ _

theorem seq_setSeq_same (s : State) (n : Nat) (v : SeqSt) : (s.setSeq n v).seq n = v := look_put _ _ _ _

theorem seq_of_bst {s t : State} (h : t.bst = s.bst) (n : Nat) : t.seq n = s.seq n := by rw [seq, h, seq]

/-! ### The slice that a cycle starts (18 R461, R464, R471) -/

theorem startSlice_bst (s : State) (n : Nat) :
    ((s.startSlice n).bst.used = true ∧ (s.startSlice n).bst.active = some n)
    ∨ (s.startSlice n).bst = s.bst := by
  obtain ⟨g, hg⟩ := admitJob_only s 0 (s.sliceClass n).1 (s.sliceClass n).2
  unfold startSlice
  dsimp only
  split
  · exact .inl ⟨rfl, rfl⟩
  · rw [hg]
    exact .inr rfl

theorem startSlice_granted {s : State} (hgov : s.governs = true)
    (hg : ∃ g ∈ s.gov.grants, g.who = .job 0 ∧ g.ended = false) (n : Nat) :
    (s.startSlice n).bst.used = true := by
  unfold startSlice
  dsimp only
  rw [admitJob_granted hgov hg]
  rfl

/-- The states that differ from s in the count of yielded slices alone. -/
def yielded (s t : State) : Prop := t = { s with regs := t.regs } ∧ ∀ a, a ≠ bstB + 0x18 → t.reg a = s.reg a

theorem yielded_countUp {s t : State} (h : s.yielded t) : s.yielded (t.countUp (bstB + 0x18)) := by
  obtain ⟨ht, hreg⟩ := h
  refine ⟨?_, fun a ha => (reg_setReg_ne t _ _ _ ha).trans (hreg a ha)⟩
  rw [ht]
  rfl

theorem yielded_yields {s t : State} (h : s.yielded t) (n : Nat) : t.yields n = s.yields n := by
  rw [h.1]
  rfl

theorem yielded_incmpReady {s t : State} (h : s.yielded t) : t.incmpReady = s.incmpReady := by
  rw [h.1]
  rfl

theorem yielded_deferCause {s t : State} (h : s.yielded t) (e : SliceEnv) : t.deferCause e = s.deferCause e := by
  unfold deferCause
  rw [h.2 (sioB + 0xC) (by decide), h.2 (sioB + 0x10) (by decide)]

/-- A slice deferred for the cause lo. -/
def deferSlice (s : State) (lo : Nat) : State :=
  { ((s.satUp (bstB + 0x10) lo 8).setBits bstB (flag 2 true)).drive 146 0 with
    bst := { s.bst with used := true, deferred := true } }

theorem deferSlice_stat (s : State) (lo : Nat) :
    ((s.deferSlice lo).reg bstB).getLsbD 2 = true ∧ ((s.deferSlice lo).src 146).rail ≠ .ok := by
  refine ⟨?_, drive_rail _ 146 0 rfl⟩
  show ((((s.satUp (bstB + 0x10) lo 8).setBits bstB (flag 2 true)).drive 146 0).reg bstB).getLsbD 2 = true
  rw [drive_keeps (fun t => t.reg bstB) _ 146 0]
  exact setBits_sets _ _ rfl

/-- Of the sequences by debt the first that may run is deferred or started. -/
theorem pickSlice_reaches (s : State) (e : SliceEnv) : ∀ (l : List Nat) (t : State), s.yielded t →
    (∃ n ∈ l, s.yields n = false ∧ (n ≠ 0 ∨ s.incmpReady = true)) →
    ∃ u n, s.yielded u ∧ pickSlice e l t = match s.deferCause e with
      | some lo => u.deferSlice lo
      | none => u.startSlice n := by
  intro l
  induction l with
  | nil => rintro t - ⟨n, hn, -⟩; cases hn
  | cons n ns ih =>
    rintro t ht ⟨k, hk, hyield, hready⟩
    have later (hne : k ≠ n) : ∃ n ∈ ns, s.yields n = false ∧ (n ≠ 0 ∨ s.incmpReady = true) :=
      ⟨k, (List.mem_cons.1 hk).resolve_left hne, hyield, hready⟩
    unfold pickSlice
    split
    next hskip =>
      refine ih t ht (later ?_)
      rintro rfl
      rw [yielded_incmpReady ht] at hskip
      rcases hready with h | h
      · exact h hskip.1
      · simp [h] at hskip
    next =>
      split
      next hy =>
        refine ih _ (yielded_countUp ht) (later ?_)
        rintro rfl
        rw [yielded_yields ht, hyield] at hy
        exact absurd hy Bool.false_ne_true
      next =>
        rw [yielded_deferCause ht]
        exact ⟨t, n, ht, by cases s.deferCause e <;> rfl⟩

theorem mem_byDebt {s : State} {n : Nat} (h : n < 11) : n ∈ s.byDebt := by
  rw [byDebt, List.mem_mergeSort]
  have hall : ∀ n < 11, n ∈ upFrom 11 0 := by decide
  exact hall n h

theorem setBytes_log : ∀ (bs : List Byte) (s : State) (a : Nat), (s.setBytes a bs).flt = s.flt ∧ (s.setBytes a bs).regs = s.regs
  | [], _, _ => ⟨rfl, rfl⟩
  | b :: bs, s, a => setBytes_log bs (s.setByte a b) (a + 1)

theorem overwrite_log (s : State) (a : Nat) (bs : List Byte) : (s.overwrite a bs).flt = s.flt ∧ (s.overwrite a bs).regs = s.regs := by
  unfold overwrite
  exact setBytes_log bs s a

/-! ### The log queues of the self-test (18 R462, R463) -/

section
variable (s : State) {q : Nat} (bs : List Byte) (hq : ¬ (96 ≤ q ∧ q < 100))
include hq

theorem qPush_flt : (s.qPush q bs).1.flt = s.flt := by
  unfold qPush
  dsimp only
  rw [if_neg hq]
  split
  · rfl
  · rw [setQueue_flt, (overwrite_log s _ _).1]

theorem qPush_reg {a : Nat} (ha : a ≠ queB + 0x2014 + 32 * q) : (s.qPush q bs).1.reg a = s.reg a := by
  unfold qPush
  dsimp only
  rw [if_neg hq]
  split
  · exact reg_setReg_ne s _ _ _ ha
  · exact reg_of_regs ((setQueue_regs _ _ _).trans (overwrite_log s _ _).2) a

end

/-- What the end of a slice keeps beside its step: the slice that runs, what has failed, the status and every fault. -/
def sliceKept (s t : State) : Prop := t.bst.active = s.bst.active ∧ (∀ n, (t.seq n).failed = (s.seq n).failed)
  ∧ t.reg bstB = s.reg bstB ∧ ∀ k, (s.src k).rail ≠ .ok → (t.src k).rail ≠ .ok

theorem sliceKept_rfl (s : State) : s.sliceKept s := ⟨rfl, fun _ => rfl, rfl, fun _ h => h⟩

theorem sliceKept_trans {s t u : State} (h : s.sliceKept t) (k : t.sliceKept u) : s.sliceKept u := by
  obtain ⟨hact, hfail, hreg, hflt⟩ := h
  obtain ⟨kact, kfail, kreg, kflt⟩ := k
  exact ⟨kact.trans hact, fun n => (kfail n).trans (hfail n), kreg.trans hreg, fun n hn => kflt n (hflt n hn)⟩

theorem sliceKept_ite {s t u : State} {c : Prop} [Decidable c] (h : s.sliceKept t) (k : s.sliceKept u) :
    s.sliceKept (if c then t else u) := by
  split
  · exact h
  · exact k

theorem setSeq_kept (s : State) {n : Nat} {v : SeqSt} (h : v.failed = (s.seq n).failed) : s.sliceKept (s.setSeq n v) := by
  refine ⟨rfl, fun k => ?_, rfl, fun _ h => h⟩
  rw [seq_setSeq]
  split
  next hk => rw [hk, h]
  next => rfl

theorem drive_kept (s : State) (n : Nat) (d : BitVec 16) : s.sliceKept (s.drive n d) := by
  refine ⟨drive_keeps (fun t => t.bst.active) s n d, fun k => ?_, drive_keeps (fun t => t.reg bstB) s n d,
    fun k hk => drive_keeps_fault s n k d hk⟩
  exact congrArg SeqSt.failed (seq_of_bst (drive_keeps State.bst s n d) k)

theorem driveIf_kept (s : State) (c : Bool) (n : Nat) (d : BitVec 16) : s.sliceKept (s.driveIf c n d) :=
  sliceKept_ite (drive_kept s n d) (sliceKept_rfl s)

theorem qPush_bst (s : State) (q : Nat) (bs : List Byte) : (s.qPush q bs).1.bst = s.bst := by rw [qPush_only s q bs]

theorem qPush_kept (s : State) {q : Nat} (hq : q = 102 ∨ q = 103) (bs : List Byte) : s.sliceKept (s.qPush q bs).1 := by
  have hno : ¬ (96 ≤ q ∧ q < 100) := by omega
  refine ⟨congrArg BstSt.active (qPush_bst s q bs), fun n => congrArg SeqSt.failed (seq_of_bst (qPush_bst s q bs) n),
    qPush_reg s bs hno (by rcases hq with rfl | rfl <;> decide), fun k hk => ?_⟩
  rwa [src, qPush_flt s bs hno]

theorem passDone_kept (s : State) (n : Nat) : s.sliceKept (s.passDone n) := by
  unfold passDone
  extract_lets v t
  have ht : s.sliceKept t := setSeq_kept s rfl
  exact sliceKept_ite (sliceKept_trans ht (qPush_kept t (.inl rfl) _)) ht

theorem stepOn_kept (s : State) (n : Nat) : s.sliceKept (s.stepOn n) := sliceKept_ite (passDone_kept s n) (setSeq_kept s rfl)

/-- The sequence after its step: at its end it starts over. -/
theorem stepOn_seq (s : State) (n : Nat) :
    ((s.stepOn n).seq n).step = (if seqLen n ≤ (s.seq n).step + 1 then 0 else (s.seq n).step + 1)
    ∧ ((s.stepOn n).seq n).retry = (s.seq n).retry ∧ ((s.stepOn n).seq n).confirmed = (s.seq n).confirmed := by
  unfold stepOn
  dsimp only
  split
  next h =>
    have hdone : (s.passDone n).seq n
        = { s.seq n with step := 0, passes := (s.seq n).passes + 1, doneAt := s.now, overdue := false } := by
      unfold passDone
      extract_lets v t
      have ht : t.seq n = { s.seq n with step := 0, passes := (s.seq n).passes + 1, doneAt := s.now, overdue := false } :=
        seq_setSeq_same s n _
      rw [← ht]
      exact keeps_ite (fun u => u.seq n) (seq_of_bst (qPush_bst t _ _) n) rfl
    rw [hdone]
    exact ⟨rfl, rfl, rfl⟩
  next h =>
    rw [seq_setSeq_same]
    exact ⟨rfl, rfl, rfl⟩

/-! ### The end of a slice of a sequence (18 R462, R466) -/

section
variable {s : State} {n : Nat} {r : SliceResult}

theorem stepEnd_active (s : State) (n : Nat) (r : SliceResult) : (s.stepEnd n r).bst.active = s.bst.active := by
  have kept {t : State} (h : t.bst.active = s.bst.active) : (t.stepOn n).bst.active = s.bst.active := (stepOn_kept t n).1.trans h
  have pushed (bs : List Byte) : (s.qPush 103 bs).1.bst.active = s.bst.active := (qPush_kept s (.inr rfl) bs).1
  unfold stepEnd
  extract_lets v item t1 t2 t3
  have h1 : t1.bst.active = s.bst.active := pushed _
  have h2 : t2.bst.active = s.bst.active := h1
  clear_value t2
  have h3 : t3.bst.active = s.bst.active := by
    unfold t3 phyBad
    split
    · split <;> exact h2
    · exact h2
  clear_value t3
  refine keeps_ite (fun t => t.bst.active) (kept rfl) (keeps_ite (fun t => t.bst.active) (kept rfl)
    (keeps_ite (fun t => t.bst.active) (kept ?_) (pushed _)))
  exact ((drive_kept (t3.setBits bstB (flag 1 true)) _ _).1).trans h3

theorem stepEnd_passed (hf : r.failed = false) (hd : r.disagreed = false) :
    ((s.stepEnd n r).seq n).step = (if seqLen n ≤ (s.seq n).step + 1 then 0 else (s.seq n).step + 1)
    ∧ ((s.stepEnd n r).seq n).retry = none := by
  have hend : s.stepEnd n r = (s.setSeq n { s.seq n with retry := none }).stepOn n := if_pos (by simp [hf, hd])
  obtain ⟨hstep, hretry, -⟩ := stepOn_seq (s.setSeq n { s.seq n with retry := none }) n
  rw [hend, hstep, hretry, seq_setSeq_same]
  exact ⟨rfl, rfl⟩

section
variable (hbad : r.failed = true ∨ r.disagreed = true) (hconf : (s.seq n).confirmed.contains r.item.toNat = false)
include hbad hconf

/-- A step that fails for the first time runs again. -/
theorem stepEnd_again (hretry : (s.seq n).retry ≠ some ((s.seq n).step, r.item)) :
    ((s.stepEnd n r).seq n).retry = some ((s.seq n).step, r.item) ∧ ((s.stepEnd n r).seq n).step = (s.seq n).step := by
  have hrun : ¬ (!(r.failed || r.disagreed)) = true := by rcases hbad with h | h <;> simp [h]
  unfold stepEnd
  dsimp only
  rw [if_neg hrun, if_neg (Bool.eq_false_iff.1 hconf), if_neg hretry, seq_setSeq_same]
  exact ⟨rfl, rfl⟩

/-- One that fails again is confirmed. -/
theorem stepEnd_confirms (hretry : (s.seq n).retry = some ((s.seq n).step, r.item)) :
    ((s.stepEnd n r).seq n).failed = true ∧ ((s.stepEnd n r).seq n).confirmed.contains r.item.toNat = true
    ∧ ((s.stepEnd n r).reg bstB).getLsbD 1 = true := by
  have hrun : ¬ (!(r.failed || r.disagreed)) = true := by rcases hbad with h | h <;> simp [h]
  unfold stepEnd
  extract_lets v item t1 t2 t3
  rw [if_neg hrun, if_neg (Bool.eq_false_iff.1 hconf), if_pos hretry]
  have h2 : t2.seq n = { v with retry := none, confirmed := item :: v.confirmed, failed := true } := seq_setSeq_same t1 n _
  have h3 : t3.seq n = t2.seq n := by
    unfold t3 phyBad
    split
    · split <;> rfl
    · rfl
  have hbit : ((t3.setBits bstB (flag 1 true)).reg bstB).getLsbD 1 = true := setBits_sets _ _ rfl
  obtain ⟨-, dfail, dreg, -⟩ := drive_kept (t3.setBits bstB (flag 1 true)) (seqSource n item) (det item)
  have dconf : (((t3.setBits bstB (flag 1 true)).drive (seqSource n item) (det item)).seq n).confirmed
      = (t3.seq n).confirmed := congrArg SeqSt.confirmed (seq_of_bst (drive_keeps State.bst _ _ _) n)
  generalize (t3.setBits bstB (flag 1 true)).drive (seqSource n item) (det item) = d at dfail dreg dconf
  obtain ⟨-, kfail, kreg, -⟩ := stepOn_kept d n
  obtain ⟨-, -, kconf⟩ := stepOn_seq d n
  refine ⟨?_, ?_, ?_⟩
  · rw [kfail, dfail]
    show (t3.seq n).failed = true
    rw [h3, h2]
  · rw [kconf, dconf, h3, h2]
    exact List.contains_iff_mem.2 List.mem_cons_self
  · rw [kreg, dreg]
    exact hbit

end
end

/-! ### The end of a slice of INCMP (18 R465; 07 R224-R227) -/

theorem incmpFails_iff (s : State) (meas : Word) : s.incmpFails meas = true
    ↔ (meas.toInt < (if s.inType1 ((s.seq 0).step % 6 / 2 != 1) ((s.seq 0).step / 6) then 10000 else 6000)
          + (if (s.seq 0).step % 2 = 0 then 1000 else 0)
        ∨ (if s.inType1 ((s.seq 0).step % 6 / 2 != 1) ((s.seq 0).step / 6) then 10000 else 6000)
          + (if (s.seq 0).step % 2 = 0 then 1000 else 0) + 3500 < meas.toInt
        ∨ ((s.seq 0).step % 2 = 1 ∧ s.inputs.riseMv - meas.toInt < 500)) := by
  have hband (t rising : Bool) : cmpBand t rising = ((if t then 10000 else 6000) + (if rising then 1000 else 0),
      (if t then 10000 else 6000) + (if rising then 1000 else 0) + 3500) := by
    cases t <;> cases rising <;> rfl
  unfold incmpFails incmpBand
  simp only [hband, Bool.or_eq_true, Bool.and_eq_true, decide_eq_true_eq, beq_iff_eq, or_assoc]

theorem limiterSeen_kept (s : State) (i : Nat) (cur : Option (BitVec 16)) : s.sliceKept (s.limiterSeen i cur) := by
  unfold limiterSeen
  dsimp only
  split
  · exact sliceKept_rfl s
  · exact sliceKept_ite (sliceKept_rfl s) (driveIf_kept (s.setInp i _) _ _ _)

theorem cmpFail_kept (s : State) (i part : Nat) : s.sliceKept (s.cmpFail i part) := drive_kept (s.setInp i _) _ _

theorem nextInput_kept (s : State) : s.sliceKept s.nextInput := by
  unfold nextInput
  extract_lets i last p t
  have ht : s.sliceKept t := ⟨rfl, fun _ => rfl, rfl, fun _ h => h⟩
  exact sliceKept_ite (sliceKept_trans ht (passDone_kept t 0)) (sliceKept_trans ht (setSeq_kept t rfl))

/-- How the walk over the inputs goes on after a step of INCMP. -/
def incmpOn (s : State) (st : Nat) (meas : Word) : State :=
  if st % 2 = 0 then { (s.setSeq 0 { s.seq 0 with step := st + 1 }) with inputs := { s.inputs with riseMv := meas.toInt } }
  else if st % 6 / 2 = 0 then
    if (s.inp (st / 6)).cmps then s.nextInput
    else { (s.setSeq 0 { s.seq 0 with step := st + 1 }) with inputs := { s.inputs with sparePh := .connect, spareB := false } }
  else if st % 6 / 2 = 1 then
    { (s.setSeq 0 { s.seq 0 with step := st + 1 }) with inputs := { s.inputs with sparePh := .reconnect } }
  else { s with inputs := { s.inputs with sparePh := .reconnect } }

theorem incmpOn_kept (s : State) (st : Nat) (meas : Word) : s.sliceKept (s.incmpOn st meas) := by
  have steps : s.sliceKept (s.setSeq 0 { s.seq 0 with step := st + 1 }) := setSeq_kept s rfl
  have walks {t : State} (ht : s.sliceKept t) (p : InputsSt) : s.sliceKept { t with inputs := p } :=
    sliceKept_trans ht ⟨rfl, fun _ => rfl, rfl, fun _ h => h⟩
  exact sliceKept_ite (walks steps _) (sliceKept_ite (sliceKept_ite (nextInput_kept s) (walks steps _))
    (sliceKept_ite (walks steps _) (walks (sliceKept_rfl s) _)))

/-- The state with a failed step of INCMP recorded. -/
def incmpMarked (s : State) (r : SliceResult) : State :=
  ((s.qPush 103 (s.bstEntry 0 (s.seq 0).step 3 ((s.seq 0).step / 6) r.meas (BitVec.ofInt 32 s.incmpBand.1)
    (BitVec.ofInt 32 s.incmpBand.2))).1.setSeq 0 { s.seq 0 with failed := true }).setBits bstB (flag 1 true)

theorem incmpMarked_fails (s : State) (r : SliceResult) : (s.incmpMarked r).bst.active = s.bst.active
    ∧ ((s.incmpMarked r).seq 0).failed = true ∧ ((s.incmpMarked r).reg bstB).getLsbD 1 = true := by
  refine ⟨(qPush_kept s (.inr rfl) _).1, ?_, setBits_sets _ _ rfl⟩
  exact congrArg SeqSt.failed (seq_setSeq_same (s.qPush 103 _).1 0 { s.seq 0 with failed := true })

section
variable {s : State} {r : SliceResult}

theorem incmpEnd_of_pass (h : s.incmpFails r.meas = false) :
    s.incmpEnd r = (s.limiterSeen ((s.seq 0).step / 6) r.limiter).incmpOn (s.seq 0).step r.meas := by
  unfold incmpEnd
  rw [h]
  rfl

theorem incmpEnd_of_fail (h : s.incmpFails r.meas = true) :
    s.incmpEnd r = (((s.incmpMarked r).limiterSeen ((s.seq 0).step / 6) r.limiter).cmpFail ((s.seq 0).step / 6)
      ((s.seq 0).step % 6 / 2)).incmpOn (s.seq 0).step r.meas := by
  unfold incmpEnd
  rw [h]
  rfl

theorem incmpEnd_passed (h : s.incmpFails r.meas = false) : s.sliceKept (s.incmpEnd r) := by
  rw [incmpEnd_of_pass h]
  exact sliceKept_trans (limiterSeen_kept s _ _) (incmpOn_kept _ _ _)

theorem incmpEnd_kept (h : s.incmpFails r.meas = true) : (s.incmpMarked r).sliceKept (s.incmpEnd r) := by
  rw [incmpEnd_of_fail h]
  exact sliceKept_trans (sliceKept_trans (limiterSeen_kept _ _ _) (cmpFail_kept _ _ _)) (incmpOn_kept _ _ _)

theorem incmpEnd_active (s : State) (r : SliceResult) : (s.incmpEnd r).bst.active = s.bst.active := by
  cases h : s.incmpFails r.meas with
  | false => exact (incmpEnd_passed h).1
  | true => exact (incmpEnd_kept h).1.trans (incmpMarked_fails s r).1

theorem srcDefault_bank {b : Nat} (h : b < 4) : (srcDefault (36 + b)).isSome = true := by
  have hall : ∀ b < 4, (srcDefault (36 + b)).isSome = true := by decide
  exact hall b h

/-- A switch point outside its band is a failed step of INCMP with FAIL and the fault of its bank. -/
theorem incmpEnd_failed (h : s.incmpFails r.meas = true) (hst : (s.seq 0).step < 192) :
    ((s.incmpEnd r).seq 0).failed = true ∧ ((s.incmpEnd r).reg bstB).getLsbD 1 = true
    ∧ ((s.incmpEnd r).src (36 + (s.seq 0).step / 48)).rail ≠ .ok := by
  obtain ⟨-, failed, status, -⟩ := incmpEnd_kept h
  obtain ⟨-, hfailed, hbit⟩ := incmpMarked_fails s r
  refine ⟨(failed 0).trans hfailed, by rw [status, hbit], ?_⟩
  have hbank : (s.seq 0).step / 48 = (s.seq 0).step / 6 / 8 := by omega
  rw [incmpEnd_of_fail h, hbank]
  exact (incmpOn_kept _ _ _).2.2.2 _ (drive_rail _ _ _ (srcDefault_bank (by omega)))

end

end State

end Sys2Proof.Machine
end

section
/-! SUPPORT. The commands of the self-test and the end of a grant (17 R448, 18 R461-R466). -/
namespace Sys2Proof.Machine
namespace State

theorem yielded_rfl (s : State) : s.yielded s := ⟨rfl, fun _ _ => rfl⟩

variable {s : State}

/-! ### A cycle's slice (18 R461, R464) -/

theorem exec_selfTestSlice_idle (h : s.slices = false ∨ s.bst.active ≠ none ∨ s.bst.used = true) (e : SliceEnv) :
    exec (.selfTestSlice e) s = .next s := by
  refine congrArg Host.Outcome.next (if_pos ?_)
  rcases h with h | h | h
  · exact .inl (by rw [h]; rfl)
  · exact .inr (.inl (Option.isSome_iff_ne_none.2 h))
  · exact .inr (.inr h)

theorem exec_selfTestSlice (hs : s.slices = true) (ha : s.bst.active = none) (hu : s.bst.used = false) (e : SliceEnv) :
    exec (.selfTestSlice e) s = .next (pickSlice e s.byDebt s) :=
  congrArg Host.Outcome.next (if_neg (by simp [hs, ha, hu]))

/-- The slice is deferred for its cause, or admitted first. -/
theorem selfTestSlice_runs (hs : s.slices = true) (ha : s.bst.active = none) (hu : s.bst.used = false) (e : SliceEnv)
    (hn : ∃ n, n < 11 ∧ s.yields n = false ∧ (n ≠ 0 ∨ s.incmpReady = true)) :
    ∃ t, exec (.selfTestSlice e) s = .next t
      ∧ (s.deferCause e ≠ none → t.bst.used = true ∧ t.bst.active = none ∧ (t.reg bstB).getLsbD 2 = true ∧ (t.src 146).rail ≠ .ok)
      ∧ (s.deferCause e = none → (t.bst.used = true ↔ t.bst.active ≠ none)
          ∧ (s.governs = true → (∃ g ∈ s.gov.grants, g.who = .job 0 ∧ g.ended = false) → t.bst.used = true)) := by
  obtain ⟨n, hlt, hrun⟩ := hn
  obtain ⟨u, k, ⟨hu', -⟩, hpick⟩ := pickSlice_reaches s e s.byDebt s (yielded_rfl s) ⟨n, mem_byDebt hlt, hrun⟩
  have hbst : u.bst = s.bst := by rw [hu']
  have hgov : u.gov = s.gov := by rw [hu']
  have hgoverns : u.governs = s.governs := by rw [hu']; rfl
  refine ⟨_, exec_selfTestSlice hs ha hu e, fun hd => ?_, fun hd => ?_⟩
  · obtain ⟨lo, hlo⟩ := Option.ne_none_iff_exists'.1 hd
    rw [hlo] at hpick
    rw [hpick]
    obtain ⟨hbit, hsrc⟩ := deferSlice_stat u lo
    exact ⟨rfl, (congrArg BstSt.active hbst).trans ha, hbit, hsrc⟩
  · rw [hd] at hpick
    rw [hpick]
    refine ⟨?_, fun hg hgrant => startSlice_granted (hgoverns.trans hg) (hgov ▸ hgrant) k⟩
    rcases startSlice_bst u k with ⟨hused, hact⟩ | hsame
    · simp [hused, hact]
    · simp [hsame, hbst, ha, hu]

/-! ### The end of a slice (18 R462, R465, R466) -/

/-- The state in which the result of a slice that has ended is taken. -/
def sliceOver (s : State) : State := { s with bst := { s.bst with active := none } }.endGrant (.job 0)

theorem exec_sliceEnd_none (h : s.bst.active = none) (r : SliceResult) : exec (.sliceEnd r) s = .next s := by
  show execSliceEnd r s = _
  unfold execSliceEnd
  rw [h]

theorem exec_sliceEnd {n : Nat} (h : s.bst.active = some n) (r : SliceResult) :
    exec (.sliceEnd r) s = .next (if n = 0 then s.sliceOver.incmpEnd r else s.sliceOver.stepEnd n r) := by
  show execSliceEnd r s = _
  unfold execSliceEnd
  rw [h]
  rfl

/-! ### The end of a grant (17 R448) -/

theorem exec_grantEnd_none {w : GrantRef}
    (h : ∀ g ∈ s.gov.grants, g.who ≠ (match w with | .core k => .core k.val | .job n => .job n.toNat))
    (e : BitVec 32) : exec (.grantEnd w e) s = .next s :=
  congrArg Host.Outcome.next (settleGrant_none h e.toNat)

section
variable {n : BitVec 16} {e : BitVec 32} {g : Grant} {rest : List Grant}
  (h : takeGrant (.job n.toNat) s.gov.grants = some (g, rest)) (hcost : g.cost ≤ e.toNat)
include h hcost

theorem exec_grantEnd_window (hb : s.boundaryDue = false) :
    exec (.grantEnd (.job n) e) s = .next { s with gov := { s.gov with
      grants := rest
      left := if g.fromRes then s.gov.left else s.gov.left + (g.cost - e.toNat)
      res := if g.fromRes then s.gov.res + (g.cost - e.toNat) else s.gov.res } } :=
  congrArg Host.Outcome.next ((settleGrant_job h hcost).trans
    (giveBack_window (s := { s with gov := { s.gov with grants := rest } }) hb _ _))

theorem exec_grantEnd_boundary (hb : s.boundaryDue = true) :
    exec (.grantEnd (.job n) e) s = .next { s with gov := { s.gov with
      grants := rest
      carry := if g.fromRes then s.gov.carry else s.gov.carry + (g.cost - e.toNat)
      carryRes := if g.fromRes then s.gov.carryRes + (g.cost - e.toNat) else s.gov.carryRes } } :=
  congrArg Host.Outcome.next ((settleGrant_job h hcost).trans
    (giveBack_boundary (s := { s with gov := { s.gov with grants := rest } }) hb _ _))

end

/-! ### The debt of a sequence (18 R463) -/

theorem exec_debtExpire_none {n : Fin 11} (h : (s.seq n).overdue = true ∨ s.tmr.lock = false) : exec (.debtExpire n) s = .next s := by
  refine congrArg Host.Outcome.next (if_pos ?_)
  rcases h with h | h
  · exact .inl h
  · exact .inr (by rw [h]; rfl)

/-- A debt of 1.0 sets OVERDUE and its fault. -/
theorem debtExpire_sets {n : Fin 11} (ho : (s.seq n).overdue = false) (hl : s.tmr.lock = true) :
    ∃ t, exec (.debtExpire n) s = .next t ∧ (t.seq n).overdue = true ∧ (t.reg bstB).getLsbD 3 = true ∧ (t.src 144).rail ≠ .ok := by
  refine ⟨_, congrArg Host.Outcome.next (if_neg (by simp [ho, hl])), ?_, ?_, drive_rail _ 144 _ rfl⟩
  · rw [drive_keeps (fun t => t.seq n.val) _ 144]
    refine (congrArg SeqSt.overdue (seq_of_bst (qPush_bst _ _ _) n.val)).trans ?_
    rw [seq_setSeq_same]
  · rw [drive_keeps (fun t => t.reg bstB) _ 144]
    exact setBits_sets _ _ rfl

end State

/-- Settles O52: a report of a window is read back, a returned grant goes to its pool, and of each slice what its result makes of
its sequence. -/
theorem governorAndSelfTest : Obligations.GovernorAndSelfTest := by
  unfold Obligations.GovernorAndSelfTest
  intro s
  refine ⟨fun e => ⟨fun hl hc => governorWindow_reports hl hc e,
      fun hl => ⟨exec_governorWindow_unlocked hl e, exec_reserveRelease_unlocked hl⟩⟩,
    reserveRelease_joins, fun n e g rest h hcost => ⟨State.exec_grantEnd_window h hcost, State.exec_grantEnd_boundary h hcost⟩,
    fun w e h => State.exec_grantEnd_none h e, fun k c => ⟨hotEntry_sets, exec_hotEntry_below⟩,
    fun e => ⟨fun h => State.exec_selfTestSlice_idle h e, fun hs ha hu hn => State.selfTestSlice_runs hs ha hu e hn⟩,
    fun r => ⟨fun h => State.exec_sliceEnd_none h r, fun n hn => ?_⟩, fun n => ⟨State.debtExpire_sets, State.exec_debtExpire_none⟩⟩
  refine ⟨_, State.exec_sliceEnd hn r, ?_, ?_, ?_, ?_⟩
  · split
    · exact State.incmpEnd_active s.sliceOver r
    · exact State.stepEnd_active s.sliceOver n r
  · rintro rfl hst
    rw [if_pos rfl]
    extract_lets st type1 low v fails
    have hfails : s.sliceOver.incmpFails r.meas = true ↔ fails := State.incmpFails_iff s r.meas
    refine ⟨fun hf => ?_, fun hf => ?_⟩
    · exact State.incmpEnd_failed (s := s.sliceOver) (hfails.2 hf) hst
    · exact (State.incmpEnd_passed (Bool.eq_false_iff.2 (mt hfails.1 hf))).2.1 0
  · intro h0 hf hd
    rw [if_neg h0]
    exact State.stepEnd_passed (s := s.sliceOver) hf hd
  · intro h0 hbad hconf
    rw [if_neg h0]
    exact ⟨State.stepEnd_again (s := s.sliceOver) hbad hconf, State.stepEnd_confirms (s := s.sliceOver) hbad hconf⟩

end Sys2Proof.Machine
end

section
/-! SUPPORT. The trust engine (20 R502-R522, 22 R559-R564): the start and the end of its jobs, and the words that its memory accesses
leave. -/
namespace Sys2Proof.Machine

/-- An entry that a filter passes is read as before, when it is listed. -/
theorem look_filter_listed {α : Type} (d : α) (p : Nat → Bool) {k : Nat} (hp : p k = true) :
    ∀ {t : Tab α}, look d t k ≠ d → look d (t.filter (fun e => p e.1)) k = look d t k
  | [], _ => rfl
  | (j, a) :: t, h => by
    rcases lt_trichotomy k j with hkj | rfl | hjk
    · exact absurd (by rw [look, if_neg hkj.ne, if_pos hkj]) h
    · rw [List.filter_cons_of_pos (p := fun e : Nat × α => p e.1) hp, look, if_pos rfl, look, if_pos rfl]
    · have hrest : look d ((j, a) :: t) k = look d t k := by rw [look, if_neg hjk.ne', if_neg hjk.not_gt]
      rw [hrest] at h ⊢
      rw [← look_filter_listed d p hp h, List.filter_cons]
      split
      · rw [look, if_neg hjk.ne', if_neg hjk.not_gt]
      · rfl

namespace State

theorem onlyLog_tru {s t : State} (h : s.onlyLog t) : t.tru = s.tru := by rw [h]

/-! ### The end of a job (20 R522) -/

/-- A word outside the window that has been written outlasts the clearing of the window. -/
theorem clearWin_reg {s : State} {a : Nat} (ha : a < truB + 0x2000) (h : s.reg a ≠ regReset a) : s.clearWin.reg a = s.reg a :=
  look_filter_listed (regReset a) (fun a => decide (a < truB + 0x2000) || decide (truB + 0x4000 ≤ a)) (k := a) (by simp [ha])
    (t := s.regs) h

section
variable (s : State) (ok keep : Bool) (result : Nat)

theorem truEnd_reg {a : Nat} (ha : a < truB + 0x2000) (h : (s.jobStat (truB + 0x48) ok result).reg a ≠ regReset a) :
    (s.truEnd ok result keep).reg a = (s.jobStat (truB + 0x48) ok result).reg a := by
  unfold truEnd
  cases keep with
  | true => rfl
  | false => exact clearWin_reg (s := { s.jobStat (truB + 0x48) ok result with tru := _ }) ha h

theorem truEnd_jobstat : (s.truEnd ok result keep).reg (truB + 0x48) = (s.jobStat (truB + 0x48) ok result).reg (truB + 0x48) := by
  refine truEnd_reg s ok keep result (by decide) fun h0 => ?_
  have hstate := jobStat_state s (truB + 0x48) ok result
  rw [h0] at hstate
  cases ok <;> exact absurd hstate (by decide)

theorem truEnd_state : ((s.truEnd ok result keep).reg (truB + 0x48)).toNat % 16 = if ok then 3 else 4 := by
  rw [truEnd_jobstat, jobStat_state]

theorem truEnd_result : ((s.truEnd ok result keep).reg (truB + 0x48)).toNat / 65536 = result % 65536 := by
  rw [truEnd_jobstat, jobStat_result]

theorem truEnd_tru : (s.truEnd ok result keep).tru = { s.tru with job := none } := by
  unfold truEnd
  cases keep <;> rfl

theorem truEnd_md : (s.truEnd ok result keep).md = s.md := by
  unfold truEnd
  cases keep <;> rfl

theorem truEnd_upd : (s.truEnd ok result keep).upd = s.upd := by
  unfold truEnd
  cases keep <;> rfl

end

/-! ### The start of a job (20 R522) -/

section
variable {s : State}

theorem truCmd_ignored {key : Nat} (h : key ≠ 0x5A ∨ s.truModes = false ∨ s.truBusy = true) (op arg : Nat) :
    s.truCmd op arg key = (s, stIgnored) :=
  if_pos (by simpa using h)

theorem truCmd_runs {op arg : Nat} (hm : s.truModes = true) (hb : s.truBusy = false) : s.truCmd op arg 0x5A
    = match s.truRefusal op arg with
      | some c => (s.truEnd false c false, stOk)
      | none => ({ s.setReg (truB + 0x48) 1 with
          tru := { s.tru with job := some { op := op, arg := arg }, wipePend := s.tru.wipePend || op == 3 }
          mem := { s.mem with wipe := s.mem.wipe || op == 4 } }, stOk) :=
  if_neg (by simp [hm, hb])

end

/-! ### The end of an authorisation (20 R515) -/

theorem authEnd_auth (s : State) : s.authEnd.tru.auth = none := by
  unfold authEnd
  dsimp only
  split
  · exact congrArg TruSt.auth (onlyLog_tru (log_only _ _ _ _ _ _ _))
  · rfl

theorem authEnd_service {s : State} (ha : s.tru.auth ≠ none) (hm : s.md.mode = .service) :
    s.authEnd.md.mode = .reset ∧ s.authEnd.md.cause = 3 := by
  have hend : s.authEnd = { s.debugDrop with tru := { s.debugDrop.tru with auth := none } }.toMode .reset 3 :=
    if_pos ⟨Option.isSome_iff_ne_none.2 ha, hm⟩
  obtain ⟨hmode, -, hcause⟩ := toMode_md { s.debugDrop with tru := { s.debugDrop.tru with auth := none } } .reset 3
  rw [hend]
  exact ⟨hmode, hcause nofun⟩

/-! ### What the jobs leave (20 R513-R518, 22 R559-R564) -/

section
variable {s : State}

theorem runAuth_accepts (h : s.authResult = 0) : ∃ a : Auth, a.kind = s.winNum 4 1 ∧ a.expires = s.now + s.winNum 48 4 * 200000000
    ∧ s.runAuth = { s.extend 8 (shaBytes (s.winBytes 0 64)) with
        tru := { (s.extend 8 (shaBytes (s.winBytes 0 64))).tru with auth := some a, chal := none } }.truEnd true 0 false :=
  ⟨_, rfl, rfl, if_pos h⟩

theorem runAuth_refuses (h : s.authResult ≠ 0) : s.runAuth
    = (({ s with tru := { s.tru with chal := none } }.setBits truB (flag 4 true)).driveItem 164 0).truEnd false s.authResult false :=
  if_neg h

theorem driveItem_regs (s : State) (n : Nat) (d : BitVec 16) : (s.driveItem n d).regs = s.regs := by
  unfold driveItem
  split <;> rfl

theorem driveItem_tru (s : State) (n : Nat) (d : BitVec 16) : (s.driveItem n d).tru = s.tru := by
  unfold driveItem
  split <;> rfl

theorem runAuth_ends (s : State) : s.runAuth.tru.job = none ∧ s.runAuth.tru.chal = none
    ∧ (s.authResult = 0 → (s.runAuth.reg (truB + 0x48)).toNat % 16 = 3 ∧ ∃ a, s.runAuth.tru.auth = some a ∧ a.kind = s.winNum 4 1
        ∧ a.expires = s.now + s.winNum 48 4 * 200000000)
    ∧ (s.authResult ≠ 0 → s.runAuth.tru.auth = s.tru.auth ∧ (s.runAuth.reg (truB + 0x48)).toNat / 65536 = s.authResult % 65536
        ∧ (s.runAuth.reg truB).getLsbD 4 = true) := by
  by_cases h : s.authResult = 0
  · obtain ⟨a, hkind, hexp, hrun⟩ := runAuth_accepts h
    rw [hrun, truEnd_tru, truEnd_state]
    exact ⟨rfl, rfl, fun _ => ⟨rfl, a, rfl, hkind, hexp⟩, fun hn => absurd h hn⟩
  · rw [runAuth_refuses h, truEnd_tru, truEnd_result, driveItem_tru]
    refine ⟨rfl, rfl, fun h0 => absurd h0 h, fun _ => ⟨rfl, rfl, ?_⟩⟩
    generalize { s with tru := { s.tru with chal := none } } = u
    have hbit : (((u.setBits truB (flag 4 true)).driveItem 164 0).reg truB).getLsbD 4 = true := by
      rw [reg_of_regs (driveItem_regs _ _ _)]
      exact setBits_sets _ _ rfl
    have hstat := jobStat_reg_ne ((u.setBits truB (flag 4 true)).driveItem 164 0) (show truB ≠ truB + 0x48 by decide) false
      s.authResult
    rw [truEnd_reg _ _ _ _ (by decide) ?_, hstat, hbit]
    rw [hstat]
    intro h0
    rw [h0] at hbit
    exact absurd hbit (by decide)

theorem runLcadv_resets (s : State) (target : Nat) (e : BurnEnv) (stop : Bool) :
    (s.runLcadv target e stop).md.mode = .reset ∧ (s.runLcadv target e stop).md.cause = 2 := by
  obtain ⟨hmode, -, hcause⟩ := toMode_md { (s.burnLife target e stop).s.wipeUser with
    tru := { (s.burnLife target e stop).s.wipeUser.tru with wipePend := false, job := none } } .reset 2
  exact ⟨hmode, hcause nofun⟩

theorem runUpdata_closed {kind : Nat} (h : s.openOf kind = none) (nv : Bool) : s.runUpdata kind nv = s.truEnd false 0x0030 false := by
  unfold runUpdata
  rw [h]

section
variable (hmode : s.md.mode = .commission) (htrel : s.md.trel = none)
include hmode htrel

theorem runConfirm_ccvA (h : w32 (s.winNum 0 4) ≠ s.ccvA) (nv : Bool) : s.runConfirm nv = s.truEnd false 0x0041 false := by
  unfold runConfirm
  dsimp only
  rw [if_neg (by simp [hmode]), if_neg (by simp [htrel]), if_pos h]

theorem runConfirm_ccvB (hA : w32 (s.winNum 0 4) = s.ccvA) (h : w32 (s.winNum 0 4) ≠ s.ccvB) (nv : Bool) :
    s.runConfirm nv = s.truEnd false 0x0042 false := by
  unfold runConfirm
  dsimp only
  rw [if_neg (by simp [hmode]), if_neg (by simp [htrel]), if_neg (not_not.2 hA), if_pos h]

end
end

/-! ### What an access to memory leaves of the queues (16 R421, R428) -/

/-- The words that describe a queue are those of s. -/
def queueWords (s t : State) : Prop := ∀ a, queB < a → a < queB + 0x2000 → t.reg a = s.reg a

theorem queueWords_rfl (s : State) : s.queueWords s := fun _ _ _ => rfl

theorem queueWords_trans {s t u : State} (h : s.queueWords t) (k : t.queueWords u) : s.queueWords u :=
  fun a hlo hhi => (k a hlo hhi).trans (h a hlo hhi)

/-- The queues of s and the words that describe them. -/
def queuesKept (s t : State) : Prop := t.queues = s.queues ∧ s.queueWords t

theorem queuesKept_rfl (s : State) : s.queuesKept s := ⟨rfl, queueWords_rfl s⟩

theorem queuesKept_trans {s t u : State} (h : s.queuesKept t) (k : t.queuesKept u) : s.queuesKept u :=
  ⟨k.1.trans h.1, queueWords_trans h.2 k.2⟩

theorem queuesKept_setReg {s t : State} (h : s.queuesKept t) {b : Nat} (hb : b ≤ queB ∨ queB + 0x2000 ≤ b) (v : Word) :
    s.queuesKept (t.setReg b v) := queuesKept_trans h ⟨rfl, fun a hlo hhi => reg_setReg_ne t b a v (by omega)⟩

theorem queuesKept_drive {s t : State} (h : s.queuesKept t) (n : Nat) (d : BitVec 16) : s.queuesKept (t.drive n d) :=
  queuesKept_trans h ⟨drive_keeps State.queues t n d, fun a _ _ => reg_of_regs (drive_keeps State.regs t n d) a⟩

theorem queuesKept_unsoft (s : State) (w : Nat) : s.queuesKept (s.unsoft w) := queuesKept_rfl s

theorem eccRead_kept (s : State) (a m : Nat) : s.queuesKept (s.eccRead a m).1 := by
  unfold eccRead
  dsimp only
  split
  · split
    · exact queuesKept_drive (queuesKept_setReg (queuesKept_setReg (queuesKept_setReg (queuesKept_rfl s) (by decide) _) (by decide) _)
        (by decide) _) 133 _
    split
    · exact queuesKept_drive (queuesKept_setReg (queuesKept_setReg (queuesKept_unsoft s _) (by decide) _) (by decide) _) 134 _
    · exact queuesKept_rfl s
  · split
    · exact queuesKept_setReg (queuesKept_rfl s) (by decide) _
    split
    · exact queuesKept_setReg (queuesKept_unsoft s _) (by decide) _
    · exact queuesKept_rfl s
  · split
    · exact queuesKept_drive (queuesKept_setReg (queuesKept_rfl s) (by decide) _) 136 _
    split
    · exact queuesKept_unsoft s _
    · exact queuesKept_rfl s
  · exact queuesKept_rfl s

theorem eccSpan_kept (s : State) (a k m : Nat) : s.queuesKept (s.eccSpan a k m).1 := by
  refine List.foldlRecOn (motive := fun r : State × Bool => s.queuesKept r.1) _ _ (queuesKept_rfl s) fun r hr w _ => ?_
  exact queuesKept_trans hr (eccRead_kept r.1 w m)

theorem eccWrite_kept (s : State) (a k m : Nat) : s.queuesKept (s.eccWrite a k m).1 := by
  unfold eccWrite
  split
  · exact queuesKept_rfl s
  · exact eccRead_kept s a m

theorem setBytes_kept : ∀ (bs : List Byte) (s : State) (a : Nat), s.queuesKept (s.setBytes a bs)
  | [], s, _ => queuesKept_rfl s
  | b :: bs, s, a => queuesKept_trans (t := s.setByte a b) (queuesKept_rfl s) (setBytes_kept bs (s.setByte a b) (a + 1))

theorem nvWrite_kept (s : State) (a : Nat) (bs : List Byte) : s.queuesKept (s.nvWrite a bs).1 := by
  unfold nvWrite
  dsimp only
  split
  · exact queuesKept_drive (queuesKept_setReg (queuesKept_setReg (queuesKept_rfl s) (by decide) _) (by decide) _) 137 0
  · exact setBytes_kept bs s a

theorem ramWrite_kept (s : State) (m a : Nat) (bs : List Byte) : s.queuesKept (s.ramWrite m a bs).1 := by
  have hecc := eccWrite_kept s a bs.length m
  unfold ramWrite
  dsimp only
  split
  · split
    · split
      · exact queuesKept_trans hecc (nvWrite_kept _ a bs)
      · exact hecc
    · exact queuesKept_setReg (queuesKept_rfl s) (by decide) _
  · split
    · exact queuesKept_trans hecc (setBytes_kept bs _ a)
    · exact hecc

theorem truWrite_kept (k : Nat) : ∀ (s : State) (a : Nat) (bs : List Byte), s.queuesKept (s.truWrite a k bs).1 := by
  induction k with
  | zero => exact fun s a bs => queuesKept_rfl s
  | succ k ih =>
    intro s a bs
    have hw := ramWrite_kept s 9 a (bs.take 8)
    unfold truWrite
    dsimp only
    split
    · exact queuesKept_rfl s
    split
    · exact queuesKept_trans hw (ih _ _ _)
    · exact hw

/-! ### Queued quotes (20 R509) -/

/-- The other queues of s than q, and the words that describe queues. -/
def otherQueues (q : Nat) (s t : State) : Prop := (∀ p, p ≠ q → t.queue p = s.queue p) ∧ s.queueWords t

theorem otherQueues_trans {q : Nat} {s t u : State} (h : otherQueues q s t) (k : otherQueues q t u) : otherQueues q s u :=
  ⟨fun p hp => (k.1 p hp).trans (h.1 p hp), queueWords_trans h.2 k.2⟩

theorem queue_of_queues {s t : State} (h : t.queues = s.queues) (q : Nat) : t.queue q = s.queue q := by rw [queue, h, queue]

theorem otherQueues_of_kept {s t : State} (h : s.queuesKept t) (q : Nat) : otherQueues q s t :=
  ⟨fun p _ => queue_of_queues h.1 p, h.2⟩

theorem otherQueues_setQueue (s : State) (q : Nat) (v : Queue) : otherQueues q s (s.setQueue q v) :=
  ⟨fun p hp => look_put_ne _ _ _ _ p _ hp, queueWords_rfl s⟩

theorem qPopN_others (q k : Nat) : ∀ s : State, otherQueues q s (qPopN q k s).1 := by
  induction k with
  | zero => exact fun s => ⟨fun _ _ => rfl, queueWords_rfl s⟩
  | succ k ih =>
    intro s
    unfold qPopN
    extract_lets v
    split
    · exact ⟨fun _ _ => rfl, queueWords_rfl s⟩
    · extract_lets t r
      have hr : otherQueues q s r.1 := otherQueues_trans (otherQueues_setQueue s q _) (otherQueues_of_kept (eccSpan_kept t _ _ _) q)
      split
      · exact hr
      · exact otherQueues_trans hr (ih r.1)

section
variable {s t : State} (hwords : s.queueWords t) {q : Nat} (hq : q < 128)
include hwords hq

theorem qEn_of_words : t.qEn q = s.qEn q := by rw [qEn, hwords _ (by omega) (by omega), qEn]

theorem qFull_of_words (h : t.queue q = s.queue q) (hno : ¬ (64 ≤ q ∧ q < 80)) : t.qFull q = s.qFull q := by
  rw [qFull, qDepth, hwords _ (by omega) (by omega), h, if_neg hno, qFull, qDepth, if_neg hno]

end

theorem qPush_queue_ne (s : State) {p q : Nat} (h : p ≠ q) (bs : List Byte) : (s.qPush q bs).1.queue p = s.queue p := by
  unfold qPush
  dsimp only
  split
  · split
    · exact queue_of_queues (drive_keeps State.queues _ 138 0) p
    · rfl
  · exact (look_put_ne _ _ _ _ p _ h).trans (queue_of_queues (setBytes_kept _ s _).1 p)

/-- A result that enters Q125. -/
theorem qPush_result {s t : State} (h : s.queuesKept t) (hfull : s.qFull 125 = false) (hen : s.qEn 125 = true) (bs : List Byte) :
    (t.qPush 125 bs).1.queue 124 = s.queue 124
    ∧ ((t.qPush 125 bs).1.queue 125).slots = (s.queue 125).slots ++ [{ idx := (s.queue 125).next, st := .published }] := by
  obtain ⟨hqueues, hwords⟩ := h
  have h125 := queue_of_queues hqueues 125
  have hfull' : t.qFull 125 = false := (qFull_of_words hwords (by decide) h125 (by decide)).trans hfull
  have hen' : t.qEn 125 = true := (qEn_of_words hwords (by decide)).trans hen
  refine ⟨(qPush_queue_ne t (by decide) bs).trans (queue_of_queues hqueues 124), ?_⟩
  rw [qPush_slots hfull' hen', h125]

/-- Whatever a request asks, it is answered in Q125. -/
theorem serveQuote_answers {s : State} (hfull : s.qFull 125 = false) (hen : s.qEn 125 = true) (e : List Byte) :
    (s.serveQuote e).queue 124 = s.queue 124
    ∧ ((s.serveQuote e).queue 125).slots = (s.queue 125).slots ++ [{ idx := (s.queue 125).next, st := .published }] := by
  have answered (bs : List Byte) := qPush_result (queuesKept_rfl s) hfull hen bs
  unfold serveQuote
  extract_lets n dest len fin q w
  split
  · exact answered _
  split
  · exact answered _
  split
  · exact answered _
  split
  · exact answered _
  · have hw : s.queuesKept w.1 := queuesKept_trans (t := q.1) (queuesKept_rfl s) (truWrite_kept _ q.1 dest q.2)
    split
    · exact qPush_result hw hfull hen _
    · exact qPush_result hw hfull hen _

theorem nextQuote_answers {s t : State} {entry : List Byte} (hpop : s.qPop 124 = (t, some entry)) (hfull : s.qFull 125 = false)
    (hen : s.qEn 125 = true) : s.nextQuote.queue 124 = t.queue 124
    ∧ (s.nextQuote.queue 125).slots = (s.queue 125).slots ++ [{ idx := (s.queue 125).next, st := .published }] := by
  obtain ⟨hqueue, hwords⟩ : otherQueues 124 s t := by
    have h := qPopN_others 124 ((s.queue 124).slots.length + 1) s
    rwa [show (qPopN 124 ((s.queue 124).slots.length + 1) s).1 = t from congrArg Prod.fst hpop] at h
  have h125 := hqueue 125 (by decide)
  have hfull' : t.qFull 125 = false := (qFull_of_words hwords (by decide) h125 (by decide)).trans hfull
  have hen' : t.qEn 125 = true := (qEn_of_words hwords (by decide)).trans hen
  have hnext : s.nextQuote = t.serveQuote entry := by
    unfold nextQuote
    rw [hpop]
  rw [hnext, ← h125]
  exact serveQuote_answers hfull' hen' entry

/-! ### Cairns and anti-rollback (20 R502, R507) -/

theorem senseWord_md (s : State) (w : Nat) : (s.senseWord w).md = s.md := by
  unfold senseWord
  dsimp only
  split <;> rfl

/-- Burning a word with nothing that fails or interrupts goes on. -/
theorem burnWord_goes {e : BurnEnv} (he : e.fails = []) {b : Burn} (hl : b.left = none) (hf : b.failed = none)
    (hs : b.stopped = false) (hr : b.refused = none) (w : Nat) (code : BitVec 39) :
    (Burn.word e b w code).left = none ∧ (Burn.word e b w code).failed = none ∧ (Burn.word e b w code).stopped = false
    ∧ (Burn.word e b w code).refused = none ∧ (Burn.word e b w code).s.md = b.s.md := by
  unfold Burn.word
  rw [if_neg (by simp [Burn.goes, hf, hs, hr]), if_neg (by simp [hl])]
  dsimp only
  rw [(burnBits_all he b.s w code).1]
  exact ⟨by rw [hl]; rfl, rfl, hs, hr, senseWord_md _ _⟩

theorem burnWords_go {e : BurnEnv} (he : e.fails = []) (w : Nat → Nat) (code : Nat → BitVec 39) : ∀ (l : List Nat) {b : Burn},
    b.left = none → b.failed = none → b.stopped = false → b.refused = none →
    (l.foldl (fun (b : Burn) p => Burn.word e b (w p) (code p)) b).failed = none
    ∧ (l.foldl (fun (b : Burn) p => Burn.word e b (w p) (code p)) b).stopped = false
    ∧ (l.foldl (fun (b : Burn) p => Burn.word e b (w p) (code p)) b).s.md = b.s.md
  | [], _, _, hf, hs, _ => ⟨hf, hs, rfl⟩
  | p :: l, b, hl, hf, hs, hr => by
    obtain ⟨hl', hf', hs', hr', hmd⟩ := burnWord_goes he hl hf hs hr (w p) (code p)
    obtain ⟨hfailed, hstopped, hkept⟩ := burnWords_go he w code l hl' hf' hs' hr'
    exact ⟨hfailed, hstopped, hkept.trans hmd⟩

/-- The burns of the anti-rollback tally. -/
def advBurn (s : State) (e : BurnEnv) : Burn :=
  s.advBits.foldl (fun (b : Burn) p => Burn.word e b (224 + p / 32) (bitAt 39 (p % 32)))
    { s := s, left := if e.vlBad then some e.words.toNat else none }

theorem advBurn_goes (s : State) {e : BurnEnv} (hv : e.vlBad = false) (he : e.fails = []) :
    (s.advBurn e).failed = none ∧ (s.advBurn e).stopped = false ∧ (s.advBurn e).s.md = s.md := by
  unfold advBurn
  exact burnWords_go he (fun p => 224 + p / 32) (fun p => bitAt 39 (p % 32)) s.advBits (by simp [hv]) rfl rfl rfl

/-- The state with no advance pending. -/
def advNoted (s : State) : State := { s with tru := { s.tru with advPend := false } }

theorem advNoted_md (s : State) : s.advNoted.md = s.md := rfl

theorem advance_of_burnt {s : State} {e : BurnEnv} (hf : (s.advBurn e).failed = none) (hs : (s.advBurn e).stopped = false) :
    s.advance e = (s.advBurn e).s.advNoted := by
  show (if (s.advBurn e).failed.isSome then _ else if (s.advBurn e).stopped then _ else _) = _
  rw [hf, hs]
  rfl

theorem advance_ends (s : State) {e : BurnEnv} (hv : e.vlBad = false) (he : e.fails = []) :
    (s.advance e).tru.advPend = false ∧ (s.advance e).md = s.md := by
  obtain ⟨hfailed, hstopped, hmd⟩ := advBurn_goes s hv he
  rw [advance_of_burnt hfailed hstopped]
  exact ⟨rfl, (advNoted_md _).trans hmd⟩

end State

end Sys2Proof.Machine
end

section
/-! SUPPORT. The commands of the trust engine (20 R502-R522, 22 R559-R564). -/
namespace Sys2Proof.Machine

section
open State
variable {s : State}

/-! ### JOBCMD (20 R522) -/

/-- What a JOBCMD of the trust engine does, by its refusal. -/
theorem truCmd_asks {i : Instr} {m : Fin 10} (hm : s.revoked m = false) {key : BitVec 8} {op arg : Nat}
    (hi : exec i s = .next (s.truAsk m op arg key.toNat)) :
    ((key ≠ 0x5A ∨ s.truModes = false ∨ s.truBusy = true) → exec i s = .next (s.answer stIgnored []))
    ∧ (key = 0x5A → s.truModes = true → s.truBusy = false →
      (s.truRefusal op arg = none → ∃ t, exec i s = .next t ∧ t.reg (truB + 0x48) = 1 ∧ t.resp.status = stOk
        ∧ t.tru.job = some { op := op, arg := arg } ∧ (op = 3 → t.tru.wipePend = true) ∧ (op = 4 → t.mem.wipe = true))
      ∧ (∀ code, s.truRefusal op arg = some code → ∃ t, exec i s = .next t ∧ t.tru.job = none ∧ t.resp.status = stOk
        ∧ (t.reg (truB + 0x48)).toNat % 16 = 4 ∧ (t.reg (truB + 0x48)).toNat / 65536 = code % 65536)) := by
  rw [truAsk, if_neg (by simp [hm])] at hi
  rw [hi]
  refine ⟨fun h => ?_, ?_⟩
  · rw [truCmd_ignored (h.imp_left fun hk hn => hk (BitVec.eq_of_toNat_eq hn))]
  · rintro rfl hmodes hbusy
    rw [show (0x5A : BitVec 8).toNat = 0x5A from rfl, truCmd_runs hmodes hbusy]
    refine ⟨fun hr => ?_, fun code hr => ?_⟩
    · rw [hr]
      exact ⟨_, rfl, reg_setReg _ _ _, rfl, rfl, fun h => by simp [h], fun h => by simp [h]⟩
    · rw [hr]
      exact ⟨_, rfl, congrArg TruSt.job (truEnd_tru s false false code), rfl, truEnd_state s false false code,
        truEnd_result s false false code⟩

/-! ### The end of a job (20 R509-R522, 22 R559-R564) -/

theorem exec_truJobEnd_none (h : s.tru.job = none) (e : BurnEnv) (nv : Bool) : exec (.truJobEnd e nv) s = .next s := by
  show execTruJobEnd e nv s = _
  unfold execTruJobEnd
  rw [h]

theorem exec_truJobEnd {j : TruJob} (h : s.tru.job = some j) (e : BurnEnv) (nv : Bool) :
    exec (.truJobEnd e nv) s = .next (if j.stopped || j.lost then s.truJobEnd j e nv
      else if j.op = 1 then s.underGrant 4 3 (fun t => t.truJobEnd j e nv)
      else s.underGrant 5 4 (fun t => t.truJobEnd j e nv)) := by
  show execTruJobEnd e nv s = _
  unfold execTruJobEnd
  rw [h]

theorem truJobEnd_lost {j : TruJob} (h : s.tru.job = some j) (hl : j.lost = true) (e : BurnEnv) (nv : Bool) :
    ∃ t, exec (.truJobEnd e nv) s = .next t ∧ t.tru.job = none := by
  refine ⟨_, exec_truJobEnd h e nv, ?_⟩
  rw [if_pos (by simp [hl]), State.truJobEnd, if_pos hl]

theorem truJobEnd_denied {j : TruJob} (h : s.tru.job = some j) (hl : j.lost = false) (hs : j.stopped = false)
    (hg : s.governs = false) (e : BurnEnv) (nv : Bool) :
    ∃ t, exec (.truJobEnd e nv) s = .next t ∧ t.tru = s.tru ∧ t.regs = s.regs ∧ t.mem = s.mem := by
  refine ⟨_, exec_truJobEnd h e nv, ?_⟩
  have denied (n cls : Nat) (f : State → State) : ∃ g, s.underGrant n cls f = { s with gov := g } :=
    underGrant_denied (.inl hg) cls f
  rw [if_neg (by simp [hl, hs])]
  split
  · obtain ⟨g, hg⟩ := denied 4 3 (fun t => t.truJobEnd j e nv)
    rw [hg]
    exact ⟨rfl, rfl, rfl⟩
  · obtain ⟨g, hg⟩ := denied 5 4 (fun t => t.truJobEnd j e nv)
    rw [hg]
    exact ⟨rfl, rfl, rfl⟩

/-- A job that has been stopped, or has its grant, ends. -/
theorem exec_truJobEnd_runs {j : TruJob} (h : s.tru.job = some j) (hl : j.lost = false) (hrun : j.stopped = true
      ∨ (s.governs = true ∧ ∃ g ∈ s.gov.grants, g.who = (if j.op = 1 then Worker.job 4 else .job 5) ∧ g.ended = false))
    (e : BurnEnv) (nv : Bool) : exec (.truJobEnd e nv) s = .next (s.truJobEnd j e nv) := by
  rw [exec_truJobEnd h e nv]
  cases hs : j.stopped with
  | true => rfl
  | false =>
    obtain ⟨hgov, hg⟩ := hrun.resolve_left (by simp [hs])
    rw [if_neg (by simp [hl])]
    split
    next hop =>
      rw [if_pos hop] at hg
      rw [underGrant_granted hgov hg]
    next hop =>
      rw [if_neg hop] at hg
      rw [underGrant_granted hgov hg]

section
variable {j : TruJob} (hl : j.lost = false) (e : BurnEnv) (nv : Bool)
include hl

/-- The end of a job that no reset has lost is what its operation does. -/
theorem truJobEnd_quote (hop : j.op = 1) : (s.truJobEnd j e nv).tru.job = none
    ∧ ((s.truJobEnd j e nv).reg (truB + 0x48)).toNat % 16 = 3 := by
  rw [State.truJobEnd, if_neg (by simp [hl]), hop]
  exact ⟨rfl, truEnd_state _ true true 0⟩

theorem truJobEnd_auth (hop : j.op = 2) : s.truJobEnd j e nv = s.runAuth := by
  rw [State.truJobEnd, if_neg (by simp [hl]), hop]
  rfl

theorem truJobEnd_lcadv (hop : j.op = 3) : s.truJobEnd j e nv = s.runLcadv j.arg e j.stopped := by
  rw [State.truJobEnd, if_neg (by simp [hl]), hop]
  rfl

theorem truJobEnd_nvwipe (hop : j.op = 4) (hs : j.stopped = false) : (s.truJobEnd j e nv).tru.job = none
    ∧ (s.truJobEnd j e nv).mem.wipe = false := by
  rw [State.truJobEnd, if_neg (by simp [hl]), hop]
  dsimp only
  rw [if_neg (by simp [hs])]
  exact ⟨congrArg TruSt.job (truEnd_tru _ _ _ _), congrArg MemSt.wipe (truEnd_mem _ _ _ _)⟩

theorem truJobEnd_deauth (hop : j.op = 5) : s.truJobEnd j e nv = (s.truEnd true 0 false).authEnd := by
  rw [State.truJobEnd, if_neg (by simp [hl]), hop]
  rfl

theorem truJobEnd_upbegin (hop : j.op = 8) (hm : s.upModes j.arg = true) : s.truJobEnd j e nv = s.runUpbegin j.arg := by
  rw [State.truJobEnd, if_neg (by simp [hl]), hop]
  exact if_pos hm

theorem truJobEnd_updata (hop : j.op = 9) (hm : s.upModes j.arg = true) : s.truJobEnd j e nv = s.runUpdata j.arg nv := by
  rw [State.truJobEnd, if_neg (by simp [hl]), hop]
  exact if_pos hm

theorem truJobEnd_confirm (hop : j.op = 11) : s.truJobEnd j e nv = s.runConfirm nv := by
  rw [State.truJobEnd, if_neg (by simp [hl]), hop]
  rfl

end

/-- A refused job has ended with its result and has changed neither mode nor memory. -/
theorem truEnd_refused (s : State) (code : Nat) : (s.truEnd false code false).tru.job = none
    ∧ ((s.truEnd false code false).reg (truB + 0x48)).toNat / 65536 = code % 65536 ∧ (s.truEnd false code false).md = s.md
    ∧ (s.truEnd false code false).mem = s.mem :=
  ⟨congrArg TruSt.job (truEnd_tru _ _ _ _), truEnd_result _ _ _ _, truEnd_md _ _ _ _, truEnd_mem _ _ _ _⟩

theorem deauth_ends (s : State) : (s.truEnd true 0 false).authEnd.tru.auth = none
    ∧ (s.md.mode = .service → s.tru.auth ≠ none → (s.truEnd true 0 false).authEnd.md.mode = .reset
        ∧ (s.truEnd true 0 false).authEnd.md.cause = 3) := by
  refine ⟨authEnd_auth _, fun hm ha => authEnd_service ?_ ?_⟩
  · rwa [truEnd_tru]
  · rwa [truEnd_md]

theorem runUpbegin_opens (s : State) (kind : Nat) : (s.runUpbegin kind).tru.job = none
    ∧ (s.runUpbegin kind).upd.opened = some (kind, 0) :=
  ⟨congrArg TruSt.job (truEnd_tru _ _ _ _), congrArg UpdSt.opened (truEnd_upd _ _ _ _)⟩

/-! ### Quotes, authorisations, cairns and challenges (20 R507, R509, R512, R515) -/

theorem exec_quoteQueueRequest_none (h : s.truModes = false ∨ s.truBusy = true ∨ s.qAvail 124 = false) :
    exec .quoteQueueRequest s = .next s := congrArg Host.Outcome.next (if_pos (by simpa using h))

theorem qAvail_of_qPop {q : Nat} {t : State} {entry : List Byte} (h : s.qPop q = (t, some entry)) : s.qAvail q = true := by
  rw [qAvail, Option.isSome_iff_ne_none]
  intro hn
  rw [qPop, qPopN, hn] at h
  cases h

theorem quoteQueueRequest_answers {t : State} {entry : List Byte} (hm : s.truModes = true) (hb : s.truBusy = false)
    (hpop : s.qPop 124 = (t, some entry)) (hfull : s.qFull 125 = false) (hen : s.qEn 125 = true) (hgov : s.governs = true)
    (hg : ∃ g ∈ s.gov.grants, g.who = .job 4 ∧ g.ended = false) :
    ∃ u, exec .quoteQueueRequest s = .next u ∧ u.queue 124 = t.queue 124
      ∧ (u.queue 125).slots = (s.queue 125).slots ++ [{ idx := (s.queue 125).next, st := .published }] := by
  have hrun : exec .quoteQueueRequest s = .next (s.underGrant 4 3 State.nextQuote) :=
    congrArg Host.Outcome.next (if_neg (by simp [hm, hb, qAvail_of_qPop hpop]))
  rw [underGrant_granted hgov hg] at hrun
  exact ⟨_, hrun, nextQuote_answers hpop hfull hen⟩

theorem challenge_draws {m : Fin 10} (hm : s.revoked m = false) :
    ∃ t, exec (.challenge m) s = .next t ∧ t.tru.chal = some (Config.entropy s.fresh) ∧ t.resp.status = stOk ∧ t.resp.data = [1]
      ∧ t.fresh = s.fresh + 1 := by
  refine ⟨s.newChal.1.answer stOk [1], ?_, rfl, rfl, rfl, ?_⟩
  · exact congrArg Host.Outcome.next (if_neg (by simp [hm]))
  · exact foldl_keeps State.fresh _ (fun _ _ => rfl) (upFrom 8 0) s.drawn

section
variable {m : Fin 10} (hm : s.revoked m = false) {v : Word}
include hm

theorem exec_cairnExtend : exec (.cairnExtend m v) s = .next ((s.extCmd v).1.answer (s.extCmd v).2 []) :=
  congrArg Host.Outcome.next (if_neg (by simp [hm]))

theorem cairnExtend_takes (hext : s.tru.ext = none) (hc : 12 ≤ v.toNat % 16) :
    ∃ t x, exec (.cairnExtend m v) s = .next t ∧ t.tru.ext = some (v.toNat % 16, x) ∧ t.tru.cairns = s.tru.cairns
      ∧ t.resp.status = stOk := by
  have hfld : fld v 0 4 = v.toNat % 16 := rfl
  have hno : ¬ (s.tru.ext.isSome ∨ fld v 0 4 < 12) := by simp [hext, hfld, hc]
  rw [exec_cairnExtend hm, extCmd, if_neg hno]
  exact ⟨_, _, rfl, rfl, rfl, rfl⟩

theorem cairnExtend_ignored (h : s.tru.ext ≠ none ∨ v.toNat % 16 < 12) :
    exec (.cairnExtend m v) s = .next (s.answer stIgnored []) := by
  have hno : s.tru.ext.isSome ∨ fld v 0 4 < 12 := h.imp_left Option.isSome_iff_ne_none.2
  rw [exec_cairnExtend hm, extCmd, if_pos hno]

end

theorem extendComplete_hashes {c : Nat} {x : BitVec 512} (h : s.tru.ext = some (c, x)) :
    ∃ t, exec .extendComplete s = .next t ∧ t.tru.ext = none ∧ (∀ d, d ≠ c → t.cairn d = s.cairn d)
      ∧ t.cairn c = Config.sha3_512 (bytesOfNat 64 (s.cairn c).toNat ++ bytesOfNat 64 x.toNat) := by
  refine ⟨{ s.extend c (bytesOfNat 64 x.toNat) with tru := { (s.extend c (bytesOfNat 64 x.toNat)).tru with ext := none } }, ?_, rfl,
    fun d hd => look_put_ne _ _ _ _ d _ hd, look_put _ _ _ _⟩
  show execExtendComplete s = _
  unfold execExtendComplete
  rw [h]

theorem exec_extendComplete_none (h : s.tru.ext = none) : exec .extendComplete s = .next s := by
  show execExtendComplete s = _
  unfold execExtendComplete
  rw [h]

theorem antiRollback_advances {e : BurnEnv} (hp : s.tru.advPend = true) (hm : s.md.mode = .idle ∨ s.md.mode = .run)
    (hv : e.vlBad = false) (he : e.fails = []) :
    ∃ t, exec (.antiRollbackAdvance e) s = .next t ∧ t.tru.advPend = false ∧ t.md = s.md :=
  ⟨s.advance e, congrArg Host.Outcome.next (if_pos ⟨hp, hm⟩), advance_ends s hv he⟩

theorem exec_antiRollbackAdvance_none (h : s.tru.advPend = false ∨ (s.md.mode ≠ .idle ∧ s.md.mode ≠ .run)) (e : BurnEnv) :
    exec (.antiRollbackAdvance e) s = .next s := by
  refine congrArg Host.Outcome.next (if_neg ?_)
  rintro ⟨hp, hm⟩
  rcases h with h | ⟨hidle, hrun⟩
  · simp [h] at hp
  · exact hm.elim hidle hrun

theorem authorisationExpire_ends (h : s.tru.auth ≠ none) : ∃ t, exec .authorisationExpire s = .next t ∧ t.tru.auth = none
    ∧ (s.md.mode = .service → t.md.mode = .reset ∧ t.md.cause = 3) := by
  obtain ⟨a, ha⟩ := Option.ne_none_iff_exists'.1 h
  have hrun : exec .authorisationExpire s = .next (s.advanceTo a.expires).authEnd := by
    show execAuthorisationExpire s = _
    unfold execAuthorisationExpire
    rw [ha]
  have htru : (s.advanceTo a.expires).tru = s.tru := keeps_of_finer (advanceTo_besides s a.expires) (g := State.tru) fun _ => rfl
  have hmd : (s.advanceTo a.expires).md = s.md := keeps_of_finer (advanceTo_besides s a.expires) (g := State.md) fun _ => rfl
  exact ⟨_, hrun, authEnd_auth _, fun hm => authEnd_service (by rwa [htru]) (by rwa [hmd])⟩

theorem exec_authorisationExpire_none (h : s.tru.auth = none) : exec .authorisationExpire s = .next s := by
  show execAuthorisationExpire s = _
  unfold execAuthorisationExpire
  rw [h]

end

/-- Settles O54: a JOBCMD by its refusal, the end of a job by its operation, and the other commands of the engine each by what they
find pending. -/
theorem trustJobs : Obligations.TrustJobs := by
  unfold Obligations.TrustJobs
  intro s
  refine ⟨?_, ?_, fun t entry hm hb hpop hfull hen hgov hg => quoteQueueRequest_answers hm hb hpop hfull hen hgov hg,
    exec_quoteQueueRequest_none, fun m hm => ⟨challenge_draws hm, fun v => ⟨cairnExtend_takes hm, cairnExtend_ignored hm⟩⟩,
    fun c x h => extendComplete_hashes h, exec_extendComplete_none,
    fun e => ⟨antiRollback_advances, fun h => exec_antiRollbackAdvance_none h e⟩, authorisationExpire_ends,
    exec_authorisationExpire_none⟩
  · intro m key hm asks
    exact ⟨truCmd_asks hm rfl, truCmd_asks hm rfl, fun g => truCmd_asks hm rfl, truCmd_asks hm rfl, truCmd_asks hm rfl,
      fun k => truCmd_asks hm rfl, fun k => truCmd_asks hm rfl, fun k => truCmd_asks hm rfl, truCmd_asks hm rfl⟩
  · intro e nv
    refine ⟨fun h => exec_truJobEnd_none h e nv, fun j hj hl => truJobEnd_lost hj hl e nv,
      fun j hj hl hs hg => truJobEnd_denied hj hl hs hg e nv, fun j hj hl hrun => ?_⟩
    have hrun := exec_truJobEnd_runs hj hl hrun e nv
    refine ⟨fun hop => ⟨_, hrun, truJobEnd_quote hl e nv hop⟩, fun hop => ⟨_, hrun, ?_⟩, fun hop => ⟨_, hrun, ?_⟩,
      fun hop hs => ⟨_, hrun, truJobEnd_nvwipe hl e nv hop hs⟩, fun hop => ⟨_, hrun, ?_⟩, fun hop hm => ⟨_, hrun, ?_⟩,
      fun hop hm hc => ⟨_, hrun, ?_⟩, fun hop hm ht => ⟨fun hA => ⟨_, hrun, ?_⟩, fun hA hB => ⟨_, hrun, ?_⟩⟩⟩
    · rw [truJobEnd_auth hl e nv hop]
      exact State.runAuth_ends s
    · rw [truJobEnd_lcadv hl e nv hop]
      exact State.runLcadv_resets s j.arg e j.stopped
    · rw [truJobEnd_deauth hl e nv hop]
      exact deauth_ends s
    · rw [truJobEnd_upbegin hl e nv hop hm]
      exact runUpbegin_opens s j.arg
    · rw [truJobEnd_updata hl e nv hop hm, State.runUpdata_closed hc]
      obtain ⟨hjob, hcode, -⟩ := truEnd_refused s 0x30
      exact ⟨hjob, hcode⟩
    · rw [truJobEnd_confirm hl e nv hop, State.runConfirm_ccvA hm ht hA]
      exact truEnd_refused s 0x41
    · rw [truJobEnd_confirm hl e nv hop, State.runConfirm_ccvB hm ht hA hB]
      exact truEnd_refused s 0x42

end Sys2Proof.Machine
end

section
/-! SUPPORT. The host port's transactions and the jobs of the HST block (21 R523-R532, 18 R474). -/
namespace Sys2Proof.Machine
namespace State

/-! ### A field written (00) -/

theorem fld_putFld {n lo len : Nat} (h : lo + len ≤ n) (w : BitVec n) (v : Nat) : fld (putFld w lo len v) lo len = v % 2 ^ len := by
  refine Nat.eq_of_testBit_eq fun i => ?_
  rw [fld, Nat.testBit_mod_two_pow, Nat.testBit_mod_two_pow, Nat.testBit_shiftRight]
  by_cases hi : i < len
  · have hbit := getLsbD_putFld w lo len v (lo + i)
    rw [BitVec.getLsbD] at hbit
    rw [hbit]
    simp [hi, show lo + i < n by omega]
  · simp [hi]

/-! ### Frames that a command sends (21 R546) -/

/-- The state in which a command begins that may send frames. -/
def unsent (s : State) : State := { s with lnk := { s.lnk with sent := [] } }

theorem sending_frames {s : State} {f : State → State} (h : (f s.unsent).lnk.sent ≠ []) : s.sending f = f s.unsent :=
  if_neg (mt List.isEmpty_iff.1 h)

theorem sending_quiet {s : State} {f : State → State} (h : (f s.unsent).lnk.sent = []) :
    s.sending f = { f s.unsent with lnk := { (f s.unsent).lnk with sent := s.lnk.sent } } :=
  if_pos (List.isEmpty_iff.2 h)

/-- Beside the frames sent a command's effect is its own. -/
theorem sending_only (s : State) (f : State → State) : ∃ l, s.sending f = { f s.unsent with lnk := l } := by
  by_cases h : (f s.unsent).lnk.sent = []
  · exact ⟨_, sending_quiet h⟩
  · exact ⟨(f s.unsent).lnk, sending_frames h⟩

theorem setLnk_self (u : State) (l : LnkSt) : ({ { u with lnk := l } with lnk := u.lnk } : State) = u := rfl

theorem setLnk_reg (u : State) (l : LnkSt) (a : Nat) : ({ u with lnk := l } : State).reg a = u.reg a := rfl

theorem setLnk_host (u : State) (l : LnkSt) : ({ u with lnk := l } : State).host = u.host := rfl

/-- A request of a master to another device is one frame that ends with its response. -/
theorem remoteAlso_sends {s : State} (h : s.lnk.sent = []) (d core : Nat) (a : Word) (data : List Byte) (isLoad : Bool) :
    ∃ f, (s.remoteAlso d core a data isLoad).lnk.sent = [f] ∧ f.type = 3 ∧ f.dest = d
      ∧ (s.remoteAlso d core a data isLoad).lnk.remote
        = s.lnk.remote ++ [{ dest := d, tag := s.lnk.nextTag, core := core, addr := a, isLoad := isLoad }] := by
  refine ⟨s.frameTo 3 d s.lnk.nextTag (bytesOfNat 4 (a.toNat % 2 ^ 28 + 2 ^ 28 * data.length) ++ data), ?_, rfl, rfl, rfl⟩
  show s.lnk.sent ++ [_] = [_]
  rw [h]
  rfl

/-! ### The words of a WRITE (21 R525, R527) -/

section
variable {s : State} {a v : Word}

theorem hostWords_dead (h : s.hostLive = false) : ∀ (ws : List (Word × Bool)) (a : Word), hostWords a ws s = s
  | [], _ => rfl
  | (v, full) :: ws, a => by
    have hword : s.hostWord a v full = s := if_pos (by simp [h])
    rw [hostWords, hword]
    exact hostWords_dead h ws (a + 4)

theorem hostWords_one (h : s.hostLive = true) (full : Bool) : hostWords a [(v, full)] s
    = if full || decide (64 ≤ s.host.wbuf.length) then s.setBits hstB (flag 0 true)
      else if !s.host.wbuf.isEmpty then s.hostKeep a v
      else (s.hostIssue a v).getD (s.hostKeep a v) := by
  rw [hostWords, hostWords, hostWord]
  exact if_neg (by simp [h])

theorem hostWords_first (h : s.hostLive = true) (hw : s.host.wbuf = []) :
    hostWords a [(v, false)] s = (s.hostIssue a v).getD (s.hostKeep a v) := by
  rw [hostWords_one h false, if_neg (by simp [hw]), if_neg (by simp [hw])]

section
variable (hr : s.revoked 5 = false)
include hr

theorem hostIssue_local (ha : s.asksRemote 5 a = false) :
    s.hostIssue a v = some ((s.busWrite 5 a.toNat 4 v).1.hostFail (s.busWrite 5 a.toNat 4 v).2 a) := by
  rw [hostIssue, if_neg (by simp [hr]), if_neg (by simp [ha])]

theorem hostIssue_remote (ha : s.asksRemote 5 a = true) : s.hostIssue a v
    = if s.remoteOpen 5 a then some (s.remoteAlso (remoteDev a) 5 a (bytesOfWord v) false) else none := by
  rw [hostIssue, if_neg (by simp [hr]), if_pos ha]

end

theorem hostFail_ok (s : State) (a : Word) : s.hostFail stOk a = s := if_pos (.inl rfl)

/-- The first write that is not OK leaves its status and its address. -/
theorem hostFail_notes {st : Nat} (h : st ≠ stOk) (hfree : fld (s.reg hstB) 2 2 = 0) (a : Word) :
    fld ((s.hostFail st a).reg hstB) 2 2 = st % 4 ∧ (s.hostFail st a).reg (hstB + 0x10) = a := by
  rw [hostFail, if_neg (by simp [h, hfree])]
  refine ⟨?_, reg_setReg _ _ _⟩
  rw [reg_setReg_ne _ _ _ _ (by decide), reg_setReg, fld_putFld (by decide)]
  rfl

end

/-! ### The words of a READ (21 R526) -/

theorem hostFetch_local : ∀ (k : Nat) (f : HostFetch) (s : State),
    (∀ i, i < k → regionOf (f.addr + BitVec.ofNat 32 (4 * i)).toNat ≠ .remote) →
    ∃ ws worst first, (hostFetch k f s).host.read = some (ws, worst, first) ∧ ws.length = f.words.length + k
  | 0, f, s, _ => ⟨f.words, f.worst, f.first, rfl, rfl⟩
  | k + 1, f, s, h => by
    have hhere : s.asksRemote 5 f.addr = false := by
      have h0 := h 0 (Nat.succ_pos k)
      rw [Nat.mul_zero, BitVec.add_zero] at h0
      rw [asksRemote, decide_eq_false h0, Bool.false_and]
    rw [hostFetch, if_neg (by simp [hhere])]
    obtain ⟨ws, worst, first, hread, hlen⟩ := hostFetch_local k
      (fetchAdd f (s.busRead 5 f.addr.toNat 4).2.1 (s.busRead 5 f.addr.toNat 4).2.2) (s.busRead 5 f.addr.toNat 4).1 fun i hi => by
        have hnext : f.addr + 4 + BitVec.ofNat 32 (4 * i) = f.addr + BitVec.ofNat 32 (4 * (i + 1)) := by
          rw [Nat.mul_succ, BitVec.ofNat_add, BitVec.add_assoc, BitVec.add_comm (BitVec.ofNat 32 (4 * i)) (BitVec.ofNat 32 4)]
          rfl
        show regionOf (f.addr + 4 + BitVec.ofNat 32 (4 * i)).toNat ≠ .remote
        rw [hnext]
        exact h (i + 1) (Nat.succ_lt_succ hi)
    refine ⟨ws, worst, first, hread, ?_⟩
    rw [hlen, fetchAdd, List.length_append, List.length_singleton]
    omega

/-- A word of another device is asked for, or waits for a place. -/
theorem hostFetch_remote {s : State} {f : HostFetch} (h : s.asksRemote 5 f.addr = true) (k : Nat) :
    ∃ t, hostFetch (k + 1) f s = t ∧ t.host.read = s.host.read
      ∧ t.host.fetch = some { f with tag := if s.remoteOpen 5 f.addr then some s.lnk.nextTag else f.tag } := by
  rw [hostFetch, if_pos h]
  cases s.remoteOpen 5 f.addr with
  | true => exact ⟨_, rfl, rfl, rfl⟩
  | false => exact ⟨_, rfl, rfl, rfl⟩

/-- The status byte shows the worst status in its low bits. -/
theorem statusByte_low (worst first : Nat) : (at_ 0 2 worst ||| at_ 2 6 first).toNat % 4 = worst % 4 := by
  rw [show 4 = 2 ^ 2 from rfl]
  refine Nat.eq_of_testBit_eq fun i => ?_
  rw [Nat.testBit_mod_two_pow, Nat.testBit_mod_two_pow]
  by_cases hi : i < 2
  · simp only [BitVec.toNat_or, Nat.testBit_or, testBit_at_ _ _ _ _ (show i < 32 by omega), hi]
    simp [hi, show ¬ 2 ≤ i by omega]
  · simp [hi]

/-- A protocol error sets its flag and drives F179. -/
theorem hostProtErr_sets (s : State) : s.hostProtErr.host = s.host ∧ (s.hostProtErr.reg hstB).getLsbD 1 = true
    ∧ (s.hostProtErr.src 179).rail ≠ .ok := by
  refine ⟨drive_keeps State.host _ 179 0, ?_, drive_rail _ 179 0 rfl⟩
  rw [hostProtErr, drive_keeps (fun t => t.reg hstB) _ 179 0]
  exact setBits_sets _ _ rfl

/-! ### The end of an HST job (21 R530) -/

section
variable (s : State) (ok : Bool) (result : Nat)

theorem hstEnd_stat : ((s.hstEnd ok result).reg hjStat).toNat % 16 = (if ok then 3 else 4)
    ∧ ((s.hstEnd ok result).reg hjStat).toNat / 65536 = result % 65536 := by
  have hstat : (s.hstEnd ok result).reg hjStat = (s.jobStat hjStat ok result).reg hjStat := reg_setReg_ne _ _ _ _ (by decide)
  rw [hstat]
  exact ⟨jobStat_state s hjStat ok result, jobStat_result s hjStat ok result⟩

end

/-! ### JOBCMD (21 R530, R532) -/

theorem hstCmd_ignored {s : State} {m op : Nat} (ho : op ≠ 0xF) {key : BitVec 8} (h : key ≠ 0x5A ∨ s.host.job ≠ none) :
    s.hstCmd m op key.toNat = (s, stIgnored) := by
  unfold hstCmd
  by_cases hk : key = 0x5A
  · rw [if_neg (by rw [hk]; decide), if_neg ho]
    exact if_pos (Option.isSome_iff_ne_none.2 (h.resolve_left (not_not.2 hk)))
  · exact if_pos fun hn => hk (BitVec.eq_of_toNat_eq hn)

theorem hstCmd_starts {s : State} {m op : Nat} (ho : op ≠ 0xF) (hj : s.host.job = none) : s.hstCmd m op (0x5A : BitVec 8).toNat
    = (s.hstStart m op (if op = 1 then s.md.mode == .service else s.searchModes), stOk) := by
  unfold hstCmd
  rw [if_neg (by decide), if_neg ho, if_neg (by simp [hj])]

/-! ### The start of a job (21 R530, R532) -/

/-- A job of master m whose operation begins. -/
def hstJob (s : State) (m op : Nat) : State :=
  { ((s.setReg hjStat 1).setReg hjPart 0).setReg hjOwn (w32 m) with
    host := { s.host with job := some { op := op }, posted := 0 } }

theorem hstJob_own (s : State) (m op : Nat) : (s.hstJob m op).reg hjOwn = w32 m := reg_setReg _ _ _

theorem hstStart_refused (s : State) (m : Nat) : s.hstStart m 1 false = (s.hstJob m 1).hstEnd false 1 := rfl

theorem hstStart_full (s : State) (m : Nat) : s.hstStart m 1 true = { (s.hstJob m 1).holdAll.abortSlice with
    bst := { (s.hstJob m 1).abortSlice.bst with fullRun := true } } := rfl

theorem hstStart_search (s : State) (m : Nat) : s.hstStart m 2 true = (s.hstJob m 2).search := rfl

theorem abortSlice_keeps (s : State) : s.abortSlice.host = s.host ∧ (∀ p, s.abortSlice.cpu p = s.cpu p)
    ∧ s.abortSlice.reg hjOwn = s.reg hjOwn := by
  unfold abortSlice
  split
  · exact ⟨rfl, fun _ => rfl, rfl⟩
  · exact ⟨rfl, fun p => by cases p <;> rfl, reg_setReg_ne _ _ _ _ (by decide)⟩

theorem holdAll_run (s : State) (p : Proc) : (s.holdAll.cpu p).run = .held := by
  cases p with
  | safety => rfl
  | ac k => fin_cases k <;> rfl

/-! ### RECSEARCH (21 R532) -/

theorem setWords_reg {a : Nat} : ∀ (ws : List Word) (x : State × Nat), a < x.2 →
    ((ws.foldl (fun (x : State × Nat) w => (x.1.setReg x.2 w, x.2 + 4)) x).1).reg a = x.1.reg a
  | [], _, _ => rfl
  | w :: ws, x, h => (setWords_reg ws _ (Nat.lt_add_right 4 h)).trans (reg_setReg_ne x.1 x.2 a w h.ne)

theorem hstPost_own (s : State) (c : Nat) (bs : List Byte) : (s.hstPost c bs).reg hjOwn = s.reg hjOwn := by
  have hwords := setWords_reg (a := hjOwn) (wordsOf (bs.length / 4) bs) (s, hstB + 0x2000 + (s.host.posted % c) * bs.length)
    (by simp only [hjOwn]; omega)
  refine (reg_setReg_ne _ _ _ _ (by decide)).trans ((reg_setReg_ne _ _ _ _ (by decide)).trans ?_)
  exact hwords

theorem setWords_host : ∀ (ws : List Word) (x : State × Nat),
    ((ws.foldl (fun (x : State × Nat) w => (x.1.setReg x.2 w, x.2 + 4)) x).1).host = x.1.host
  | [], _ => rfl
  | _ :: ws, _ => setWords_host ws _

theorem hstPost_job (s : State) (c : Nat) (bs : List Byte) : (s.hstPost c bs).host.job = s.host.job := by
  have hwords := setWords_host (wordsOf (bs.length / 4) bs) (s, hstB + 0x2000 + (s.host.posted % c) * bs.length)
  show (List.foldl _ (s, _) _).1.host.job = _
  rw [hwords]

/-- A search stays a search, for its owner. -/
theorem searchOn_keeps : ∀ (l : List Nat) (s : State), (∃ j, s.host.job = some j ∧ j.op = 2) →
    (∃ j, (searchOn l s).host.job = some j ∧ j.op = 2) ∧ (searchOn l s).reg hjOwn = s.reg hjOwn
  | [], s, ⟨j, hj, hop⟩ => by
    refine ⟨⟨{ j with pos := recCount }, ?_, hop⟩, rfl⟩
    show s.host.job.map _ = _
    rw [hj]
    rfl
  | i :: l, s, ⟨j, hj, hop⟩ => by
    unfold searchOn
    rw [hj]
    dsimp only
    split
    · exact searchOn_keeps l s ⟨j, hj, hop⟩
    split
    · exact searchOn_keeps l s ⟨j, hj, hop⟩
    split
    · exact ⟨⟨_, rfl, hop⟩, rfl⟩
    · have hfound := hstPost_job { s with host := { s.host with job := some { j with pos := s.recAge i + 1, found := j.found + 1 } } }
        128 (s.bytes (recRing + 64 * i) 64)
      obtain ⟨hjob, hown⟩ := searchOn_keeps l _ ⟨_, hfound, hop⟩
      exact ⟨hjob, hown.trans (hstPost_own _ _ _)⟩

theorem search_keeps {s : State} (h : ∃ j, s.host.job = some j ∧ j.op = 2) :
    (∃ j, s.search.host.job = some j ∧ j.op = 2) ∧ s.search.reg hjOwn = s.reg hjOwn := by
  obtain ⟨j, hj, hop⟩ := id h
  have hrun : s.search = searchOn s.recOrder s := by
    unfold search
    rw [hj]
    exact if_pos hop
  rw [hrun]
  exact searchOn_keeps s.recOrder s h

theorem search_idle {s : State} (h : ∀ j, s.host.job = some j → j.op ≠ 2) : s.search = s := by
  unfold search
  split
  next hj => exact if_neg (h _ hj)
  next => rfl

/-! ### The end of the full run (18 R474) -/

theorem firstIdx_none {p : Nat → Bool} (h : ∀ i, p i = false) : ∀ k i, firstIdx p k i = none
  | 0, _ => rfl
  | k + 1, i => by rw [firstIdx, h i, if_neg Bool.false_ne_true, firstIdx_none h k (i + 1)]

theorem firstIdx_some {p : Nat → Bool} {n : Nat} (hn : p n = true) : ∀ k i, i ≤ n → n < i + k → (∀ j, i ≤ j → j < n → p j = false) →
    firstIdx p k i = some n
  | 0, i, hle, hlt, _ => absurd hlt (by omega)
  | k + 1, i, hle, hlt, hbefore => by
    rcases hle.eq_or_lt with rfl | hne
    · rw [firstIdx, if_pos hn]
    · rw [firstIdx, hbefore i le_rfl hne, if_neg Bool.false_ne_true]
      exact firstIdx_some hn k (i + 1) hne (by omega) fun j hj => hbefore j (by omega)

/-- The result of a full run: the number of its first failed step. -/
def fullCode (failed : BitVec 12) : Nat := match firstIdx (fun i => bit failed i) 12 0 with | some i => i + 1 | none => 0

theorem fullCode_first {f : BitVec 12} {i : Fin 12} (hi : f.getLsbD i = true) (hbefore : ∀ k : Fin 12, k < i → f.getLsbD k = false) :
    fullCode f = i + 1 := by
  have hfirst : firstIdx (fun i => bit f i) 12 0 = some i.val :=
    firstIdx_some hi 12 0 (Nat.zero_le _) (by omega) fun j _ hj => hbefore ⟨j, by omega⟩ hj
  rw [fullCode, hfirst]

/-- Working memory is at zero and the job ends with its first failed step. -/
theorem fullEnd_ends (s : State) (f : BitVec 12) : (∀ a, a < 0x10000000 → (s.fullEnd f).byte a = 0)
    ∧ ∃ t : State, s.fullEnd f = t.hstEnd (fullCode f == 0) (fullCode f) := by
  refine ⟨fun a ha => ?_, _, rfl⟩
  have hmem : ∃ c, (s.fullEnd f).mem.cells = wipeCells 0 0x10000000 c := by
    unfold fullEnd
    extract_lets t out chA mem u code
    exact ⟨t.mem.cells, congrArg MemSt.cells (allDone_mem u)⟩
  obtain ⟨c, hc⟩ := hmem
  rw [byte, hc]
  exact look_filter_none 0 (fun a => decide (a < 0) || decide (0x10000000 ≤ a)) c (by simp [ha])

end State

end Sys2Proof.Machine
end

section
/-! SUPPORT. The commands of the host port and of the HST block (21 R523-R532, 18 R474). -/
namespace Sys2Proof.Machine

section
open State
variable {s : State}

/-! ### The host port (21 R525-R528) -/

theorem exec_hostWrite (a : Word) (ws : List (Word × Bool)) :
    exec (.hostWrite a ws) s = .next (s.hostBegin.sending (hostWords a ws)) := rfl

/-- The port is silent: a transaction does nothing but begin. -/
theorem host_silent (h : s.hostLive = false) :
    (∀ a ws, exec (.hostWrite a ws) s = .next s.hostBegin) ∧ (∀ a c, exec (.hostRead a c) s = .next s.hostBegin)
    ∧ exec .hostStatus s = .next s.hostBegin ∧ exec .hostProtocolError s = .next s.hostBegin := by
  have hdead : ¬ s.hostBegin.hostLive = true := Bool.eq_false_iff.1 h
  refine ⟨fun a ws => ?_, fun a c => congrArg Host.Outcome.next (if_pos ?_), congrArg Host.Outcome.next (if_neg hdead),
    congrArg Host.Outcome.next (if_neg hdead)⟩
  · have hwords : hostWords a ws s.hostBegin.unsent = s.hostBegin.unsent := hostWords_dead (s := s.hostBegin.unsent) h ws a
    rw [exec_hostWrite, sending_quiet (by rw [hwords]; rfl), hwords]
    rfl
  · rw [Bool.not_eq_true', Bool.eq_false_iff]
    exact hdead

section
variable (h : s.hostLive = true)
include h

theorem hostWrite_dropped (a v : Word) : exec (.hostWrite a [(v, true)]) s = .next (s.hostBegin.setBits hstB 1) := by
  have hword : hostWords a [(v, true)] s.hostBegin.unsent = s.hostBegin.unsent.setBits hstB 1 :=
    (hostWords_one (s := s.hostBegin.unsent) h true).trans (if_pos rfl)
  rw [exec_hostWrite, sending_quiet (by rw [hword]; rfl), hword]
  rfl

section
variable {a v : Word} (hr : s.revoked 5 = false) (hw : s.host.wbuf = [])
include hr hw

/-- A write that has its effect at once. -/
theorem hostWrite_local (ha : s.asksRemote 5 a = false) : ∃ l, exec (.hostWrite a [(v, false)]) s
    = .next { (s.hostBegin.unsent.busWrite 5 a.toNat 4 v).1.hostFail (s.hostBegin.unsent.busWrite 5 a.toNat 4 v).2 a with
        lnk := l } := by
  obtain ⟨l, hl⟩ := sending_only s.hostBegin (hostWords a [(v, false)])
  refine ⟨l, ?_⟩
  rw [exec_hostWrite, hl, hostWords_first (s := s.hostBegin.unsent) h hw, hostIssue_local (s := s.hostBegin.unsent) hr ha]
  rfl

theorem hostWrite_ok (ha : s.asksRemote 5 a = false) (hok : (s.hostBegin.unsent.busWrite 5 a.toNat 4 v).2 = stOk) :
    ∃ t, exec (.hostWrite a [(v, false)]) s = .next t
      ∧ { t with lnk := (s.hostBegin.unsent.busWrite 5 a.toNat 4 v).1.lnk } = (s.hostBegin.unsent.busWrite 5 a.toNat 4 v).1 := by
  obtain ⟨l, hl⟩ := hostWrite_local h (v := v) hr hw ha
  rw [hok, hostFail_ok] at hl
  exact ⟨_, hl, setLnk_self _ l⟩

theorem hostWrite_fails (ha : s.asksRemote 5 a = false) (hbad : (s.hostBegin.unsent.busWrite 5 a.toNat 4 v).2 ≠ stOk)
    (hfree : ((s.hostBegin.unsent.busWrite 5 a.toNat 4 v).1.reg hstB).extractLsb' 2 2 = 0) :
    ∃ t, exec (.hostWrite a [(v, false)]) s = .next t
      ∧ (t.reg hstB).toNat / 4 % 4 = (s.hostBegin.unsent.busWrite 5 a.toNat 4 v).2 % 4 ∧ t.reg (hstB + 0x10) = a := by
  obtain ⟨l, hl⟩ := hostWrite_local h (v := v) hr hw ha
  obtain ⟨hst, haddr⟩ := hostFail_notes hbad (congrArg BitVec.toNat hfree) a
  refine ⟨_, hl, ?_, (setLnk_reg _ l _).trans haddr⟩
  rw [setLnk_reg, ← hst, fld, Nat.shiftRight_eq_div_pow]
  rfl

theorem hostWrite_leaves (ha : s.asksRemote 5 a = true) (ho : s.remoteOpen 5 a = true) :
    ∃ t f, exec (.hostWrite a [(v, false)]) s = .next t ∧ t.lnk.sent = [f] ∧ f.type = 3 ∧ f.dest = remoteDev a
      ∧ t.lnk.remote = s.lnk.remote ++ [{ dest := remoteDev a, tag := s.lnk.nextTag, core := 5, addr := a, isLoad := false }] := by
  obtain ⟨f, hsent, htype, hdest, hremote⟩ := remoteAlso_sends (s := s.hostBegin.unsent) rfl (remoteDev a) 5 a (bytesOfWord v) false
  have hwords : hostWords a [(v, false)] s.hostBegin.unsent
      = s.hostBegin.unsent.remoteAlso (remoteDev a) 5 a (bytesOfWord v) false := by
    rw [hostWords_first (s := s.hostBegin.unsent) h hw, hostIssue_remote (s := s.hostBegin.unsent) hr ha,
      if_pos (show s.hostBegin.unsent.remoteOpen 5 a = true from ho)]
    rfl
  refine ⟨_, f, (exec_hostWrite a _).trans (congrArg Host.Outcome.next (sending_frames ?_)), ?_⟩
  · rw [hwords, hsent]
    exact List.cons_ne_nil f []
  · rw [hwords]
    exact ⟨hsent, htype, hdest, hremote⟩

theorem hostWrite_waits (ha : s.asksRemote 5 a = true) (ho : s.remoteOpen 5 a = false) :
    ∃ t, exec (.hostWrite a [(v, false)]) s = .next t ∧ t.host.wbuf = [(a, v)] ∧ t.lnk = s.lnk := by
  have hwords : hostWords a [(v, false)] s.hostBegin.unsent = s.hostBegin.unsent.hostKeep a v := by
    rw [hostWords_first (s := s.hostBegin.unsent) h hw, hostIssue_remote (s := s.hostBegin.unsent) hr ha,
      if_neg (show ¬ s.hostBegin.unsent.remoteOpen 5 a = true from Bool.eq_false_iff.1 ho)]
    rfl
  refine ⟨_, (exec_hostWrite a _).trans (congrArg Host.Outcome.next (sending_quiet ?_)), ?_, ?_⟩
  · rw [hwords]
    rfl
  · rw [hwords]
    exact congrArg (· ++ [(a, v)]) hw
  · rw [hwords]
    rfl

end

/-! ### A READ (21 R526) -/

theorem exec_hostRead {c : BitVec 8} (h1 : 1 ≤ c.toNat) (h64 : c.toNat ≤ 64) (a : Word) : exec (.hostRead a c) s
    = .next (s.hostBegin.sending (hostFetch c.toNat { addr := a, left := c.toNat })) := by
  have hno : ¬ (c = 0 ∨ 64 < c.toNat) := by
    rintro (rfl | hc)
    · exact absurd h1 (by decide)
    · omega
  refine congrArg Host.Outcome.next ((if_neg ?_).trans (if_neg hno))
  rw [show s.hostBegin.hostLive = true from h]
  exact Bool.false_ne_true

theorem hostRead_fetches {c : BitVec 8} (h1 : 1 ≤ c.toNat) (h64 : c.toNat ≤ 64) {a : Word}
    (hloc : ∀ i, i < c.toNat → regionOf (a + BitVec.ofNat 32 (4 * i)).toNat ≠ .remote) :
    ∃ t ws worst first, exec (.hostRead a c) s = .next t ∧ t.host.read = some (ws, worst, first) ∧ ws.length = c.toNat := by
  obtain ⟨ws, worst, first, hread, hlen⟩ := hostFetch_local c.toNat { addr := a, left := c.toNat } s.hostBegin.unsent hloc
  obtain ⟨l, hl⟩ := sending_only s.hostBegin (hostFetch c.toNat { addr := a, left := c.toNat })
  refine ⟨_, ws, worst, first, (exec_hostRead h h1 h64 a).trans (congrArg Host.Outcome.next hl), ?_, hlen.trans (Nat.zero_add _)⟩
  rw [setLnk_host, hread]

theorem hostRead_asks {c : BitVec 8} (h1 : 1 ≤ c.toNat) (h64 : c.toNat ≤ 64) {a : Word} (ha : s.asksRemote 5 a = true) :
    ∃ t f, exec (.hostRead a c) s = .next t ∧ t.host.read = none ∧ t.host.fetch = some f ∧ f.addr = a ∧ f.left = c.toNat
      ∧ f.tag = (if s.remoteOpen 5 a then some s.lnk.nextTag else none) := by
  obtain ⟨k, hk⟩ := Nat.exists_eq_add_of_le' h1
  obtain ⟨u, hu, hread, hfetch⟩ := hostFetch_remote (s := s.hostBegin.unsent) (f := { addr := a, left := c.toNat }) ha k
  obtain ⟨l, hl⟩ := sending_only s.hostBegin (hostFetch c.toNat { addr := a, left := c.toNat })
  rw [← hk] at hu
  rw [hu] at hl
  exact ⟨_, _, (exec_hostRead h h1 h64 a).trans (congrArg Host.Outcome.next hl), (congrArg HostSt.read (setLnk_host u l)).trans hread,
    (congrArg HostSt.fetch (setLnk_host u l)).trans hfetch, rfl, rfl, rfl⟩

theorem hostRead_badCount {c : BitVec 8} (hc : c = 0 ∨ 64 < c.toNat) (a : Word) :
    ∃ t, exec (.hostRead a c) s = .next t ∧ t.host.read = none ∧ (t.reg hstB).getLsbD 1 = true ∧ (t.src 179).rail ≠ .ok := by
  obtain ⟨hhost, hbit, hsrc⟩ := hostProtErr_sets s.hostBegin
  refine ⟨_, congrArg Host.Outcome.next ((if_neg ?_).trans (if_pos hc)), (congrArg HostSt.read hhost).trans rfl, hbit, hsrc⟩
  rw [show s.hostBegin.hostLive = true from h]
  exact Bool.false_ne_true

theorem hostProtocolError_sets :
    ∃ t, exec .hostProtocolError s = .next t ∧ (t.reg hstB).getLsbD 1 = true ∧ (t.src 179).rail ≠ .ok :=
  ⟨_, congrArg Host.Outcome.next (if_pos (show s.hostBegin.hostLive = true from h)), (hostProtErr_sets s.hostBegin).2⟩

end

theorem hostReadStartByte_sends {ws : List Word} {worst first : Nat} (h : s.host.read = some (ws, worst, first)) :
    ∃ t w, exec .hostReadStartByte s = .next t ∧ t.host.read = none ∧ t.resp.data = w :: ws ∧ t.resp.status = worst
      ∧ w.toNat % 4 = worst % 4 := by
  refine ⟨s.hostBegin.answer worst ((at_ 0 2 worst ||| at_ 2 6 first) :: ws), _, ?_, rfl, rfl, rfl, statusByte_low worst first⟩
  show execHostReadStartByte s = _
  unfold execHostReadStartByte
  rw [h]

theorem exec_hostReadStartByte_none (h : s.host.read = none) : exec .hostReadStartByte s = .next s := by
  show execHostReadStartByte s = _
  unfold execHostReadStartByte
  rw [h]

/-! ### The jobs of the HST block (21 R530-R532) -/

section
variable {m : Fin 10} (hm : s.revoked m = false) {key : BitVec 8}
include hm

theorem exec_hstFulltest : exec (.hstFulltest m key) s = .next ((s.hstCmd m 1 key.toNat).1.answer (s.hstCmd m 1 key.toNat).2 []) :=
  congrArg Host.Outcome.next (if_neg (by simp [hm]))

theorem exec_hstRecsearch : exec (.hstRecsearch m key) s = .next ((s.hstCmd m 2 key.toNat).1.answer (s.hstCmd m 2 key.toNat).2 []) :=
  congrArg Host.Outcome.next (if_neg (by simp [hm]))

theorem exec_hstAbort : exec (.hstAbort m key) s = .next ((s.hstCmd m 0xF key.toNat).1.answer (s.hstCmd m 0xF key.toNat).2 []) :=
  congrArg Host.Outcome.next (if_neg (by simp [hm]))

theorem exec_joback (v : Word) : exec (.joback m v) s = .next ((s.hstAck m v).1.answer (s.hstAck m v).2 []) :=
  congrArg Host.Outcome.next (if_neg (by simp [hm]))

theorem hst_starts_ignored (h : key ≠ 0x5A ∨ s.host.job ≠ none) : exec (.hstFulltest m key) s = .next (s.answer stIgnored [])
    ∧ exec (.hstRecsearch m key) s = .next (s.answer stIgnored []) := by
  rw [exec_hstFulltest hm, exec_hstRecsearch hm, hstCmd_ignored (by decide) h, hstCmd_ignored (by decide) h]
  exact ⟨rfl, rfl⟩

theorem hstFulltest_holds (hj : s.host.job = none) (hmode : s.md.mode = .service) :
    ∃ t, exec (.hstFulltest m 0x5A) s = .next t ∧ t.host.job = some { op := 1 } ∧ t.bst.fullRun = true
      ∧ (∀ p : Proc, (t.cpu p).run = .held) ∧ t.reg hjOwn = BitVec.ofNat 32 m ∧ t.resp.status = stOk := by
  have hrun : s.hstCmd m 1 (0x5A : BitVec 8).toNat = (s.hstStart m 1 true, stOk) := by
    rw [hstCmd_starts (by decide) hj, if_pos rfl, hmode]
    rfl
  refine ⟨(s.hstStart m 1 true).answer stOk [], by rw [exec_hstFulltest hm, hrun], ?_⟩
  obtain ⟨hhost, hcpu, hown⟩ := abortSlice_keeps (s.hstJob m 1).holdAll
  rw [hstStart_full]
  exact ⟨congrArg HostSt.job hhost, rfl, fun p => (congrArg Cpu.run (hcpu p)).trans (holdAll_run _ p),
    hown.trans (hstJob_own s m 1), rfl⟩

theorem hstFulltest_refused (hj : s.host.job = none) (hmode : s.md.mode ≠ .service) :
    ∃ t, exec (.hstFulltest m 0x5A) s = .next t ∧ t.host.job = none ∧ (t.reg hjStat).toNat % 16 = 4
      ∧ (t.reg hjStat).toNat / 65536 = 1 := by
  have hrun : s.hstCmd m 1 (0x5A : BitVec 8).toNat = (s.hstStart m 1 false, stOk) := by
    rw [hstCmd_starts (by decide) hj, if_pos rfl, show (s.md.mode == Mode.service) = false by simpa using hmode]
  refine ⟨(s.hstStart m 1 false).answer stOk [], by rw [exec_hstFulltest hm, hrun], ?_⟩
  rw [hstStart_refused]
  exact ⟨rfl, hstEnd_stat (s.hstJob m 1) false 1⟩

theorem hstRecsearch_starts (hj : s.host.job = none) (hmode : s.searchModes = true) :
    ∃ t, exec (.hstRecsearch m 0x5A) s = .next t ∧ t.reg hjOwn = BitVec.ofNat 32 m ∧ t.resp.status = stOk
      ∧ (∃ j, t.host.job = some j ∧ j.op = 2) ∧ t.mem = s.mem := by
  have hrun : s.hstCmd m 2 (0x5A : BitVec 8).toNat = (s.hstStart m 2 true, stOk) := by
    rw [hstCmd_starts (by decide) hj, if_neg (by decide), hmode]
  refine ⟨(s.hstStart m 2 true).answer stOk [], by rw [exec_hstRecsearch hm, hrun], ?_⟩
  obtain ⟨hjob, hown⟩ := search_keeps (s := s.hstJob m 2) ⟨_, rfl, rfl⟩
  rw [hstStart_search]
  exact ⟨hown.trans (hstJob_own s m 2), rfl, hjob, search_mem _⟩

theorem hstAbort_ignored (h : key ≠ 0x5A ∨ s.host.job = none ∨ s.reg hjOwn ≠ BitVec.ofNat 32 m) :
    exec (.hstAbort m key) s = .next (s.answer stIgnored []) := by
  have hrun : s.hstCmd m 0xF key.toNat = (s, stIgnored) := by
    unfold hstCmd
    by_cases hk : key = 0x5A
    · rw [if_neg (by rw [hk]; decide), if_pos rfl]
      exact if_pos ((h.resolve_left (not_not.2 hk)).imp_left Option.isNone_iff_eq_none.2)
    · exact if_pos fun hn => hk (BitVec.eq_of_toNat_eq hn)
  rw [exec_hstAbort hm, hrun]

theorem hstAbort_ends (hj : s.host.job ≠ none) (hown : s.reg hjOwn = BitVec.ofNat 32 m) :
    ∃ t, exec (.hstAbort m 0x5A) s = .next t ∧ t.host.job = none ∧ t.bst.fullRun = false
      ∧ (t.reg hjStat).toNat % 16 = 4 ∧ (t.reg hjStat).toNat / 65536 = 7 := by
  have hrun : s.hstCmd m 0xF (0x5A : BitVec 8).toNat = (s.hstEnd false 7, stOk) := by
    unfold hstCmd
    rw [if_neg (by decide), if_pos rfl]
    exact if_neg (by simpa [hown, w32] using hj)
  refine ⟨(s.hstEnd false 7).answer stOk [], by rw [exec_hstAbort hm, hrun], rfl, rfl, hstEnd_stat s false 7⟩

theorem joback_ignored (h : s.reg hjOwn ≠ BitVec.ofNat 32 m) (v : Word) : exec (.joback m v) s = .next (s.answer stIgnored []) := by
  have hack : s.hstAck m v = (s, stIgnored) := if_pos h
  rw [exec_joback hm, hack]

section
variable (hown : s.reg hjOwn = BitVec.ofNat 32 m) (hj : ∀ j, s.host.job = some j → j.op ≠ 2) {v : Word}
include hown hj

theorem joback_takes (h : v.toNat % 512 ≤ (s.reg hjPart).toNat) : exec (.joback m v) s
    = .next ((s.setReg hjPart (BitVec.ofNat 32 ((s.reg hjPart).toNat - v.toNat % 512))).answer stOk []) := by
  have hack : s.hstAck m v = ((s.setReg hjPart (w32 ((s.reg hjPart).toNat - fld v 0 9))).search, stOk) :=
    (if_neg (not_not.2 hown)).trans (if_neg (not_lt.2 h))
  rw [exec_joback hm, hack, search_idle (s := s.setReg hjPart _) hj]
  rfl

theorem joback_tooMany (h : (s.reg hjPart).toNat < v.toNat % 512) :
    exec (.joback m v) s = .next ((s.setReg hjPart 0).answer stIgnored []) := by
  have hack : s.hstAck m v = ((s.setReg hjPart 0).search, stIgnored) := (if_neg (not_not.2 hown)).trans (if_pos h)
  rw [exec_joback hm, hack, search_idle (s := s.setReg hjPart 0) hj]

end
end

theorem exec_hstJobEnd_none (h : s.host.job = none) (f : BitVec 12) : exec (.hstJobEnd f) s = .next s := by
  show Host.Outcome.next (s.hstFinish f) = _
  unfold hstFinish
  rw [h]

section
variable {j : HstJob} (hj : s.host.job = some j) (hop : j.op = 1) (f : BitVec 12)
include hj hop

theorem exec_hstJobEnd_full : exec (.hstJobEnd f) s = .next (if s.md.mode = .service then s.fullEnd f else s.hstEnd false 6) := by
  show Host.Outcome.next (s.hstFinish f) = _
  unfold hstFinish
  rw [hj]
  exact congrArg Host.Outcome.next (if_pos hop)

theorem hstJobEnd_stopped (hm : s.md.mode ≠ .service) :
    ∃ t, exec (.hstJobEnd f) s = .next t ∧ t.host.job = none ∧ (t.reg hjStat).toNat % 16 = 4 ∧ (t.reg hjStat).toNat / 65536 = 6 := by
  refine ⟨_, exec_hstJobEnd_full hj hop f, ?_⟩
  rw [if_neg hm]
  exact ⟨rfl, hstEnd_stat s false 6⟩

theorem hstJobEnd_ends (hm : s.md.mode = .service) :
    ∃ t, exec (.hstJobEnd f) s = .next t ∧ t.host.job = none ∧ t.bst.fullRun = false ∧ (∀ a, a < 0x10000000 → t.byte a = 0)
      ∧ (f = 0 → (t.reg hjStat).toNat % 16 = 3)
      ∧ (∀ i : Fin 12, f.getLsbD i = true → (∀ k : Fin 12, k < i → f.getLsbD k = false) →
          (t.reg hjStat).toNat % 16 = 4 ∧ (t.reg hjStat).toNat / 65536 = i.val + 1) := by
  obtain ⟨hzero, u, hu⟩ := fullEnd_ends s f
  refine ⟨_, exec_hstJobEnd_full hj hop f, ?_⟩
  rw [if_pos hm]
  obtain ⟨hstate, hresult⟩ := hstEnd_stat u (fullCode f == 0) (fullCode f)
  rw [← hu] at hstate hresult
  refine ⟨by rw [hu]; rfl, by rw [hu]; rfl, hzero, ?_, fun i hi hbefore => ?_⟩
  · rintro rfl
    exact hstate
  · rw [fullCode_first hi hbefore] at hstate hresult
    exact ⟨hstate, hresult.trans (Nat.mod_eq_of_lt (by omega))⟩

end
end

/-- Settles O56: a transaction by the state of the port, a word by where it goes, and a job by its key, its owner and its mode. -/
theorem hostCommands : Obligations.HostCommands := by
  unfold Obligations.HostCommands
  intro s
  refine ⟨host_silent, fun h => ⟨hostWrite_dropped h, fun a v hr hw => ?_,
      fun a c => ⟨fun h1 h64 hloc => hostRead_fetches h h1 h64 hloc, fun h1 h64 ha => hostRead_asks h h1 h64 ha,
        fun hc => hostRead_badCount h hc a⟩,
      congrArg Host.Outcome.next (if_pos (show s.hostBegin.hostLive = true from h)), hostProtocolError_sets h⟩,
    fun ws worst first h => hostReadStartByte_sends h, exec_hostReadStartByte_none, fun m key hm => ?_, fun f => ?_⟩
  · exact ⟨hostWrite_ok h hr hw, hostWrite_fails h hr hw, hostWrite_leaves h hr hw, hostWrite_waits h hr hw⟩
  · refine ⟨hst_starts_ignored hm, ?_, hstAbort_ignored hm, ?_, fun v => ⟨fun h => joback_ignored hm h v,
      fun hown hj => ⟨joback_takes hm hown hj, joback_tooMany hm hown hj⟩⟩⟩
    · rintro rfl hj
      exact ⟨hstFulltest_holds hm hj, hstFulltest_refused hm hj, hstRecsearch_starts hm hj⟩
    · rintro rfl hj hown
      exact hstAbort_ends hm hj hown
  · exact ⟨fun h => exec_hstJobEnd_none h f, fun j hj hop hm => hstJobEnd_stopped hj hop f hm,
      fun j hj hop hm => hstJobEnd_ends hj hop f hm⟩

end Sys2Proof.Machine
end

section
/-! SUPPORT. The debug port (21 R533-R538): how a request is judged, and what each command does at the selected processor and in
memory. -/
namespace Sys2Proof.Machine
namespace State

variable {s : State}

/-! ### The judging of a request (21 R533, R536) -/

section
variable (cmd : Byte) (v : Word) (crc : Byte) (allowed : Bool) (op : State → State)

theorem dbgRun_off (h : s.md.mode = .off) : s.dbgRun cmd v crc allowed op = s := if_pos h

theorem dbgRun_badCrc (h : s.md.mode ≠ .off) (hc : crc ≠ dbgCrc cmd v) : s.dbgRun cmd v crc allowed op = s.dbgReply ackCrc 0 0 :=
  (if_neg h).trans (if_pos hc)

theorem dbgRun_refused (h : s.md.mode ≠ .off) : s.dbgRun cmd v (dbgCrc cmd v) false op = s.dbgReply ackRefused 0 0 :=
  (if_neg h).trans ((if_neg fun hc => hc rfl).trans (if_neg Bool.false_ne_true))

theorem dbgRun_done (h : s.md.mode ≠ .off) (ha : allowed = true) : s.dbgRun cmd v (dbgCrc cmd v) allowed op = op s :=
  (if_neg h).trans ((if_neg fun hc => hc rfl).trans (if_pos ha))

end

theorem dbgAt_refused (h : s.md.mode ≠ .off) (hp : s.dbgProc = none ∨ ∃ p, s.dbgProc = some p ∧ s.dbgMay p = false) (cmd : Byte)
    (v : Word) (op : State → Proc → State) : s.dbgAt cmd v (dbgCrc cmd v) op = s.dbgReply ackRefused 0 0 := by
  unfold dbgAt
  rcases hp with hp | ⟨p, hp, hmay⟩
  · rw [hp]
    exact dbgRun_refused cmd v _ h
  · rw [hp]
    dsimp only
    rw [hmay]
    exact dbgRun_refused cmd v _ h

theorem dbgAt_done {p : Proc} (h : s.md.mode ≠ .off) (hp : s.dbgProc = some p) (hmay : s.dbgMay p = true) (cmd : Byte) (v : Word)
    (op : State → Proc → State) : s.dbgAt cmd v (dbgCrc cmd v) op = op s p := by
  refine (dbgRun_done cmd v _ _ h (by rw [hp]; exact hmay)).trans ?_
  rw [hp]

/-! ### What a reply leaves (21 R534) -/

theorem dbgReply_cpu (ack fab : Nat) (w : Word) (p : Proc) : (s.dbgReply ack fab w).cpu p = s.cpu p := by
  cases p <;> rfl

theorem dbgReply_wait (fab : Nat) (w : Word) : (s.dbgReply ackWait fab w).dbg.status.extractLsb' 0 2 = 1 := by
  unfold dbgReply
  dsimp only
  generalize (if fab = 0 then s.dbg.fab else fab) = f
  generalize Bool.toNat _ = h
  refine BitVec.eq_of_toNat_eq ?_
  rw [BitVec.extractLsb'_toNat, BitVec.toNat_ofNat]
  show (1 + 4 * f + 16 * h) % 2 ^ 8 >>> 0 % 4 = 1
  rw [Nat.shiftRight_zero]
  omega

/-! ### HALT, RESUME and STEP (21 R535, R537) -/

theorem haltNow_halts (s : State) (p : Proc) : (s.haltNow p).isHalted p = true ∧ ((s.haltNow p).cpu p).pc = (s.cpu p).pc
    ∧ ((s.haltNow p).cpu p).g = (s.cpu p).g := by
  unfold haltNow
  dsimp only
  split
  next r hr => exact ⟨by rw [isHalted, hr], rfl, rfl⟩
  next r hr =>
    have hcpu : (s.setCpu p { s.cpu p with run := .halted (s.cpu p).run }).cpu p = { s.cpu p with run := .halted (s.cpu p).run } :=
      cpu_setCpu s p _
    cases p with
    | safety => exact ⟨rfl, rfl, rfl⟩
    | ac k =>
      have hgrant : ((s.setCpu (.ac k) { s.cpu (.ac k) with run := .halted (s.cpu (.ac k)).run }).endGrant (.core k.val)).cpu (.ac k)
          = { s.cpu (.ac k) with run := .halted (s.cpu (.ac k)).run } := hcpu
      rw [isHalted, hgrant]
      exact ⟨rfl, rfl, rfl⟩

theorem dbgHalt_waits {p : Proc} (h : s.midInstr p = true) : s.dbgHalt p = s.dbgReply ackWait 0 0 := if_pos h

theorem dbgStep_waits {p : Proc} (h : s.midInstr p = true) : s.dbgStep p = s.dbgReply ackWait 0 0 := if_pos h

theorem dbgHalt_done {p : Proc} (h : s.midInstr p = false) :
    s.dbgHalt p = (s.haltNow p).dbgReply ackDone 0 ((s.haltNow p).cpu p).pc := if_neg (Bool.eq_false_iff.1 h)

theorem dbgHalt_halts {p : Proc} (h : s.midInstr p = false) : (s.dbgHalt p).isHalted p = true ∧ (s.dbgHalt p).dbg.data = (s.cpu p).pc
    ∧ ((s.dbgHalt p).cpu p).pc = (s.cpu p).pc ∧ ((s.dbgHalt p).cpu p).g = (s.cpu p).g := by
  obtain ⟨hhalt, hpc, hg⟩ := haltNow_halts s p
  rw [dbgHalt_done h, isHalted, dbgReply_cpu]
  exact ⟨hhalt, hpc, hpc, hg⟩

theorem dbgResume_safety {r : RunSt} (h : s.sp.run = .halted r) :
    (s.dbgResume .safety).sp = { s.sp with run := r, past := some s.sp.pc } := by
  have hrun : (s.setCpu .safety { s.cpu .safety with past := some (s.cpu .safety).pc }).sp.run = .halted r := h
  unfold dbgResume
  dsimp only
  rw [hrun]
  rfl

theorem dbgStep_runs {p : Proc} (h : (s.cpu p).run = .halted .running ∨ (s.cpu p).run = .running) :
    s.dbgStep p = (s.setCpu p { s.cpu p with run := .running, stepping := true, past := some (s.cpu p).pc }).dbgReply ackDone 0
      (s.cpu p).pc := by
  have hmid : ¬ s.midInstr p = true := by
    unfold midInstr
    rcases h with h | h <;> simp [h]
  unfold dbgStep
  dsimp only
  rw [if_neg hmid]
  rcases h with h | h <;> rw [h]

/-! ### Registers (21 R535) -/

theorem dbgReg_general (p : Proc) {n : Nat} (h : n < 16) : s.dbgReg p n = some ((s.cpu p).r n) := if_pos h

theorem dbgReg_pc (p : Proc) : s.dbgReg p 0x10 = some (s.cpu p).pc := rfl

theorem dbgReg_st (p : Proc) : s.dbgReg p 0x11 = some (s.cpu p).stWord := rfl

theorem dbgReg_none (p : Proc) {n : Nat} (h : 0x60 ≤ n) : s.dbgReg p n = none := by
  unfold dbgReg
  dsimp only
  rw [if_neg (by omega), if_neg (by omega), if_neg (by omega), if_neg (by omega), if_neg (by omega)]

theorem dbgSetReg_general (p : Proc) {n : Nat} (h : n < 16) (v : Word) : s.dbgSetReg p n v = s.setCpu p ((s.cpu p).w n v) := if_pos h

theorem dbgSetReg_pc (p : Proc) (v : Word) : s.dbgSetReg p 0x10 v = s.setCpu p { s.cpu p with pc := v &&& 0xFFFFFFFC } := rfl

/-! ### Memory (21 R535, R546) -/

section
variable (hpriv : s.dbgPrivate = false)
include hpriv

section
variable (ha : s.asksRemote 6 s.dbg.addr = false)
include ha

theorem dbgRead_local : s.dbgRead = (s.busRead 6 s.dbg.addr.toNat 4).1.dbgNext.dbgReply ackDone (s.busRead 6 s.dbg.addr.toNat 4).2.1
    (if (s.busRead 6 s.dbg.addr.toNat 4).2.1 = stOk then (s.busRead 6 s.dbg.addr.toNat 4).2.2 else 0) := by
  unfold dbgRead
  rw [hpriv, ha]
  rfl

theorem dbgWrite_local (v : Word) : s.dbgWrite v
    = { (s.busWrite 6 s.dbg.addr.toNat 4 v).1.dbgNext.dbgReply ackDone 0 0 with
        dbg := { ((s.busWrite 6 s.dbg.addr.toNat 4 v).1.dbgNext.dbgReply ackDone 0 0).dbg with
          fab := (s.busWrite 6 s.dbg.addr.toNat 4 v).2 } } := by
  unfold dbgWrite
  rw [hpriv, ha]
  rfl

end

section
variable (ha : s.asksRemote 6 s.dbg.addr = true)
include ha

theorem dbgRead_remote : s.dbgRead = s.dbgRemote := if_pos (by simp [hpriv, ha])

theorem dbgWrite_remote (ho : s.remoteOpen 6 s.dbg.addr = true) (v : Word) : s.dbgWrite v
    = (s.remoteAsk (remoteDev s.dbg.addr) 6 s.dbg.addr (bytesOfWord v) false).dbgNext.dbgReply ackDone 0 0 :=
  (if_pos (by simp [hpriv, ha])).trans (if_pos ho)

end
end

theorem dbgRemote_asks (h : s.dbg.got = none) : s.dbgRemote.dbg.status.extractLsb' 0 2 = 1 ∧ s.dbgRemote.dbg.addr = s.dbg.addr
    ∧ s.dbgRemote.dbg.asked
      = if s.dbg.asked = none ∧ s.remoteOpen 6 s.dbg.addr = true then some s.lnk.nextTag else s.dbg.asked := by
  unfold dbgRemote
  dsimp only
  rw [h]
  dsimp only
  by_cases hask : s.dbg.asked = none ∧ s.remoteOpen 6 s.dbg.addr = true
  · rw [if_pos (by simp [hask]), if_pos hask]
    exact ⟨dbgReply_wait _ _, rfl, rfl⟩
  · rw [if_neg (by simpa using hask), if_neg hask]
    exact ⟨dbgReply_wait _ _, rfl, rfl⟩

theorem dbgRemote_answers {st : Nat} {w : Word} (h : s.dbg.got = some (st, w)) :
    s.dbgRemote = s.dbgNext.dbgReply ackDone st (if st = stOk then w else 0) := by
  unfold dbgRemote
  dsimp only
  rw [h]

end State

/-! ### The commands -/

section
open State
variable (s : State) (v : Word)

/-- The commands at the selected processor, each with its COMMAND byte. -/
noncomputable def dbgAtProc (v : Word) : List (Byte × (Byte → Instr)) :=
  [(0x03, .dbgHalt v), (0x04, .dbgResume v), (0x05, .dbgStep v), (0x06, .dbgArg v), (0x07, .dbgRdreg v),
    (0x08, .dbgWrreg v), (0x13, .dbgBpset v), (0x14, .dbgBpclr v)]

/-- The commands at memory. -/
noncomputable def dbgAtMem (v : Word) : List (Byte × (Byte → Instr)) := [(0x10, .dbgAddr v), (0x11, .dbgRdmem v), (0x12, .dbgWrmem v)]

theorem exec_dbgAtProc : ∀ i ∈ dbgAtProc v, ∃ op, ∀ b, exec (i.2 b) s = .next (s.dbgAt i.1 v b op) := by
  simp only [dbgAtProc, List.forall_mem_cons]
  exact ⟨⟨_, fun _ => rfl⟩, ⟨_, fun _ => rfl⟩, ⟨_, fun _ => rfl⟩, ⟨_, fun _ => rfl⟩, ⟨_, fun _ => rfl⟩, ⟨_, fun _ => rfl⟩,
    ⟨_, fun _ => rfl⟩, ⟨_, fun _ => rfl⟩, by simp⟩

theorem exec_dbgAtMem : ∀ i ∈ dbgAtMem v, ∃ op, ∀ b, exec (i.2 b) s = .next (s.dbgRun i.1 v b s.dbgMayMem op) := by
  simp only [dbgAtMem, List.forall_mem_cons]
  exact ⟨⟨_, fun _ => rfl⟩, ⟨_, fun _ => rfl⟩, ⟨_, fun _ => rfl⟩, by simp⟩

/-- Every request of the port is judged before it has an effect. -/
theorem exec_dbgAll : ∀ i ∈ [((0x01 : Byte), Instr.dbgIdent v), (0x02, .dbgSelect v)] ++ dbgAtProc v ++ dbgAtMem v,
    ∃ allowed op, ∀ b, exec (i.2 b) s = .next (s.dbgRun i.1 v b allowed op) := by
  rw [List.forall_mem_append, List.forall_mem_append, List.forall_mem_cons, List.forall_mem_cons]
  refine ⟨⟨⟨⟨_, _, fun _ => rfl⟩, ⟨_, _, fun _ => rfl⟩, by simp⟩, fun i hi => ?_⟩, fun i hi => ?_⟩
  · obtain ⟨op, hop⟩ := exec_dbgAtProc s v i hi
    exact ⟨_, _, hop⟩
  · obtain ⟨op, hop⟩ := exec_dbgAtMem s v i hi
    exact ⟨_, _, hop⟩

end

section
open State
variable {s : State} {v : Word} (hoff : s.md.mode ≠ .off)
include hoff

/-! ### Requests that are done (21 R535) -/

theorem exec_dbgIdent : exec (.dbgIdent v (dbgCrc 1 v)) s = .next (s.dbgReply ackDone 0 (s.sysVal 0)) :=
  congrArg Host.Outcome.next (dbgRun_done 1 v true _ hoff rfl)

theorem dbgSelect_names {p : Proc} (hp : procOf (v.toNat % 8) = some p) (hmay : s.dbgMay p = true) :
    ∃ t, exec (.dbgSelect v (dbgCrc 2 v)) s = .next t ∧ t.dbg.sel = some (v.toNat % 8) ∧ t.dbg.data = s.modeWord := by
  have hfld : procOf (fld v 0 3) = some p := hp
  refine ⟨({ s with dbg := { s.dbg with sel := some (fld v 0 3) } }).dbgReply ackDone 0 s.modeWord,
    congrArg Host.Outcome.next (dbgRun_done 2 v _ _ hoff ?_), rfl, rfl⟩
  rw [hfld]
  exact hmay

section
variable {p : Proc} (hp : s.dbgProc = some p) (hmay : s.dbgMay p = true)
include hp hmay

theorem exec_dbgHalt : exec (.dbgHalt v (dbgCrc 3 v)) s = .next (s.dbgHalt p) :=
  congrArg Host.Outcome.next (dbgAt_done hoff hp hmay 3 v _)

theorem exec_dbgResume : exec (.dbgResume v (dbgCrc 4 v)) s = .next (s.dbgResume p) :=
  congrArg Host.Outcome.next (dbgAt_done hoff hp hmay 4 v _)

theorem exec_dbgStep : exec (.dbgStep v (dbgCrc 5 v)) s = .next (s.dbgStep p) :=
  congrArg Host.Outcome.next (dbgAt_done hoff hp hmay 5 v _)

theorem exec_dbgArg : exec (.dbgArg v (dbgCrc 6 v)) s = .next (({ s with dbg := { s.dbg with arg := v } }).dbgReply ackDone 0 0) :=
  congrArg Host.Outcome.next (dbgAt_done hoff hp hmay 6 v _)

theorem exec_dbgRdreg {w : Word} (h : s.dbgReg p v.toNat = some w) :
    exec (.dbgRdreg v (dbgCrc 7 v)) s = .next (s.dbgReply ackDone 0 w) := by
  refine congrArg Host.Outcome.next ((dbgAt_done hoff hp hmay 7 v _).trans ?_)
  rw [h]

theorem exec_dbgRdreg_none (h : s.dbgReg p v.toNat = none) :
    exec (.dbgRdreg v (dbgCrc 7 v)) s = .next (s.dbgReply ackRefused 0 0) := by
  refine congrArg Host.Outcome.next ((dbgAt_done hoff hp hmay 7 v _).trans ?_)
  rw [h]

theorem exec_dbgWrreg (h : (s.dbgReg p v.toNat).isSome = true) :
    exec (.dbgWrreg v (dbgCrc 8 v)) s = .next ((s.dbgSetReg p v.toNat s.dbg.arg).dbgReply ackDone 0 0) :=
  congrArg Host.Outcome.next ((dbgAt_done hoff hp hmay 8 v _).trans (if_pos h))

theorem exec_dbgWrreg_none (h : s.dbgReg p v.toNat = none) :
    exec (.dbgWrreg v (dbgCrc 8 v)) s = .next (s.dbgReply ackRefused 0 0) :=
  congrArg Host.Outcome.next ((dbgAt_done hoff hp hmay 8 v _).trans (if_neg (by simp [h])))

theorem dbgBpset_sets : ∃ t, exec (.dbgBpset v (dbgCrc 0x13 v)) s = .next t
    ∧ look none t.dbg.bps (bpBase p + s.dbg.arg.toNat % 4) = some v :=
  ⟨_, congrArg Host.Outcome.next (dbgAt_done hoff hp hmay 0x13 v _), look_put none _ _ _⟩

/-- BPCLR takes the slots that it names from the list. -/
theorem exec_dbgBpclr : ∃ t, exec (.dbgBpclr v (dbgCrc 0x14 v)) s = .next t
    ∧ t.dbg.bps = (if v = 4 then [0, 1, 2, 3] else [fld v 0 2]).foldl (fun t i => put none t (bpBase p + i) none) s.dbg.bps :=
  ⟨_, congrArg Host.Outcome.next (dbgAt_done hoff hp hmay 0x14 v _), rfl⟩

theorem dbgBpclr_slot (h : v.toNat < 4) :
    ∃ t, exec (.dbgBpclr v (dbgCrc 0x14 v)) s = .next t ∧ look none t.dbg.bps (bpBase p + v.toNat) = none := by
  obtain ⟨t, ht, hbps⟩ := exec_dbgBpclr hoff hp hmay (v := v)
  have hslot : fld v 0 2 = v.toNat := Nat.mod_eq_of_lt h
  have hone : v ≠ 4 := by
    rintro rfl
    exact absurd h (by decide)
  rw [if_neg hone, hslot] at hbps
  refine ⟨t, ht, ?_⟩
  rw [hbps]
  exact look_put none _ _ _

theorem dbgBpclr_all (h : v = 4) :
    ∃ t, exec (.dbgBpclr v (dbgCrc 0x14 v)) s = .next t ∧ ∀ i : Fin 4, look none t.dbg.bps (bpBase p + i) = none := by
  obtain ⟨t, ht, hbps⟩ := exec_dbgBpclr hoff hp hmay (v := v)
  rw [if_pos h] at hbps
  refine ⟨t, ht, fun i => ?_⟩
  rw [hbps]
  simp only [List.foldl_cons, List.foldl_nil, look_put_eq]
  fin_cases i <;> simp

end

section
variable (hmay : s.dbgMayMem = true)
include hmay

theorem exec_dbgAddr : exec (.dbgAddr v (dbgCrc 0x10 v)) s = .next ((s.dbgTo v).dbgReply ackDone 0 0) :=
  congrArg Host.Outcome.next (dbgRun_done 0x10 v _ _ hoff hmay)

theorem exec_dbgRdmem : exec (.dbgRdmem v (dbgCrc 0x11 v)) s = .next s.dbgRead :=
  congrArg Host.Outcome.next (dbgRun_done 0x11 v _ _ hoff hmay)

theorem exec_dbgWrmem : exec (.dbgWrmem v (dbgCrc 0x12 v)) s = .next (s.dbgWrite v) :=
  congrArg Host.Outcome.next (dbgRun_done 0x12 v _ _ hoff hmay)

section
variable (hpriv : s.dbgPrivate = false) (ha : s.asksRemote 6 s.dbg.addr = false)
include hpriv ha

theorem dbgRdmem_local : ∃ t, exec (.dbgRdmem v (dbgCrc 0x11 v)) s = .next t
    ∧ t.dbg.data = (if (s.busRead 6 s.dbg.addr.toNat 4).2.1 = stOk then (s.busRead 6 s.dbg.addr.toNat 4).2.2 else 0)
    ∧ t.dbg.addr = (s.busRead 6 s.dbg.addr.toNat 4).1.dbg.addr + 4 ∧ t.mem = (s.busRead 6 s.dbg.addr.toNat 4).1.mem := by
  rw [exec_dbgRdmem hoff hmay, dbgRead_local hpriv ha]
  generalize s.busRead 6 s.dbg.addr.toNat 4 = r
  exact ⟨_, rfl, rfl, rfl, rfl⟩

theorem dbgWrmem_local : ∃ t, exec (.dbgWrmem v (dbgCrc 0x12 v)) s = .next t
    ∧ t.dbg.addr = (s.busWrite 6 s.dbg.addr.toNat 4 v).1.dbg.addr + 4 ∧ t.dbg.fab = (s.busWrite 6 s.dbg.addr.toNat 4 v).2
    ∧ t.mem = (s.busWrite 6 s.dbg.addr.toNat 4 v).1.mem := by
  rw [exec_dbgWrmem hoff hmay, dbgWrite_local hpriv ha]
  generalize s.busWrite 6 s.dbg.addr.toNat 4 v = w
  exact ⟨_, rfl, rfl, rfl, rfl⟩

end
end
end

/-- Settles O57: a request by the way it is judged, and each command by what it does. -/
theorem debugCommands : Obligations.DebugCommands := by
  unfold Obligations.DebugCommands
  intro s v atProc atMem all good
  refine ⟨fun b hoff i hi => ?_, fun hoff => ⟨fun i hi b hb => ?_, fun hp i hi => ?_, fun hmay i hi => ?_, exec_dbgIdent hoff,
    fun p hp hmay => dbgSelect_names hoff hp hmay, fun p hp hmay => ?_, fun hmay => ?_⟩, rfl⟩
  · obtain ⟨allowed, op, hop⟩ := exec_dbgAll s v i hi
    rw [hop, State.dbgRun_off i.1 v b allowed op hoff]
  · obtain ⟨allowed, op, hop⟩ := exec_dbgAll s v i hi
    rw [hop, State.dbgRun_badCrc i.1 v b allowed op hoff hb]
  · obtain ⟨op, hop⟩ := exec_dbgAtProc s v i hi
    rw [hop, State.dbgAt_refused hoff hp]
  · obtain ⟨op, hop⟩ := exec_dbgAtMem s v i hi
    rw [hop, hmay, State.dbgRun_refused i.1 v op hoff]
  · intro c
    refine ⟨fun hmid => ?_, fun hmid => ⟨_, exec_dbgHalt hoff hp hmay, State.dbgHalt_halts hmid⟩, ?_, ?_, fun hrun => ?_, ?_,
      fun hv => ⟨_, exec_dbgRdreg hoff hp hmay (State.dbgReg_general p hv), rfl, State.dbgReply_cpu _ _ _ p⟩, ?_, ?_,
      fun hv => ?_, ?_, fun hv => ?_, dbgBpset_sets hoff hp hmay, dbgBpclr_slot hoff hp hmay, dbgBpclr_all hoff hp hmay⟩
    · rw [exec_dbgHalt hoff hp hmay, exec_dbgStep hoff hp hmay, State.dbgHalt_waits hmid, State.dbgStep_waits hmid]
      exact ⟨rfl, rfl⟩
    · rintro r rfl hr
      exact ⟨_, exec_dbgResume hoff hp hmay, State.dbgResume_safety hr⟩
    · rintro k rfl
      exact exec_dbgResume hoff hp hmay
    · refine ⟨_, exec_dbgStep hoff hp hmay, ?_⟩
      rw [State.dbgStep_runs hrun]
      exact ⟨rfl, (State.dbgReply_cpu _ _ _ p).trans (State.cpu_setCpu _ _ _)⟩
    · exact ⟨_, exec_dbgArg hoff hp hmay, rfl, (State.dbgReply_cpu _ _ _ p).trans (by cases p <;> rfl)⟩
    · rintro rfl
      exact ⟨_, exec_dbgRdreg hoff hp hmay (State.dbgReg_pc p), rfl⟩
    · rintro rfl
      exact ⟨_, exec_dbgRdreg hoff hp hmay (State.dbgReg_st p), rfl⟩
    · refine ⟨_, exec_dbgWrreg hoff hp hmay (by rw [State.dbgReg_general p hv]; rfl), ?_⟩
      rw [State.dbgReply_cpu, State.dbgSetReg_general p hv, State.cpu_setCpu]
    · rintro rfl
      refine ⟨_, exec_dbgWrreg hoff hp hmay rfl, ?_⟩
      rw [State.dbgReply_cpu, show (0x10 : Word).toNat = 0x10 from rfl, State.dbgSetReg_pc p, State.cpu_setCpu]
    · exact ⟨exec_dbgRdreg_none hoff hp hmay (State.dbgReg_none p hv), exec_dbgWrreg_none hoff hp hmay (State.dbgReg_none p hv)⟩
  · refine ⟨⟨_, exec_dbgAddr hoff hmay, rfl⟩, fun hpriv ha => ?_, fun hpriv ha => ⟨fun hgot => ?_, fun st w hgot => ?_, fun ho => ?_⟩⟩
    · exact ⟨dbgRdmem_local hoff hmay hpriv ha, dbgWrmem_local hoff hmay hpriv ha⟩
    · rw [exec_dbgRdmem hoff hmay, State.dbgRead_remote hpriv ha]
      exact ⟨_, rfl, State.dbgRemote_asks hgot⟩
    · rw [exec_dbgRdmem hoff hmay, State.dbgRead_remote hpriv ha, State.dbgRemote_answers hgot]
      exact ⟨_, rfl, rfl, rfl, rfl⟩
    · rw [exec_dbgWrmem hoff hmay, State.dbgWrite_remote hpriv ha ho]
      exact ⟨_, _, rfl, rfl, rfl, rfl, rfl⟩

end Sys2Proof.Machine
end

section
/-! SUPPORT. The ridge link (21 R539-R547): the frames that arrive, and what the end of a request leaves. -/
namespace Sys2Proof.Machine
namespace State

variable {s : State}

/-! ### The taking of a frame (21 R540, R541) -/

theorem linkTake_off (h : s.linkOn = false) (ld : Bool) (e : LinkErr) (orig : Nat) : s.linkTake ld e orig = (s, false) :=
  if_pos (by simp [h])

section
variable (h : s.linkOn = true)
include h

theorem linkTake_error {e : LinkErr} (he : e ≠ .none) (ld : Bool) (orig : Nat) : s.linkTake ld e orig = (s.linkError ld e, false) :=
  (if_neg (by simp [h])).trans (if_pos he)

theorem linkTake_none (ld : Bool) (orig : Nat) : s.linkTake ld .none orig = (s, orig != s.lnk.id) :=
  (if_neg (by simp [h])).trans (if_neg fun hn => hn rfl)

theorem linkTake_taken {orig : Nat} (hid : orig ≠ s.lnk.id) (ld : Bool) : s.linkTake ld .none orig = (s, true) := by
  rw [linkTake_none h, show (orig != s.lnk.id) = true from bne_iff_ne.2 hid]

end

/-- A fault of the link stands, beside what the link holds. -/
theorem linkFault_sets (s : State) (detail : Nat) : (s.linkFault detail).lnk = { s.lnk with err := true }
    ∧ ((s.linkFault detail).reg lnkB).getLsbD 1 = true ∧ ((s.linkFault detail).src 176).rail ≠ .ok
    ∧ (∀ i, (s.reg lnkB).getLsbD i = true → ((s.linkFault detail).reg lnkB).getLsbD i = true)
    ∧ (∀ a, a ≠ lnkB → (s.linkFault detail).reg a = s.reg a) := by
  have hreg (a : Nat) : (s.linkFault detail).reg a = (s.setBits lnkB (flag 1 true)).reg a := drive_keeps (fun t => t.reg a) _ 176 _
  refine ⟨drive_keeps State.lnk _ 176 _, ?_, drive_rail _ 176 _ rfl, fun i hi => ?_, fun a ha => ?_⟩
  · rw [hreg]
    exact setBits_sets s lnkB rfl
  · rw [hreg, getLsbD_setBits, hi, Bool.true_or]
  · rw [hreg]
    exact reg_setReg_ne s _ _ _ ha

theorem linkError_counts (s : State) (ld : Bool) (e : LinkErr) :
    (s.linkError ld e).reg (lnkB + if e = .code then 0x20 else 0x24) = s.reg (lnkB + if e = .code then 0x20 else 0x24) + 1
    ∧ (s.linkError ld e).lnk.present = s.lnk.present ∧ (s.linkError ld e).lnk.lines = s.lnk.lines
    ∧ (s.linkError ld e).lnk.sent = s.lnk.sent := by
  have hne : (lnkB + if e = .code then 0x20 else 0x24) ≠ lnkB := by split <;> decide
  unfold linkError
  generalize (lnkB + if e = .code then 0x20 else 0x24) = a at hne ⊢
  extract_lets s1 v errs s2
  have h2 : s2.reg a = s.reg a + 1 ∧ s2.lnk.present = s.lnk.present ∧ s2.lnk.lines = s.lnk.lines ∧ s2.lnk.sent = s.lnk.sent := by
    refine ⟨reg_setReg s a _, ?_⟩
    cases ld <;> exact ⟨rfl, rfl, rfl⟩
  split
  · obtain ⟨hlnk, -, -, -, hreg⟩ := linkFault_sets s2 0
    rw [hreg a hne, hlnk]
    exact h2
  · exact h2

/-! ### STOP frames (21 R542-R544) -/

theorem stopFrame_of_take (s : State) (ld : Bool) (e : LinkErr) (orig : Nat) (l : BitVec 16) (r : Byte) :
    s.stopFrame ld e orig l r = if (s.linkTake ld e orig).2 then (s.linkTake ld e orig).1.stopArrives ld orig l r
      else if s.linkOn ∧ e = .none then ((s.linkTake ld e orig).1.setBits lnkB (flag 3 true)).linkFault 1
      else (s.linkTake ld e orig).1 := rfl

theorem stopFrame_off (h : s.linkOn = false) (ld : Bool) (e : LinkErr) (orig : Nat) (l : BitVec 16) (r : Byte) :
    s.stopFrame ld e orig l r = s := by
  rw [stopFrame_of_take, linkTake_off h, if_neg Bool.false_ne_true, if_neg (by simp [h])]

section
variable (h : s.linkOn = true)
include h

theorem stopFrame_error {e : LinkErr} (he : e ≠ .none) (ld : Bool) (orig : Nat) (l : BitVec 16) (r : Byte) :
    s.stopFrame ld e orig l r = s.linkError ld e := by
  rw [stopFrame_of_take, linkTake_error h he, if_neg Bool.false_ne_true, if_neg (by simp [he])]

theorem stopFrame_own {orig : Nat} (hid : orig = s.lnk.id) (ld : Bool) (l : BitVec 16) (r : Byte) :
    s.stopFrame ld .none orig l r = (s.setBits lnkB (flag 3 true)).linkFault 1 := by
  rw [stopFrame_of_take, linkTake_none h, if_neg (by simp [hid]), if_pos ⟨h, rfl⟩]

theorem stopFrame_arrives {orig : Nat} (hid : orig ≠ s.lnk.id) (ld : Bool) (l : BitVec 16) (r : Byte) :
    s.stopFrame ld .none orig l r = s.stopArrives ld orig l r := by
  rw [stopFrame_of_take, linkTake_taken h hid, if_pos rfl]

end

theorem noteRemote_lnk (s : State) : s.noteRemote.lnk = s.lnk := driveIf_keeps State.lnk s _ _ _

theorem side_of_lnk {s t : State} (h : t.lnk = s.lnk) (ld : Bool) : t.side ld = s.side ld := by rw [side, h, side]

theorem side_setSide (s : State) (ld : Bool) (v : SideSt) : (s.setSide ld v).side ld = v := by cases ld <;> rfl

theorem side_setSide_other (s : State) (ld : Bool) (v : SideSt) : (s.setSide ld v).side (!ld) = s.side (!ld) := by cases ld <;> rfl

/-- A STOP frame marks its origin, counts at its side and is relayed at the other. -/
theorem stopArrives_marks (s : State) (ld : Bool) (orig : Fin 8) (l : BitVec 16) (r : Byte) :
    (s.stopArrives ld orig l r).lnk.present.getLsbD orig = true ∧ (s.stopArrives ld orig l r).lnk.fresh.getLsbD orig = true
    ∧ look 0 (s.stopArrives ld orig l r).lnk.lines orig = l ∧ ((s.stopArrives ld orig l r).side ld).run = (s.side ld).run + 1
    ∧ (3 ≤ (s.side ld).run → ((s.stopArrives ld orig l r).side ld).up = true)
    ∧ ∃ f, (s.stopArrives ld orig l r).lnk.sent = [f] ∧ f.ld = !ld ∧ f.type = 1 ∧ f.orig = orig.val
      ∧ f.payload = bytesOfNat 4 l.toNat := by
  unfold stopArrives
  extract_lets v t k u relay
  have hside : (u.linkSend [relay]).noteRemote.side ld = t.side ld := (side_of_lnk (noteRemote_lnk _) ld).trans rfl
  rw [hside, noteRemote_lnk, show t.side ld = _ from side_setSide s ld _]
  refine ⟨getLsbD_putBit_same _ orig.isLt true, getLsbD_putBit_same _ orig.isLt true, look_put _ _ _ _, rfl, fun h => ?_,
    relay, rfl, rfl, rfl, rfl, rfl⟩
  have h4 : 4 ≤ v.run + 1 := Nat.succ_le_succ h
  rw [decide_eq_true h4, Bool.or_true]

theorem stopSend_sends (s : State) : ∃ f g, s.stopSend.lnk.refresh = s.lnk.refresh + 1 ∧ s.stopSend.lnk.sent = [f, g] ∧ f.ld = false
    ∧ g.ld = true ∧ f.orig = s.lnk.id ∧ f.payload = bytesOfNat 4 (if s.md.mode = .run then s.zoneLines else 0xFFFF).toNat
    ∧ g.payload = f.payload := ⟨_, _, rfl, rfl, rfl, rfl, rfl, rfl, rfl⟩

/-- An origin that is no longer heard. -/
theorem originGone_marks (s : State) (orig : Fin 8) : (s.originGone orig).lnk.present.getLsbD orig = false
    ∧ (s.originGone orig).lnk.fresh.getLsbD orig = false
    ∧ ∀ d : Fin 8, d ≠ orig → (s.originGone orig).lnk.present.getLsbD d = s.lnk.present.getLsbD d := by
  have takes (t : State) : t.takesOver.lnk.present = t.lnk.present ∧ t.takesOver.lnk.fresh = t.lnk.fresh := by
    unfold takesOver
    split <;> exact ⟨rfl, rfl⟩
  unfold originGone
  extract_lets k
  rw [(takes _).1, (takes _).2, noteRemote_lnk]
  exact ⟨getLsbD_putBit_same _ orig.isLt false, getLsbD_putBit_same _ orig.isLt false,
    fun d hd => (getLsbD_putBit _ _ _ _).trans (if_neg fun h => hd (Fin.ext h))⟩

/-! ### Alignment (21 R545) -/

theorem alignLost_sets (s : State) : s.alignLost.lnk = { s.lnk with lost := true, aligned := false, goodRun := 0, badRun := 0 }
    ∧ (s.alignLost.src 177).rail ≠ .ok := ⟨drive_keeps State.lnk _ 177 0, drive_rail _ 177 0 rfl⟩

/-- An exchange gives the offset in steps of 1 ns. -/
theorem exchange_theta (s : State) (h : Int) : (s.exchange h).lnk.theta = BitVec.ofInt 16 ((h * 5).tdiv 2) := by
  unfold exchange
  extract_lets ns k good bad step up s1 s2 s3 s4
  have h4 : s4.lnk.theta = s1.lnk.theta := keeps_ite (fun t => t.lnk.theta) rfl rfl
  exact keeps_ite (s := s1) (fun t => t.lnk.theta) ((congrArg LnkSt.theta (alignLost_sets s4).1).trans h4) h4

/-! ### Requests of other devices (21 R546) -/

theorem regionOf_offset (o : BitVec 28) : regionOf o.toNat = .work := if_pos o.isLt

theorem eccRead_sound {a : Nat} (hw : regionOf a = .work) (hs : s.sound a) (m : Nat) : s.eccRead a m = (s, true) := by
  unfold eccRead
  dsimp only
  rw [hw]
  dsimp only
  rw [if_neg (Bool.eq_false_iff.1 hs.1), if_neg (Bool.eq_false_iff.1 hs.2)]

section
variable {ld : Bool} {orig : Nat} {tag : BitVec 32} {o : BitVec 28} {v : Word}

theorem serveRequest_refused {w : Bool} (h : s.revoked 7 = true ∨ s.exposes orig o.toNat w = false) :
    s.serveRequest ld orig w tag o.toNat v = s.answerFrame ld orig tag false 0 := if_pos (by simpa using h)

section
variable (hr : s.revoked 7 = false) (hs : s.sound o.toNat)
include hr hs

theorem serveRequest_reads (he : s.exposes orig o.toNat false = true) :
    s.serveRequest ld orig false tag o.toNat v = s.answerFrame ld orig tag true (w32 (s.num o.toNat 4)) := by
  have hread : s.ramRead 7 o.toNat 4 = (s, stOk, s.num o.toNat 4) := by
    unfold ramRead
    rw [eccRead_sound (regionOf_offset o) hs]
    rfl
  unfold serveRequest
  rw [if_neg (by simp [hr, he]), if_neg Bool.false_ne_true, hread]
  rfl

theorem serveRequest_writes (he : s.exposes orig o.toNat true = true) :
    s.serveRequest ld orig true tag o.toNat v = (s.setBytes o.toNat (bytesOfWord v)).answerFrame ld orig tag true 0 := by
  have hecc : s.eccWrite o.toNat (bytesOfWord v).length 7 = (s, true) := by
    have h4 : (bytesOfWord v).length = 4 := rfl
    unfold eccWrite
    rw [h4, if_neg (by simp), eccRead_sound (regionOf_offset o) hs]
  have hwrite : s.ramWrite 7 o.toNat (bytesOfWord v) = (s.setBytes o.toNat (bytesOfWord v), stOk) := by
    unfold ramWrite
    rw [regionOf_offset o, hecc]
    rfl
  unfold serveRequest
  rw [if_neg (by simp [hr, he]), if_pos rfl, hwrite]
  rfl

end
end

/-! ### Queue messages (21 R547) -/

theorem sendMessage_of_qPop {q : Nat} {u : State} {entry : List Byte} (hr : s.revoked 7 = false) (hon : s.linkOn = true)
    (hpop : s.qPop (88 + q) = (u, some entry)) : s.sendMessage q
    = if (entry.getD 0 0).toNat % 8 == s.lnk.id || !bit s.lnk.present ((entry.getD 0 0).toNat % 8) then u.countUp (lnkB + 0x28)
      else u.linkSend [u.frameTo 5 ((entry.getD 0 0).toNat % 8) 0 entry] := by
  have hlnk : u.lnk = s.lnk := by
    have h := qPop_only s (88 + q)
    rw [show (s.qPop (88 + q)).1 = u from congrArg Prod.fst hpop] at h
    rw [h]
  unfold sendMessage
  rw [if_neg (by simp [hr, hon]), hpop]
  dsimp only
  rw [hlnk]

/-! ### The end of a request (21 R546) -/

/-- The link and the host port. -/
def atLink (s : State) : LnkSt × HostSt := (s.lnk, s.host)

@[simp] theorem onCore_atLink (s : State) (k : Nat) (f : Cpu → Cpu) : (s.onCore k f).atLink = s.atLink := by
  unfold onCore
  split <;> rfl

@[simp] theorem setCpu_atLink (s : State) (p : Proc) (c : Cpu) : (s.setCpu p c).atLink = s.atLink := by
  unfold setCpu
  split <;> rfl

theorem drive_atLink (s : State) (n : Nat) (d : BitVec 16) : (s.drive n d).atLink = s.atLink := drive_keeps atLink s n d

@[simp] theorem endGrant_atLink (s : State) (w : Worker) : (s.endGrant w).atLink = s.atLink := rfl
@[simp] theorem unwait_atLink (s : State) (w : Worker) : (s.unwait w).atLink = s.atLink := rfl
@[simp] theorem saveCtx_atLink (s : State) (k x : Nat) : (s.saveCtx k x).atLink = s.atLink := rfl
@[simp] theorem unready_atLink (s : State) (x : Nat) : (s.unready x).atLink = s.atLink := rfl
@[simp] theorem requeueHead_atLink (s : State) (k x : Nat) : (s.requeueHead k x).atLink = s.atLink := rfl
@[simp] theorem idleCore_atLink (s : State) (k : Nat) : (s.idleCore k).atLink = s.atLink := onCore_atLink s k _
@[simp] theorem loadCtx_atLink (s : State) (k x : Nat) : (s.loadCtx k x).atLink = s.atLink := onCore_atLink s k _

@[simp] theorem deny_atLink (s : State) (w : Worker) (cls : Nat) (cost : Int) : (s.deny w cls cost).atLink = s.atLink := by
  unfold deny
  dsimp only
  split
  · split <;> rfl
  split
  · rfl
  · cases w <;> rfl

theorem decideAsk_atLink {t : State} {w : Worker} {cls : Nat} {cost : Int} {forced : Bool}
    (h : s.decideAsk w cls cost forced = some t) : t.atLink = s.atLink := by
  obtain ⟨g, rfl⟩ := decideAsk_only h
  rfl

theorem regrant_atLink (s : State) (k : Nat) : (s.regrant k).atLink = s.atLink := by
  unfold regrant
  split
  · rfl
  split
  · rfl
  · dsimp only
    split
    next h => rw [unwait_atLink, decideAsk_atLink h]
    next => simp

theorem preempt_atLink (s : State) (k : Nat) : (s.preempt k).atLink = s.atLink := by
  unfold preempt
  dsimp only
  split
  · split
    · rfl
    · split
      next => exact deny_atLink _ _ _ _
      next h => simp [decideAsk_atLink h]
  · rfl

theorem goesOn_atLink (s : State) (k : Nat) : (s.goesOn k).atLink = s.atLink := (preempt_atLink _ k).trans (regrant_atLink s k)

theorem flowOn_atLink (s : State) (k : Fin 4) (a : Word) : (s.flowOn (.ac k) a).atLink = s.atLink := setCpu_atLink s _ _

theorem raiseExc_atLink (s : State) (k : Fin 4) (e : Exc) : (s.raiseExc (.ac k) e).atLink = s.atLink := by
  unfold raiseExc
  dsimp only
  split
  · exact (drive_atLink _ _ _).trans (setCpu_atLink s _ _)
  · exact setCpu_atLink s _ _

theorem settleStep_atLink (s : State) (p : Proc) : (s.settleStep p).atLink = s.atLink := by
  unfold settleStep
  dsimp only
  split
  · rfl
  split
  · rfl
  · rfl
  · rfl
  · exact setCpu_atLink s _ _
  · exact setCpu_atLink s _ _

theorem core_eq_cpu (s : State) (k : Fin 4) : s.core k = s.cpu (.ac k) := by fin_cases k <;> rfl

theorem endGrant_cpu (s : State) (w : Worker) (p : Proc) : (s.endGrant w).cpu p = s.cpu p := by cases p <;> rfl

theorem drive_cpu (s : State) (n : Nat) (d : BitVec 16) (p : Proc) : (s.drive n d).cpu p = s.cpu p := onlyLog_cpu (drive_only s n d) p

theorem raiseExc_killDue (s : State) (k : Fin 4) (e : Exc) :
    ((s.raiseExc (.ac k) e).cpu (.ac k)).killDue = (s.cpu (.ac k)).killDue := by
  unfold raiseExc
  dsimp only
  split
  · rw [drive_cpu, endGrant_cpu, cpu_setCpu]
  · unfold enterExc
    dsimp only
    rw [cpu_setCpu]

theorem settleStep_killDue (s : State) (p : Proc) : ((s.settleStep p).cpu p).killDue = (s.cpu p).killDue := by
  have noted (t : State) (d : DbgSt) : ({ t with dbg := d } : State).cpu p = t.cpu p := by cases p <;> rfl
  unfold settleStep
  dsimp only
  split
  · rfl
  split
  · rfl
  · rfl
  · rfl
  · rw [cpu_setCpu]
  · rw [noted, cpu_setCpu]

theorem flowOn_killDue (s : State) (k : Fin 4) (a : Word) :
    ((s.flowOn (.ac k) a).cpu (.ac k)).killDue = (s.cpu (.ac k)).killDue := by
  unfold flowOn
  dsimp only [addSlots]
  rw [cpu_setCpu]

/-- A core that no kill waits for goes on. -/
theorem afterWait_atLink {s : State} {k : Fin 4} (h : (s.cpu (.ac k)).killDue = false) : (s.afterWait k).atLink = s.atLink := by
  rw [afterWait, core_eq_cpu, h]
  exact goesOn_atLink s k

theorem write_killDue (c : Cpu) (i : Nat) (v : Word) : (c.w i v).killDue = c.killDue := by
  unfold Cpu.w
  split <;> rfl

theorem endLoad_atLink {s : State} {k : Fin 4} (h : (s.cpu (.ac k)).killDue = false) (tag : BitVec 32) (a : Word)
    (ok : Bool) (v : Word) : (s.endLoad k tag a ok v).atLink = s.atLink := by
  unfold endLoad
  extract_lets c
  split
  next t c' run rd shape hrun =>
    have ht : t.atLink = s.atLink := setCpu_atLink s _ _
    have hkill : (t.cpu (.ac k)).killDue = false := (congrArg Cpu.killDue (cpu_setCpu s _ _)).trans h
    split
    · rfl
    split
    · refine (afterWait_atLink ?_).trans ((settleStep_atLink _ _).trans ((raiseExc_atLink t k _).trans ht))
      rw [settleStep_killDue, raiseExc_killDue, hkill]
    split
    · exact (setCpu_atLink t _ _).trans ht
    · have hflow (u : State) (b : Word) (hu : u.atLink = s.atLink) : (u.flowOn (.ac k) b).atLink = s.atLink :=
        (flowOn_atLink u k b).trans hu
      refine (afterWait_atLink ?_).trans ((settleStep_atLink _ _).trans (hflow _ _ ((setCpu_atLink t _ _).trans ht)))
      rw [settleStep_killDue, flowOn_killDue, cpu_setCpu, write_killDue, hkill]
  · rfl

theorem fenceDone_atLink (s : State) (k : Fin 4) : (s.fenceDone k).atLink = s.atLink := by
  unfold fenceDone
  dsimp only
  split
  · exact (goesOn_atLink _ k).trans ((settleStep_atLink _ _).trans ((flowOn_atLink _ k _).trans (setCpu_atLink s _ _)))
  · rfl

theorem postResponse_atLink (s : State) (k : Fin 4) (st : Nat) (a : Word) : (s.postResponse k st a).atLink = s.atLink := by
  unfold postResponse
  split
  · rfl
  · exact setCpu_atLink s _ _

theorem endStore_atLink (s : State) (k : Fin 4) (a : Word) (ok : Bool) : (s.endStore k a ok).atLink = s.atLink := by
  refine (fenceDone_atLink _ k).trans ?_
  split
  · rfl
  · exact postResponse_atLink s k _ _

theorem hostFail_atLink (s : State) (st : Nat) (a : Word) : (s.hostFail st a).atLink = s.atLink := by
  unfold hostFail
  split <;> rfl

theorem endPort_atLink {s : State} (hf : s.host.fetch = none) (r : Remote) (tag : BitVec 32) (st : Nat) (v : Word) :
    (s.endPort r tag st v).atLink = s.atLink := by
  unfold endPort
  split
  · rw [hostLoaded, hf]
  · exact hostFail_atLink s st _
  · split <;> rfl
  · rfl
  · rfl

/-- With nothing that waits at the host port, nothing goes on. -/
theorem hostResume_quiet {s : State} (hw : s.host.wbuf = []) (hf : s.host.fetch = none) : s.hostResume = s := by
  have hdrain : hostDrain s.host.wbuf s = s := by
    rw [hw, hostDrain, ← hw]
  unfold hostResume
  rw [hdrain]
  dsimp only
  rw [hf]

/-- What the end of a request does before what waits goes on. -/
def requestOver (s : State) (r : Remote) (rest : List Remote) (tag : BitVec 32) (ok : Bool) (v : Word) : State :=
  let t := { s with lnk := { s.lnk with remote := rest } }
  if h : r.core < 4 then
    if r.isLoad then t.endLoad ⟨r.core, h⟩ tag r.addr ok v else t.endStore ⟨r.core, h⟩ r.addr ok
  else t.endPort r tag (if ok then stOk else stError) v

theorem endRequest_taken {d : Nat} {tag : BitVec 32} {r : Remote} {rest : List Remote}
    (h : takeRemote d tag s.lnk.remote = some (r, rest)) (ok : Bool) (v : Word) :
    s.endRequest d tag ok v = (s.requestOver r rest tag ok v).sending hostResume := by
  unfold endRequest
  rw [h]
  rfl

theorem takeRemote_none {d : Nat} {tag : BitVec 32} : ∀ {l : List Remote}, (∀ x ∈ l, ¬ (x.dest = d ∧ x.tag = tag)) →
    takeRemote d tag l = none
  | [], _ => rfl
  | x :: l, h => by
    have hrest := takeRemote_none fun y hy => h y (List.mem_cons_of_mem x hy)
    rw [takeRemote, if_neg (h x List.mem_cons_self), hrest]

theorem endRequest_none {d : Nat} {tag : BitVec 32} (h : ∀ x ∈ s.lnk.remote, ¬ (x.dest = d ∧ x.tag = tag)) (ok : Bool) (v : Word) :
    s.endRequest d tag ok v = s := by
  unfold endRequest
  rw [takeRemote_none h]

section
variable (hw : s.host.wbuf = []) (hf : s.host.fetch = none) (hk : ∀ k : Fin 4, (s.cpu (.ac k)).killDue = false)
include hf hk

theorem requestOver_atLink (r : Remote) (rest : List Remote) (tag : BitVec 32) (ok : Bool) (v : Word) :
    (s.requestOver r rest tag ok v).atLink = ({ s.lnk with remote := rest }, s.host) := by
  unfold requestOver
  extract_lets l t
  split
  next h =>
    split
    · exact endLoad_atLink (s := t) (hk ⟨r.core, h⟩) tag r.addr ok v
    · exact endStore_atLink t ⟨r.core, h⟩ r.addr ok
  next => exact endPort_atLink (s := t) hf r tag _ v

include hw

/-- With nothing that waits at the host port, the end of a request is its own. -/
theorem endRequest_ends {d : Nat} {tag : BitVec 32} {r : Remote} {rest : List Remote}
    (h : takeRemote d tag s.lnk.remote = some (r, rest)) (ok : Bool) (v : Word) :
    ∃ l, s.endRequest d tag ok v = { s.requestOver r rest tag ok v with lnk := l } ∧ l.remote = rest := by
  have hat := requestOver_atLink hf hk r rest tag ok v
  generalize hu : s.requestOver r rest tag ok v = u at hat
  obtain ⟨hlnk, hhost⟩ := Prod.mk.inj hat
  have hres : hostResume u.unsent = u.unsent := hostResume_quiet (by rw [show u.unsent.host = u.host from rfl, hhost, hw])
    (by rw [show u.unsent.host = u.host from rfl, hhost, hf])
  rw [endRequest_taken h, hu, sending_quiet (by rw [hres]; rfl), hres]
  refine ⟨_, rfl, ?_⟩
  show u.lnk.remote = rest
  rw [hlnk]

theorem endRequest_remote {d : Nat} {tag : BitVec 32} {r : Remote} {rest : List Remote}
    (h : takeRemote d tag s.lnk.remote = some (r, rest)) (ok : Bool) (v : Word) : (s.endRequest d tag ok v).lnk.remote = rest := by
  obtain ⟨l, hend, hl⟩ := endRequest_ends hw hf hk h ok v
  rw [hend]
  exact hl

/-- The debug port has the word or the status that it waits for. -/
theorem endRequest_debug {d : Nat} {tag : BitVec 32} {r : Remote} {rest : List Remote}
    (h : takeRemote d tag s.lnk.remote = some (r, rest)) (h6 : r.core = 6) (ok : Bool) (v : Word) :
    (r.isLoad = true → s.dbg.asked = some tag →
      (s.endRequest d tag ok v).dbg.got = some (if ok then stOk else stError, v) ∧ (s.endRequest d tag ok v).dbg.asked = none)
    ∧ (r.isLoad = false → (s.endRequest d tag ok v).dbg.fab = if ok then stOk else stError) := by
  obtain ⟨l, hend, -⟩ := endRequest_ends hw hf hk h ok v
  have hport : s.requestOver r rest tag ok v
      = { s with lnk := { s.lnk with remote := rest } }.endPort r tag (if ok then stOk else stError) v := dif_neg (by omega)
  rw [hend, hport]
  unfold endPort
  rw [h6]
  refine ⟨fun hl ha => ?_, fun hl => ?_⟩
  · rw [hl]
    dsimp only
    rw [if_pos ha]
    exact ⟨rfl, rfl⟩
  · rw [hl]
    rfl

end
end State

end Sys2Proof.Machine
end

section
/-! SUPPORT. The commands of the ridge link (21 R539-R549). -/
namespace Sys2Proof.Machine

section
open State
variable {s : State}

/-! ### Frames on a link that is off (21 R542) -/

/-- A frame of another kind than STOP has its effect when it is taken. -/
theorem exec_taken_off (h : s.linkOn = false) (ld : Bool) (e : LinkErr) (orig : Fin 8) :
    (∀ a b c d, exec (.ridgeTime ld e orig a b c d) s = .next s)
    ∧ (∀ w g o v, exec (.ridgeMreq ld e orig w g o v) s = .next s) ∧ (∀ g o v, exec (.ridgeMrsp ld e orig g o v) s = .next s)
    ∧ (∀ x, exec (.ridgeQmsg ld e orig x) s = .next s) := by
  have htake := linkTake_off h ld e orig
  refine ⟨fun a b c d => ?_, fun w g o v => ?_, fun g o v => ?_, fun x => ?_⟩
  · show Host.Outcome.next (s.timeFrame ld e orig a b c d) = _
    unfold timeFrame
    rw [htake]
    rfl
  · show execRidgeMreq ld e orig w g o v s = _
    unfold execRidgeMreq
    rw [htake]
    rfl
  · show execRidgeMrsp ld e orig g o v s = _
    unfold execRidgeMrsp
    rw [htake]
    rfl
  · show execRidgeQmsg ld e orig x s = _
    unfold execRidgeQmsg
    rw [htake]
    rfl

theorem link_off (h : s.linkOn = false) (ld : Bool) (e : LinkErr) (orig : Fin 8) :
    (∀ l r, exec (.ridgeStop ld e orig l r) s = .next s) ∧ (∀ a b c d, exec (.ridgeTime ld e orig a b c d) s = .next s)
    ∧ (∀ w g o v, exec (.ridgeMreq ld e orig w g o v) s = .next s) ∧ (∀ g o v, exec (.ridgeMrsp ld e orig g o v) s = .next s)
    ∧ (∀ x, exec (.ridgeQmsg ld e orig x) s = .next s) ∧ exec .ridgeStopSend s = .next s
    ∧ (∀ q, exec (.ridgeQmsgSend q) s = .next s) ∧ (∀ b, exec (.ridgeAlignmentTimeout b) s = .next s) := by
  obtain ⟨htime, hreq, hrsp, hmsg⟩ := exec_taken_off h ld e orig
  exact ⟨fun l r => congrArg Host.Outcome.next (stopFrame_off h ld e orig l r), htime, hreq, hrsp, hmsg,
    congrArg Host.Outcome.next (if_neg (by simp [h])), fun q => congrArg Host.Outcome.next (if_neg (by simp [h])),
    fun b => congrArg Host.Outcome.next (if_pos (by simp [h]))⟩

section
variable (h : s.linkOn = true)
include h

/-! ### STOP frames (21 R542-R544) -/

theorem exec_ridgeStopSend : exec .ridgeStopSend s = .next s.stopSend := congrArg Host.Outcome.next (if_pos h)

theorem ridgeStop_error {e : LinkErr} (he : e ≠ .none) (ld : Bool) (orig : Fin 8) (l : BitVec 16) (r : Byte) :
    ∃ t, exec (.ridgeStop ld e orig l r) s = .next t
      ∧ t.reg (lnkB + (if e = .code then 0x20 else 0x24)) = s.reg (lnkB + (if e = .code then 0x20 else 0x24)) + 1
      ∧ t.lnk.present = s.lnk.present ∧ t.lnk.lines = s.lnk.lines ∧ t.lnk.sent = s.lnk.sent :=
  ⟨_, congrArg Host.Outcome.next (stopFrame_error h he ld orig l r), linkError_counts s ld e⟩

theorem ridgeStop_own {orig : Fin 8} (hid : orig.val = s.lnk.id) (ld : Bool) (l : BitVec 16) (r : Byte) :
    ∃ t, exec (.ridgeStop ld .none orig l r) s = .next t ∧ t.lnk = { s.lnk with err := true }
      ∧ (t.reg lnkB).getLsbD 1 = true ∧ (t.reg lnkB).getLsbD 3 = true ∧ (t.src 176).rail ≠ .ok := by
  obtain ⟨hlnk, hbit, hsrc, hkept, -⟩ := linkFault_sets (s.setBits lnkB (flag 3 true)) 1
  exact ⟨_, congrArg Host.Outcome.next (stopFrame_own h hid ld l r), hlnk, hbit, hkept 3 (setBits_sets s lnkB rfl), hsrc⟩

theorem ridgeStop_marks {orig : Fin 8} (hid : orig.val ≠ s.lnk.id) (ld : Bool) (l : BitVec 16) (r : Byte) :
    ∃ t, exec (.ridgeStop ld .none orig l r) s = .next t
      ∧ t.lnk.present.getLsbD orig = true ∧ t.lnk.fresh.getLsbD orig = true ∧ look 0 t.lnk.lines orig = l
      ∧ (t.side ld).run = (s.side ld).run + 1 ∧ (3 ≤ (s.side ld).run → (t.side ld).up = true)
      ∧ (∃ f, t.lnk.sent = [f] ∧ f.ld = !ld ∧ f.type = 1 ∧ f.orig = orig.val ∧ f.payload = bytesOfNat 4 l.toNat) :=
  ⟨_, congrArg Host.Outcome.next (stopFrame_arrives h hid ld l r), stopArrives_marks s ld orig l r⟩

theorem ridgeStopSend_sends : ∃ t f g, exec .ridgeStopSend s = .next t ∧ t.lnk.refresh = s.lnk.refresh + 1 ∧ t.lnk.sent = [f, g]
    ∧ f.ld = false ∧ g.ld = true ∧ f.orig = s.lnk.id
    ∧ f.payload = bytesOfNat 4 (if s.md.mode = .run then s.zoneLines else 0xFFFF).toNat ∧ g.payload = f.payload := by
  obtain ⟨f, g, hsend⟩ := stopSend_sends s
  exact ⟨_, f, g, exec_ridgeStopSend h, hsend⟩

/-! ### Time and alignment (21 R545) -/

theorem exec_ridgeTime {orig : Fin 8} (hid : orig.val ≠ s.lnk.id) (ld : Bool) (t1 t2 t3 t4 : Stamp) :
    exec (.ridgeTime ld .none orig t1 t2 t3 t4) s
      = .next (if s.lnk.reference then s else s.exchange (thetaHalf t1 t2 t3 t4)) := by
  show Host.Outcome.next (s.timeFrame ld .none orig t1 t2 t3 t4) = _
  unfold timeFrame
  rw [linkTake_taken h hid]
  cases s.lnk.reference <;> rfl

theorem ridgeTime_reference {orig : Fin 8} (hid : orig.val ≠ s.lnk.id) (hr : s.lnk.reference = true) (ld : Bool)
    (t1 t2 t3 t4 : Stamp) : exec (.ridgeTime ld .none orig t1 t2 t3 t4) s = .next s := by
  rw [exec_ridgeTime h hid, if_pos hr]

theorem ridgeTime_offset {orig : Fin 8} (hid : orig.val ≠ s.lnk.id) (hr : s.lnk.reference = false) (ld : Bool) (t1 t2 t3 t4 : Stamp) :
    ∃ t, exec (.ridgeTime ld .none orig t1 t2 t3 t4) s = .next t
      ∧ t.lnk.theta = BitVec.ofInt 16 ((thetaHalf t1 t2 t3 t4 * 5).tdiv 2) := by
  refine ⟨_, exec_ridgeTime h hid ld t1 t2 t3 t4, ?_⟩
  rw [if_neg (Bool.eq_false_iff.1 hr), exchange_theta]

omit h in
theorem exec_alignment_reference (hr : s.lnk.reference = true) (b : Bool) : exec (.ridgeAlignmentTimeout b) s = .next s :=
  congrArg Host.Outcome.next (if_pos (by simp [hr]))

section
variable (hr : s.lnk.reference = false)
include hr

theorem alignment_lost (ha : s.lnk.aligned = true) (b : Bool) : ∃ t, exec (.ridgeAlignmentTimeout b) s = .next t
    ∧ t.lnk.aligned = false ∧ t.lnk.lost = true ∧ (t.src 177).rail ≠ .ok := by
  obtain ⟨hlnk, hsrc⟩ := alignLost_sets s
  refine ⟨s.alignLost, congrArg Host.Outcome.next ((if_neg (by simp [h, hr])).trans (if_pos (by simp [ha]))), ?_, ?_, hsrc⟩
  · rw [hlnk]
  · rw [hlnk]

theorem alignment_takes (ha : s.lnk.aligned = false) (hs : s.lnk.stepped = false) :
    ∃ t, exec (.ridgeAlignmentTimeout false) s = .next t ∧ t.lnk = { s.lnk with reference := true } :=
  ⟨{ s with lnk := { s.lnk with reference := true } }, congrArg Host.Outcome.next ((if_neg (by simp [h, hr])).trans
    ((if_neg (by simp [ha])).trans (if_neg (by simp [hs])))), rfl⟩

end

/-! ### Requests of other devices (21 R546) -/

section
variable {orig : Fin 8} (hid : orig.val ≠ s.lnk.id) {ld : Bool} {g : BitVec 32} {o : BitVec 28} {v : Word}
include hid

theorem exec_ridgeMreq (w : Bool) :
    exec (.ridgeMreq ld .none orig w g o v) s = .next (s.serveRequest ld orig w g o.toNat v) := by
  show execRidgeMreq ld .none orig w g o v s = _
  unfold execRidgeMreq
  rw [linkTake_taken h hid]
  rfl

theorem ridgeMreq_refused {w : Bool} (hno : s.revoked 7 = true ∨ s.exposes orig o.toNat w = false) :
    ∃ t f, exec (.ridgeMreq ld .none orig w g o v) s = .next t ∧ t.lnk.sent = [f] ∧ f.type = 4 ∧ f.dest = orig.val ∧ f.tag = g
      ∧ f.payload.head? = some 0 ∧ t.mem = s.mem := by
  rw [exec_ridgeMreq h hid, serveRequest_refused hno]
  exact ⟨_, _, rfl, rfl, rfl, rfl, rfl, rfl, rfl⟩

section
variable (hr : s.revoked 7 = false) {w : Bool} (he : s.exposes orig o.toNat w = true) (hs : s.sound o.toNat)
include hr he hs

theorem ridgeMreq_reads (hw : w = false) :
    ∃ t f, exec (.ridgeMreq ld .none orig w g o v) s = .next t ∧ t.lnk.sent = [f] ∧ f.type = 4 ∧ f.dest = orig.val ∧ f.tag = g
      ∧ f.payload = 1 :: bytesOfWord (BitVec.ofNat 32 (s.num o.toNat 4)) ∧ t.mem.cells = s.mem.cells := by
  subst hw
  rw [exec_ridgeMreq h hid, serveRequest_reads hr hs he]
  exact ⟨_, _, rfl, rfl, rfl, rfl, rfl, rfl, rfl⟩

theorem ridgeMreq_writes (hw : w = true) :
    ∃ t f, exec (.ridgeMreq ld .none orig w g o v) s = .next t ∧ t.lnk.sent = [f] ∧ f.type = 4 ∧ f.dest = orig.val ∧ f.tag = g
      ∧ f.payload.head? = some 1 ∧ t.mem.cells = (s.setBytes o.toNat (bytesOfWord v)).mem.cells := by
  subst hw
  rw [exec_ridgeMreq h hid, serveRequest_writes hr hs he]
  exact ⟨_, _, rfl, rfl, rfl, rfl, rfl, rfl, rfl⟩

end

/-! ### Responses and queue messages (21 R546, R547) -/

theorem exec_ridgeMrsp (ok : Bool) : exec (.ridgeMrsp ld .none orig g ok v) s = .next (s.endRequest orig g ok v) := by
  show execRidgeMrsp ld .none orig g ok v s = _
  unfold execRidgeMrsp
  rw [linkTake_taken h hid]
  rfl

theorem exec_ridgeQmsg (entry : List Byte) : exec (.ridgeQmsg ld .none orig entry) s = .next (s.takeMessage entry) := by
  show execRidgeQmsg ld .none orig entry s = _
  unfold execRidgeQmsg
  rw [linkTake_taken h hid]
  rfl

theorem ridgeQmsg_enters {entry : List Byte} (hr : s.revoked 7 = false) (hfull : s.qFull (92 + (entry.getD 1 0).toNat % 4) = false)
    (hen : s.qEn (92 + (entry.getD 1 0).toNat % 4) = true) : ∃ t, exec (.ridgeQmsg ld .none orig entry) s = .next t
      ∧ (t.queue (92 + (entry.getD 1 0).toNat % 4)).slots = (s.queue (92 + (entry.getD 1 0).toNat % 4)).slots
        ++ [{ idx := (s.queue (92 + (entry.getD 1 0).toNat % 4)).next, st := .published }] := by
  refine ⟨_, (exec_ridgeQmsg h hid entry).trans (congrArg Host.Outcome.next (if_neg (by simp [hr]))), qPush_slots hfull hen entry⟩

theorem ridgeQmsg_lost {entry : List Byte} (hr : s.revoked 7 = true) :
    ∃ t, exec (.ridgeQmsg ld .none orig entry) s = .next t ∧ t.queues = s.queues ∧ t.mem = s.mem :=
  ⟨_, (exec_ridgeQmsg h hid entry).trans (congrArg Host.Outcome.next (if_pos hr)), rfl, rfl⟩

end

section
variable {q : Fin 4} {u : State} {entry : List Byte} (hr : s.revoked 7 = false) (hpop : s.qPop (88 + q) = (u, some entry))
  (hgov : s.governs = true) (hg : ∃ g ∈ s.gov.grants, g.who = .job 3 ∧ g.ended = false)
include hr hpop hgov hg

theorem exec_ridgeQmsgSend : exec (.ridgeQmsgSend q) s
    = .next (if (entry.getD 0 0).toNat % 8 == s.lnk.id || !bit s.lnk.present ((entry.getD 0 0).toNat % 8) then u.countUp (lnkB + 0x28)
      else u.linkSend [u.frameTo 5 ((entry.getD 0 0).toNat % 8) 0 entry]) := by
  refine congrArg Host.Outcome.next ((if_pos (by simp [qAvail_of_qPop hpop, h, hr])).trans ?_)
  rw [underGrant_granted hgov hg, sendMessage_of_qPop hr h hpop]

theorem ridgeQmsgSend_sends (hd : (entry.getD 0 0).toNat % 8 ≠ s.lnk.id)
    (hp : s.lnk.present.getLsbD ((entry.getD 0 0).toNat % 8) = true) :
    ∃ t f, exec (.ridgeQmsgSend q) s = .next t ∧ t.queue (88 + q) = u.queue (88 + q) ∧ t.lnk.sent = [f] ∧ f.type = 5
      ∧ f.dest = (entry.getD 0 0).toNat % 8 ∧ f.payload = entry := by
  have hgoes : ((entry.getD 0 0).toNat % 8 == s.lnk.id || !bit s.lnk.present ((entry.getD 0 0).toNat % 8)) = false := by
    rw [beq_eq_false_iff_ne.2 hd, show bit s.lnk.present ((entry.getD 0 0).toNat % 8) = true from hp]
    rfl
  rw [exec_ridgeQmsgSend h hr hpop hgov hg, if_neg (Bool.eq_false_iff.1 hgoes)]
  exact ⟨_, _, rfl, rfl, rfl, rfl, rfl, rfl⟩

theorem ridgeQmsgSend_drops (hno : (entry.getD 0 0).toNat % 8 = s.lnk.id
      ∨ s.lnk.present.getLsbD ((entry.getD 0 0).toNat % 8) = false) :
    exec (.ridgeQmsgSend q) s = .next (u.countUp (lnkB + 0x28)) := by
  have hdrop : ((entry.getD 0 0).toNat % 8 == s.lnk.id || !bit s.lnk.present ((entry.getD 0 0).toNat % 8)) = true := by
    rcases hno with hd | hp
    · rw [beq_iff_eq.2 hd, Bool.true_or]
    · rw [show bit s.lnk.present ((entry.getD 0 0).toNat % 8) = false from hp, Bool.not_false, Bool.or_true]
  rw [exec_ridgeQmsgSend h hr hpop hgov hg, if_pos hdrop]

end
end

theorem ridgeQmsgSend_denied (hgov : s.governs = false) (q : Fin 4) :
    ∃ t, exec (.ridgeQmsgSend q) s = .next t ∧ t.queues = s.queues ∧ t.lnk = s.lnk := by
  refine ⟨_, rfl, ?_⟩
  split
  · obtain ⟨g, hg⟩ := underGrant_denied (s := s) (n := 3) (.inl hgov) 2 (fun t => t.sendMessage q)
    rw [hg]
    exact ⟨rfl, rfl⟩
  · exact ⟨rfl, rfl⟩

/-! ### What is no longer heard (21 R542, R546) -/

theorem ridgeSideDown_ends (s : State) (ld : Bool) : ∃ t, exec (.ridgeSideDown ld) s = .next t ∧ (t.side ld).up = false
    ∧ (t.side ld).run = 0 ∧ t.side (!ld) = s.side (!ld) := by
  refine ⟨_, rfl, ?_⟩
  rw [side_setSide, side_setSide_other]
  exact ⟨rfl, rfl, rfl⟩

end

/-- Settles O58: a frame by whether it is taken, and each kind of frame and timeout by what it leaves of the link. -/
theorem ridgeCommands : Obligations.RidgeCommands := by
  unfold Obligations.RidgeCommands
  intro s ld orig quiet
  refine ⟨fun h e => link_off h ld e orig, fun h => ⟨fun e he l r => ridgeStop_error h he ld orig l r,
      fun l r hid => ridgeStop_own h hid ld l r, fun l r hid => ridgeStop_marks h hid ld l r, ridgeStopSend_sends h,
      fun t1 t2 t3 t4 hid => ⟨fun hr => ridgeTime_reference h hid hr ld t1 t2 t3 t4,
        fun hr => ridgeTime_offset h hid hr ld t1 t2 t3 t4⟩,
      ⟨exec_alignment_reference, fun hr ha b => alignment_lost h hr ha b, alignment_takes h⟩,
      fun w g o v hid => ⟨ridgeMreq_refused h hid, fun hr he hw hs => ridgeMreq_reads h hid hr he hs hw,
        fun hr he hw hs => ridgeMreq_writes h hid hr he hs hw⟩,
      fun g ok v hid => ?_,
      fun entry hid => ⟨ridgeQmsg_enters h hid, ridgeQmsg_lost h hid⟩,
      fun q u entry hr hpop hgov hg => ⟨ridgeQmsgSend_sends h hr hpop hgov hg, ridgeQmsgSend_drops h hr hpop hgov hg⟩,
      fun q hgov => ridgeQmsgSend_denied hgov q⟩,
    ⟨_, rfl, State.originGone_marks s orig⟩, ridgeSideDown_ends s ld, fun g => ⟨?_, fun hno => ?_⟩⟩
  · have hrun := exec_ridgeMrsp h hid (ld := ld) (g := g) (v := v) ok
    refine ⟨?_, fun x rest _ => ⟨_, hrun⟩, ?_, fun hno => ?_⟩
    · rintro x rest hx ⟨hw, hf, hk⟩
      exact ⟨_, hrun, State.endRequest_remote hw hf hk hx ok v⟩
    · rintro x rest hx ⟨hw, hf, hk⟩
      exact ⟨_, hrun, fun h6 => (State.endRequest_debug hw hf hk hx h6 ok v).1,
        fun h6 => (State.endRequest_debug hw hf hk hx h6 ok v).2⟩
    · rw [hrun, State.endRequest_none hno]
  · rintro x rest hx ⟨hw, hf, hk⟩
    exact ⟨_, rfl, State.endRequest_remote hw hf hk hx false 0⟩
  · exact congrArg Host.Outcome.next (State.endRequest_none hno false 0)

end Sys2Proof.Machine
end
